-- ==== Sys2Proof/Word.lean ====
section
/-!
DEFINITION. The words of the model: a byte, a register of BAR0 (64 bits), a snapshot unit or V register (512 bits).
-/
namespace Sys2Proof

/-- One byte. -/
abbrev Byte := BitVec 8
/-- A 64-bit register of BAR0 (R324). -/
abbrev Word := BitVec 64
/-- A 64-byte unit: a V register, a snapshot unit, an SRAM word (R68, R69, R142). -/
abbrev Unit64 := BitVec 512
/-- TAI time in nanoseconds (R56). -/
abbrev Tai := Nat

end Sys2Proof
end

