-- ==== Sys2Proof/Args.lean ====
section
/-!
DEFINITION. The operands that the commands of `Sys2Proof/Syntax.lean` carry: what reaches the module from outside or is
fixed by a track (spec/04_isa_compute.md, spec/05_isa_control.md) and what the environment supplies to an event.
-/
namespace Sys2Proof

/-- The issue context of one track operation: the logical tussock, the fabric clock of the issue counted from t_n with
slip included (R138), the track position of its bundle, the repeat index i (R102), the header's RPT, PSEL and PINV (R97) and
`FRM_COUNT` of the frame in which the run it works for started (R48). -/
structure Iss where
  tus : Fin 256
  clk : Nat
  pos : Nat
  rep : Nat
  rpt : BitVec 4
  psel : BitVec 3
  pinv : Bool
  run : Nat
deriving DecidableEq, Repr

/-- T-slot fields of Table 4.7. -/
structure TArg where
  fmta : BitVec 4
  fmtb : BitVec 4
  td : BitVec 3
  va : BitVec 6
  vb : BitVec 6
  vs : BitVec 6
  z : Bool
  av : Bool
  ts : BitVec 3
deriving DecidableEq, Repr

/-- V-slot fields of Table 4.9. -/
structure VArg where
  fmt : BitVec 4
  vd : BitVec 6
  va : BitVec 6
  vb : BitVec 6
  vc : BitVec 6
  rm : Bool
  avm : BitVec 4
  fn : BitVec 7
deriving DecidableEq, Repr

/-- Register–memory fields of Table 4.11. -/
structure MemArg where
  v : BitVec 6
  aa : BitVec 4
  ai : BitVec 4
  pi : Bool
  av : Bool
  off : BitVec 16
deriving DecidableEq, Repr

/-- Block-transfer fields of Table 4.11. -/
structure BlkArg where
  al : BitVec 4
  ar : BitVec 4
  len : BitVec 8
  slu : BitVec 13
  rte : BitVec 10
  pi : Bool
deriving DecidableEq, Repr

/-- S-slot fields of Table 5.1. -/
structure SArg where
  ty : Bool
  sd : BitVec 5
  sa : BitVec 5
  sb : BitVec 5
  fn : BitVec 24
deriving DecidableEq, Repr

/-- Roles of Table 1.3, coded as in Table 6.2. -/
inductive Role where
  | control | sensorFusion | learning | domain | auxiliary
deriving DecidableEq, Repr

/-- An HBM window of Table 3.4; `kind` is 0 fixed, 1 carried-state, 2 exchange, 3 elastic; `write` and `read` its direction;
`slot0` to `slot1` its slots and `beats` its beats per pseudo-channel and slot by rung. A RING window (R213, R214) has 2^`ring`
positions of `len` bytes from `base` on; a read window of the learning plan advances by `step` positions a frame. -/
structure Window where
  base : Nat
  len : Nat
  read : Bool
  write : Bool
  kind : Nat
  slot0 : Nat
  slot1 : Nat
  beats : List Nat
  ring : Option Nat
  step : Nat
deriving DecidableEq, Repr

/-- A placement entry (R169): the tussock map, which gives a logical tussock for each track slot of the plan, or 0xFFFF for a slot
that is not used; the rungs it provides (bit r); the constant-store offset of the route table, by track slot. -/
structure Placement where
  map : List Nat
  rungs : Nat
  routes : List Nat
deriving DecidableEq, Repr

/-- The logical tussocks that a placement's map names (R169). -/
def Placement.tussocks (q : Placement) : List Nat := q.map.filter (fun t => decide (t ≠ 0xFFFF))

/-- The constant-store offset of a tussock's route table (R154, R169). -/
def Placement.routeBase (q : Placement) (t : Nat) : Nat := q.routes.getD (q.map.findIdx (fun x => decide (x = t))) 0

/-- The track image of a placement, rung and logical tussock (R95, R153): its bundles, by track position. -/
structure TrackImage where
  place : Nat
  rung : Nat
  tussock : Nat
  bundles : List (BitVec 256)
deriving DecidableEq, Repr

/-- The constant-store image of a placement, rung and logical tussock (R95, R153): where in the store it lies, and its bytes. -/
structure ConstImage where
  place : Nat
  rung : Nat
  tussock : Nat
  offset : Nat
  bytes : List Byte
deriving DecidableEq, Repr

/-- A carried-state region (R153): its two banks (base of bank 0, of bank 1 and length), layout hash and the index of the
region of the predecessor that it inherits, if any. -/
structure Carried where
  bank0 : Nat
  bank1 : Nat
  len : Nat
  layout : Nat
  inherit_ : Option Nat
deriving DecidableEq, Repr

/-- A promotion entry (Table 8.9): KIND 1 weights, 2 calibration; FP32 figures as their 32-bit encodings. -/
structure PromoEntry where
  kind : Nat
  bankA : Nat
  bankB : Nat
  len : Nat
  layout : Nat
  valMin : Nat
  improve : BitVec 32
  mAbs : BitVec 32
  groupTol : BitVec 32
  tr : BitVec 32
  outdevW : BitVec 32
  outdevSp : BitVec 32
  demoteClamp : Nat
  offStep : List (BitVec 32)
deriving DecidableEq, Repr

/-- One plan of a plan set: the header of Table 6.2 and the sections R153 lists, as the checker reads them. Ranges are
(first, count); outputs are (OCLS, first, count), CAN objects (bus, first, count); `sluices` are (first, count, home); `devBound`
gives, for a rung, the bound of each output class from class 0 on; `promos` are the promotion entries of its HBM claim (R216). -/
structure Plan where
  planId : Nat
  role : Role
  partition : Nat
  cadenceJ : Nat
  phase : Nat
  depth : Nat
  rungs : Nat
  infMode : Bool
  hummocks : Nat
  completion : Nat
  sluices : List (Nat × Nat × Nat)
  streams : List (Nat × Nat)
  hbm : List (Nat × Nat)
  windows : List Window
  outputs : List (Nat × Nat × Nat)
  canObjs : List (Nat × Nat × Nat)
  ports : Nat
  carried : List Carried
  placements : List Placement
  initData : List (Nat × List Byte)
  devBound : List (Nat × List Nat)
  promos : List PromoEntry
  tracks : List TrackImage
  consts : List ConstImage
deriving DecidableEq, Repr

/-- The promotion region that a plan declares (R216). -/
def Plan.promo (p : Plan) : Option PromoEntry := p.promos.head?

/-- A plan without sections. -/
def Plan.blank : Plan :=
  { planId := 0, role := .auxiliary, partition := 0, cadenceJ := 0, phase := 0, depth := 0, rungs := 0, infMode := false, hummocks := 0, completion := 0,
    sluices := [], streams := [], hbm := [], windows := [], outputs := [], canObjs := [], ports := 0, carried := [], placements := [], initData := [],
    devBound := [], promos := [], tracks := [], consts := [] }

/-- The row section (R172): bound packages (index, rack, stream, destination) and bound racks (rack, throttle pair). -/
structure RowSection where
  pkgs : List (Nat × Nat × Nat × Nat)
  racks : List (Nat × Nat)
deriving DecidableEq, Repr

/-- A plan set image as the checker reads it (Table 6.1 and R153). `keyId`, `signature` and `cosignature` are of its signature
block; `digestOk` says whether the DIGEST field is that of the bytes, `fieldsOk` whether reserved fields are 0 and the sections
lie inside the image. -/
structure PlanSet where
  digestOk : Bool
  fieldsOk : Bool
  cosignature : Option Nat
  format : Nat
  setId : Nat
  predId : Nat
  periodK : Nat
  epochMMin : Nat
  tool : Nat
  size : Nat
  row : Option RowSection
  plans : List Plan
  keyId : Nat
  digest : Nat
  signature : Nat
deriving DecidableEq, Repr

/-- What the sections of a plan set image and its row section hold; the spec lays out where they lie and not their bytes (R151, R153). -/
structure SetContents where
  plans : List Plan
  row : Option RowSection
deriving DecidableEq, Repr

/-- A sluice and the clock of the frame at which something happens at its home (R137). -/
structure SluiceClk where
  slu : Fin 8192
  clk : Nat
deriving DecidableEq, Repr

/-- A tussock and a clock of the frame. -/
structure TusClk where
  tus : Fin 256
  clk : Nat
deriving DecidableEq, Repr

/-- One of the four block transfers in flight of a tussock and a clock of the frame (R119). -/
structure XferClk where
  slot : Fin 4
  clk : Nat
deriving DecidableEq, Repr

/-- A CAN frame as the controller sees it (R265, R272). -/
structure CanFrame where
  id : Nat
  ide : Bool
  fdf : Bool
  brs : Bool
  esi : Bool
  rtr : Bool
  dlc : Nat
  data : List Byte
deriving DecidableEq, Repr

/-- What a temperature conversion reads (R286, Table 12.2): the converted value in Q16 °C before saturation, and whether
the element resistance is above (or excitation lost) or below the range. -/
structure TempReading where
  value : Int
  open_ : Bool
  short : Bool
deriving DecidableEq, Repr

/-- What a leak scan measures (R289, R290): a voltage found before excitation, a broken loop, the resistance between the
legs in kΩ, and the ratio k as a fraction. -/
structure LeakScan where
  contend : Bool
  broken : Bool
  kohm : Nat
  kNum : Nat
  kDen : Nat
deriving DecidableEq, Repr

/-- What a pump drive samples in one PWM period (R250): the three phase currents in 10 mA, the bus voltage in 0.1 V, the
observer's speed estimate in 0.01 % of rated speed, and whether the observer is locked. -/
structure PwmSample where
  iu : Int
  iv : Int
  iw : Int
  rail : Bool
  vbus : Nat
  speed : Nat
  locked : Bool
deriving DecidableEq, Repr

/-- The causes of a pump fault of Table 10.1 other than START_FAIL. -/
inductive PumpCause where
  | oc | gateFlt | isense | lockLost
deriving DecidableEq, Repr

/-- A received UDP datagram (R300, R304). -/
structure Datagram where
  src : BitVec 128
  dstOk : Bool
  udpPort : Nat
  checksumOk : Bool
  bytes : List Byte
deriving DecidableEq, Repr

/-- A PTP Sync as measured (R302, R303): the offset to the grandmaster in ns and the grandmaster's identity. -/
structure SyncMeas where
  offset : Int
  gm : BitVec 64
  intervalNs : Nat
deriving DecidableEq, Repr

/-- An Announce message's dataset, ordered by `rank` (the best master clock comparison, lower is better). -/
structure Announce where
  gm : BitVec 64
  rank : Nat
  domain : Nat
deriving DecidableEq, Repr

/-- A record of the partner over P0 (R346): a holder's renewal or a standby's record. -/
structure P0Record where
  modId : Nat
  role : Nat
  epoch : Nat
  renewal : Bool
  release : Bool
  endX : Nat
  noPlace : Bool
  forced : Nat
  prot : Bool
  cleanF : Nat
  setId : Nat
  digestW : Nat
  digestC : Nat
deriving DecidableEq, Repr

/-- One accepted register write as it travels in an image (R345): offset, mask of written bits, new value, the origin and
requester that made it. -/
structure MirrorWrite where
  off : Nat
  mask : Word
  value : Word
  origin : Nat
  requester : Nat
deriving DecidableEq, Repr

/-- A sealed output block (R438): committed outputs keyed by 1024·OCLS + index in the output's own format, and CAN
transmits keyed by 256·bus + object with DLC and data. -/
structure OutBlock where
  frame : Nat
  outs : List (Nat × BitVec 32)
  can : List (Nat × Nat × List Byte)
  live : List Nat
deriving DecidableEq, Repr

/-- A state image of the active (R355): `placements` holds four bits per partition, `done` the partitions whose run completed in the
frame (the completion map), `carried` the contents of regions by the base of their bank 0, `ripple` the offset of each active ripple. -/
structure StateImage where
  frame : Nat
  complete : Bool
  leaseEpoch : Nat
  rung : Nat
  placements : Nat
  done : Nat
  missWin : Nat
  upCurLog : Nat
  probation : Bool
  lastStep : Nat
  block : OutBlock
  prevCaps : List (Nat × Nat)
  carried : List (Nat × List Byte)
  ripple : List (Nat × Int)
  writes : List MirrorWrite
  setId : Nat
  versionW : Nat
  versionC : Nat
  digestW : Nat
  digestC : Nat
  pairLevel : Nat
deriving DecidableEq, Repr

/-- What a member learns from the two-way exchange with its domain in a frame (R60 to R62): its offset to the reference in ns, the
frame period and epoch length that the domain will have from the next epoch edge, the positions in PTP lock and those whose offset
exceeds 1 µs, both as masks. -/
structure DomainTime where
  offset : Int
  periodK : Nat
  epochM : Nat
  locked : Nat
  far : Nat
deriving DecidableEq, Repr

/-- A message between a joiner and the domain time reference (R363): a member's request, or the answer to ours with the
code of Table 15.6 (0 for admission) and the domain's counters. -/
inductive DomainMsg where
  | request (modId partner pos periodK epochM recLen : Nat)
  | answer (code count epoch : Nat)
deriving DecidableEq, Repr

/-- The place of an uncorrectable error (R72, R82, R171). -/
inductive ErrSite where
  | localSram (tus : Fin 256) (off : Nat)
  | store (tus : Fin 256)
  | hummockSram (h : Fin 32) (off : Nat) (part : Fin 8)
  | hbm (addr : Nat) (part : Fin 8)
deriving DecidableEq, Repr

/-- Strap lines (Table 16.2). -/
structure Straps where
  pair : Bool
  boot : BitVec 2
  modId : BitVec 14
deriving DecidableEq, Repr

/-- A firmware image as the boot ROM reads it (Table 16.5). -/
structure FwImage where
  format : Nat
  fwVer : Nat
  svn : Nat
  pairLevel : Nat
  size : Nat
  digest : Nat
  sectionsInside : Bool
  signature : Nat
deriving DecidableEq, Repr

/-- What a start-up phase brings from outside (Table 16.1): the straps, the images that the sources of Table 16.4 yield
beside the slots, the fuse maps and the start-up test's findings per hummock (bit k for physical position k), and the
test of routers, hummock SRAM and pseudo-channels. -/
structure PhaseInput where
  straps : Straps
  serial : Word
  mac0 : Word
  mac1 : Word
  host : Option FwImage
  partner : Option FwImage
  svnMin : Nat
  fuse : List Nat
  test : List Nat
  sramBad : List Nat
  routerBad : Bool
  hbmBad : Bool
  dieC : Nat
deriving DecidableEq, Repr

/-- Inner operations of a signed command (Table 18.8). -/
inductive InnerOp where
  | regSet (writes : List (Nat × Word))
  | keyInstall (slot : Nat) (classes : Nat) (reqMldsa : Bool) (modulus : List Byte) (mldsa : List Byte)
  | keyRemove (slot : Nat)
  | grantSet (mask : Nat)
  | svnRaise (svn : Nat)
  | retireClear (positions : List (Nat × Nat))
  | resetFabric
  | resetModule (force : Bool)
deriving DecidableEq, Repr

/-- A signed object (Table 18.7) with its signature block (R152). -/
structure SignedObj where
  keyId : Nat
  modId : Nat
  ctr : Nat
  notAfter : Nat
  op : InnerOp
  fieldsOk : Bool
  signature : Nat
  cosignature : Option Nat
deriving DecidableEq, Repr

/-- One 48-byte record of CAL_SUBMIT (Table 14.5). -/
structure CalRecord where
  table : Nat
  replaced : Bool
  index : Nat
  entry : List Byte
deriving DecidableEq, Repr

/-- Readings of the 100 ms sensor refresh (R341, Table 14.10). -/
structure PldmReadings where
  dieC : Nat
  inletC : Nat
  power54 : Nat
  powerFan : Nat
deriving DecidableEq, Repr

/-- One trace record of Table 19.3: TYPE, partition, bytes 2–7 and the body. -/
structure TraceRec where
  type : Nat
  part : Nat
  head : List Nat
  body : List Nat
deriving DecidableEq, Repr

/-- A configuration transfer (R391): registers, the plan set in force, and the weight and calibration banks in force with their versions and digests. -/
structure ConfigTransfer where
  writes : List (Nat × Word)
  set : Option PlanSet
  bankW : List Byte
  bankC : List Byte
  versionW : Nat
  versionC : Nat
  digestW : Nat
  digestC : Nat
deriving DecidableEq, Repr

end Sys2Proof
end

