-- ==== Sys2Proof/Syntax.lean ====
section
/-!
DEFINITION. The commands of the module: one constructor for each row of spec/opcode_table.json, in the table's order, each
with its operands. `t` is the TAI time in nanoseconds at which the command falls.
-/
namespace Sys2Proof

/-- The commands (spec/opcode_table.json). -/
inductive Instr where
  /-- FRAME_EDGE (R54): At each TAI multiple of T_F the module latches snapshot n, releases the sealed block of frame n−1 and starts frame n in the order of Table 2.4. -/
  | frameEdge (t : Tai) (actIn : Bool)
  /-- DEADLINE_CHECK (R44): When slot 60 opens, unfinished partitions miss, their staged emits are discarded and in-flight runs abandoned. -/
  | deadlineCheck (t : Tai)
  /-- PROMOTION_RECORD_READ (R217): At slot 62 the frame sequencer reads each candidate bank's record and marks a sealed candidate SEALED. -/
  | promotionRecordRead (t : Tai)
  /-- PROMOTION_CHECK_COMPLETE (R217): The digest and checks of Table 8.11 finish and the candidate becomes PASSED, READY or REFUSED. -/
  | promotionCheckComplete (t : Tai) (k : Fin 2)
  /-- STATE_IMAGE_RECEIVED (R355): An image completes over P0 at the standby, or is counted in IMG_LOST if incomplete. -/
  | stateImageReceived (t : Tai) (img : StateImage)
  /-- SNAPSHOT_STREAM_RECEIVED (R355): The snapshot stream of frame n completes at the standby. -/
  | snapshotStreamReceived (t : Tai) (frame : Nat) (units : List (Nat × Unit64))
  /-- OUTPUT_BLOCK_ARRIVAL (R42): The output block reaches the companion controller at t_n + 400 ns and CAN transmits enter the bus queues. -/
  | outputBlockArrival (t : Tai)
  /-- LEASE_WORD_ARRIVAL (R17): The lease validity word from the pairing sequencer reaches the companion controller over the companion link. -/
  | leaseWordArrival (t : Tai)
  /-- COMPANION_SNAPSHOT_READY (R41): The companion-sourced part of the snapshot becomes readable at t_n + 1 µs, with the companion journal entries. -/
  | companionSnapshotReady (t : Tai)
  /-- SILENCE_CHECK (R243): At t_n + 2 µs a channel whose block did not arrive or whose target is not live counts a silent frame. -/
  | silenceCheck (t : Tai)
  /-- ON_SAFE (R243): At the SIL_F-th consecutive silent frame a channel becomes ON_SAFE and takes its safe-table target. -/
  | onSafe (t : Tai) (n : Fin 256)
  /-- LOOP_SAMPLE (R227): At each sample a channel applies u_{k−1}, takes writes and targets, latches feedback, profiles, supervises and computes u_k. -/
  | loopSample (t : Tai) (n : Fin 256)
  /-- FB_LOST (R237): After MISS_MAX + 1 consecutive missed samples the channel sets FB_LOST and becomes FAULTED. -/
  | fbLost (t : Tai) (n : Fin 256)
  /-- FOLLOW_ERR (R239): A following error beyond FE_LIM over FE_TIME sets FOLLOW_ERR and faults the channel. -/
  | followErr (t : Tai) (n : Fin 256)
  /-- IMPLAUS (R240): Feedback outside the band over BAND_TIME sets IMPLAUS and faults a channel not in NORMAL. -/
  | implaus (t : Tai) (n : Fin 256)
  /-- START_TO_NORMAL (R238): A START or RECOVER channel whose error stayed within FE_LIM over FE_TIME passes to effective NORMAL. -/
  | startToNormal (t : Tai) (n : Fin 256)
  /-- AUTO_RECOVER (R241): A FAULTED channel with AUTO_REC passes to RECOVER once its recovery condition has held over FE_TIME. -/
  | autoRecover (t : Tai) (n : Fin 256)
  /-- ZONE_RECOMPUTE (R256): At each T_S instant zone demands and fan commands are recomputed, with SPD_MIN and resonance bands. -/
  | zoneRecompute (t : Tai)
  /-- PWM_PERIOD (R250): Each PWM period a pump drive samples currents, runs the observer and current loops and sets the next duties. -/
  | pwmPeriod (t : Tai) (p : Fin 4) (m : PwmSample)
  /-- PUMP_START (R252): A pump whose reference rises above 0 % is aligned, ramped open-loop, or caught by a flying start. -/
  | pumpStart (t : Tai) (p : Fin 4) (turning : Bool)
  /-- PUMP_ALIGN_END (R252): After 100 ms of alignment the pump is driven open-loop towards 5 %. -/
  | pumpAlignEnd (t : Tai) (p : Fin 4)
  /-- FLYING_START_SYNC (R252): The flying-start measurement ends and the drive synchronises or falls back to alignment. -/
  | flyingStartSync (t : Tai) (p : Fin 4) (speed : Nat)
  /-- OBSERVER_LOCK (R252): The pump observer locks and the drive enters closed-loop control. -/
  | observerLock (t : Tai) (p : Fin 4)
  /-- START_FAIL (R253): No observer lock within 1.5 s of a start switches the gates off and sets START_FAIL. -/
  | startFail (t : Tai) (p : Fin 4)
  /-- PUMP_FAULT (R253): OC, GATE_FLT, ISENSE or LOCK_LOST switches the gates off, sets FLT_OFF and is raised. -/
  | pumpFault (t : Tai) (p : Fin 4) (cause : PumpCause)
  /-- PUMP_AUTO_RESTART (R253): With AUTO_RST, one flying start is made 1 s after a fault. -/
  | pumpAutoRestart (t : Tai) (p : Fin 4)
  /-- PUMP_STOP (R252): A pump brought down to below 3 % has its gates switched off. -/
  | pumpStop (t : Tai) (p : Fin 4)
  /-- FAN_ATTEMPT (R258): A fan start attempt aligns the fan and ramps it open-loop. -/
  | fanAttempt (t : Tai) (f : Fin 8)
  /-- FAN_ATTEMPT_RESULT (R258): The attempt succeeds on lock and tachometer agreement within 2 s, or fails and sets STALL. -/
  | fanAttemptResult (t : Tai) (f : Fin 8) (locked tachOk : Bool)
  /-- FAN_STALL (R258): A running fan that loses lock or stays at current limit stalls and counts a failure. -/
  | fanStall (t : Tai) (f : Fin 8)
  /-- RETRY_WAIT_EXPIRY (R259): The retry wait ends and the next attempt starts if the command is non-zero. -/
  | retryWaitExpiry (t : Tai) (f : Fin 8)
  /-- FAILS_RESET (R259): After 10 s of locked running FAILS returns to 0. -/
  | failsReset (t : Tai) (f : Fin 8)
  /-- FAN_OC (R255): Fan current beyond 1.25 × I_MAX switches the stage off and counts a failure. -/
  | fanOc (t : Tai) (f : Fin 8)
  /-- TACH_LOST (R260): Tachometer disagreement or missing edges for TACH_TIME set TACH_LOST and the fan runs sensorless. -/
  | tachLost (t : Tai) (f : Fin 8)
  /-- FAN_INPUT_LOW (R460): The 48 V input below 40 V for 10 ms switches every fan stage off and counts failures. -/
  | fanInputLow (t : Tai)
  /-- ACT_RISE (R262): When the module starts to assert ACT, drives start or synchronise and outputs leave high impedance. -/
  | actRise (t : Tai)
  /-- ACT_FALL (R280): When ACT falls, drives and outputs go off, CAN enters restricted operation and pending frames are cancelled. -/
  | actFall (t : Tai)
  /-- CAN_BUS_IDLE (R269): At bus idle the controller offers EMERG, then BEAT, then the queued frame with the lowest identifier. -/
  | canBusIdle (t : Tai) (b : Fin 4)
  /-- CAN_FRAME_SENT (R270): A frame completes on the bus and its object reports TXS sent. -/
  | canFrameSent (t : Tai) (b : Fin 4)
  /-- CAN_ARBITRATION_LOST (R269): A frame loses arbitration and is offered again, or withdrawn if its cancel was late. -/
  | canArbitrationLost (t : Tai) (b : Fin 4)
  /-- CAN_ERROR_FRAME (R282): A frame destroyed by an error frame updates the error counters and is retransmitted unless cancelled. -/
  | canErrorFrame (t : Tai) (b : Fin 4) (lec : Fin 7)
  /-- CAN_CANCEL (R270): A replacement, ACT fall or channel OFF cancels a pending frame, late if its start of frame has begun. -/
  | canCancel (t : Tai) (b : Fin 4) (m : Fin 256)
  /-- CAN_FRAME_RECEIVED (R272): A received frame is filtered to a FIFO, a receive object or rejection, and updates Peser values. -/
  | canFrameReceived (t : Tai) (b : Fin 4) (fr : CanFrame)
  /-- BEAT (R278): At the first commit edge after each BEAT_MS multiple, a BEAT with the lease epoch is queued on each enabled bus. -/
  | beat (t : Tai)
  /-- BUS_OFF (R283): At bus-off pending frames are discarded and the bus's Peser values become faulted. -/
  | busOff (t : Tai) (b : Fin 4)
  /-- BOFF_HOLD_EXPIRY (R283): After BOFF_HOLD ms the controller starts bus-off recovery. -/
  | boffHoldExpiry (t : Tai) (b : Fin 4)
  /-- BUS_OFF_RECOVERY_END (R283): Recovery ends and each object's newest committed frame re-enters the queue at the next commit edge. -/
  | busOffRecoveryEnd (t : Tai) (b : Fin 4)
  /-- CAN_REJOIN (R284): After EN is set the controller joins after 11 recessive bits and committed frames re-enter the queue. -/
  | canRejoin (t : Tai) (b : Fin 4)
  /-- PESER_CFG_TIMEOUT (R330): No CFG_RSP within the timeout completes the PESER_CFG command TIMEOUT. -/
  | peserCfgTimeout (t : Tai) (b : Fin 4)
  /-- TEMPERATURE_CONVERSION (R286): A temperature input completes its conversion and is checked for OPEN, SHORT and RANGE. -/
  | temperatureConversion (t : Tai) (i : Fin 64) (r : TempReading)
  /-- CURRENT_LOOP_SAMPLE (R287): A 4–20 mA raw sample is taken, averaged and checked against NE 43 limits. -/
  | currentLoopSample (t : Tai) (i : Fin 32) (ma : Int)
  /-- DIGITAL_INPUT_ACCEPT (R286): A digital input stable for DEB_MS is accepted and CHANGED is set. -/
  | digitalInputAccept (t : Tai) (j : Fin 16) (level : Bool)
  /-- LEAK_SCAN (R290): A leak rope is scanned in its half period, skipping on contention, and changes state after CONFIRM scans. -/
  | leakScan (t : Tai) (i : Fin 32) (m : LeakScan)
  /-- DIGITAL_OUTPUT_OC (R292): A digital output above 0.6 A switches off and sets OC. -/
  | digitalOutputOc (t : Tai) (j : Fin 16)
  /-- THROTTLE_LINE_FAULT (R297): A released throttle driver sees SHORT or OPEN current and sets LINE_FLT. -/
  | throttleLineFault (t : Tai) (n : Fin 32) (microamps : Nat)
  /-- ANALOG_OUTPUT_FAULT (R292): An analog output loses compliance or reaches its current limit and sets OPEN or SHORT. -/
  | analogOutputFault (t : Tai) (i : Fin 16)
  /-- INGEST_DATAGRAM (R304): An ingest datagram is checked and its records pass the arrival checks into the ingest queue. -/
  | ingestDatagram (t : Tai) (j : Fin 2) (d : Datagram)
  /-- RECORD_WRITE (R307): A record leaving the ingest queue is checked against the held GEN and replaces the stream's record. -/
  | recordWrite (t : Tai) (j : Fin 2)
  /-- DECIMATION_CHECK (R311): Every 100 µs the ingest queues are inspected and a class's decimation level is raised or lowered. -/
  | decimationCheck (t : Tai)
  /-- OTHER_DATAGRAM (R300): A datagram that is not PTP, ingest, ND or echo is dropped and counted. -/
  | otherDatagram (t : Tai) (j : Fin 2) (d : Datagram)
  /-- ICMPV6_ECHO (R299): An ICMPv6 echo request is answered. -/
  | icmpv6Echo (t : Tai) (j : Fin 2) (payload : List Byte)
  /-- NEIGHBOUR_DISCOVERY (R299): A neighbour discovery message is handled, and a duplicate address sets DAD_FAIL. -/
  | neighbourDiscovery (t : Tai) (j : Fin 2) (duplicate : Bool)
  /-- ETH_LINK_CHANGE (R315): An Ethernet port gains or loses link with FEC lock, moving failover destinations. -/
  | ethLinkChange (t : Tai) (j : Fin 2) (up : Bool)
  /-- PTP_SYNC (R303): An accepted Sync updates the offset, disciplines the timebase and may reach LOCKED. -/
  | ptpSync (t : Tai) (j : Fin 2) (m : SyncMeas)
  /-- PTP_ANNOUNCE (R302): An Announce message feeds the best master clock algorithm across both ports. -/
  | ptpAnnounce (t : Tai) (j : Fin 2) (a : Announce)
  /-- PTP_HOLDOVER (R303): No Sync for 8 intervals without another port takes the module to HOLDOVER. -/
  | ptpHoldover (t : Tai)
  /-- FIRST_FRAME_EDGE (R58): Once the timebase is valid, the first TAI multiple of E·T_F loads the counters and leaves role INIT. -/
  | firstFrameEdge (t : Tai) (actIn : Bool)
  /-- LEASE_PAIR_WORD (R346): A lease pair word is received and checked for CRC, kind and identifier. -/
  | leasePairWord (t : Tai) (w : BitVec 80)
  /-- P0_PARTNER_RECORD (R346): A renewal or standby record from the partner arrives over P0. -/
  | p0PartnerRecord (t : Tai) (r : P0Record)
  /-- LEASE_EXPIRY (R346): In pair mode the companion controller releases ACT at t_X unless a later renewal moved X. -/
  | leaseExpiry (t : Tai)
  /-- CLAIM (R350): A standby claims the lease at a frame edge with a new epoch, asserts ACT, checks ACT_IN and sends BEAT. -/
  | claim (t : Tai) (actIn4 : Bool)
  /-- PATHS_LOST (R348): No renewal seen on either path with ACT_IN asserted sets PATHS_LOST. -/
  | pathsLost (t : Tai)
  /-- FENCE (R351): A holder seeing a higher partner epoch, or FENCED_DEV with a live partner, becomes FENCED. -/
  | fence (t : Tai)
  /-- REEPOCH (R351): A holder seeing FENCED_DEV with no live partner takes a fresh epoch at the next edge. -/
  | reepoch (t : Tai)
  /-- HANDOVER_FRAME (R354): In the handover frame the active starts no runs and sends a release word. -/
  | handoverFrame (t : Tai)
  /-- HANDOVER_ACT_FALL (R354): At t_{e+1} the old active's ACT falls and it becomes STANDBY_SYNC. -/
  | handoverActFall (t : Tai)
  /-- AUTO_HANDOVER_REQUEST (R354): An active whose control partition has no placement requests a handover itself. -/
  | autoHandoverRequest (t : Tai)
  /-- CONFIG_TRANSFER_REQUEST (R391): A standby entering STANDBY_SYNC with P0 up asks its partner for a configuration transfer. -/
  | configTransferRequest (t : Tai)
  /-- CONFIG_TRANSFER_COMPLETE (R391): The transferred registers are applied as one change, the LPE save starts and the plan set is checked and armed. -/
  | configTransferComplete (t : Tai) (c : ConfigTransfer)
  /-- P0_TIME_EXCHANGE (R357): The standby follows the active's frame edges by a two-way time exchange over P0. -/
  | p0TimeExchange (t : Tai) (offset : Int)
  /-- DOMAIN_TIME_EXCHANGE (R61): Members follow the domain time reference by a two-way exchange on P1–P4, setting ALIGN_ERR beyond ±50 ns. -/
  | domainTimeExchange (t : Tai) (x : DomainTime)
  /-- DOMAIN_ADMISSION (R363): The time reference admits or refuses a join request with a code of Table 15.6. -/
  | domainAdmission (t : Tai) (m : DomainMsg)
  /-- BOUNDARY_RECORD_ARRIVAL (R364): A boundary record relayed round the torus arrives and is written to a posted XRCV buffer. -/
  | boundaryRecordArrival (t : Tai) (port : Fin 4) (record : List Byte)
  /-- DOMAIN_LINK_DOWN (R366): A domain link goes down and records route around the ring. -/
  | domainLinkDown (t : Tai) (port : Fin 4)
  /-- POSITION_LOST (R366): Links down 10 µs or records missing 2 frames make a position LOST, delivered as EMPTY records. -/
  | positionLost (t : Tai) (pos : Fin 16)
  /-- COMPARATOR_EVAL (R394): At each T_S instant every enabled comparator evaluates its condition and clear condition. -/
  | comparatorEval (t : Tai)
  /-- COMPARATOR_ACTIVATION (R394): A condition true at two instants and through QUAL_MS makes the comparator active and counted. -/
  | comparatorActivation (t : Tai) (c : Fin 32)
  /-- COMPARATOR_CLEAR (R394): A clear condition at two instants makes the comparator inactive. -/
  | comparatorClear (t : Tai) (c : Fin 32)
  /-- RESPONSE_RELEASE (R400): After HOLD_MS with no active comparator and no latch the response's actions end together. -/
  | responseRelease (t : Tai) (j : Fin 8)
  /-- MIN_ASSERTION_EXPIRY (R296): The 1 ms minimum assertion of a throttle pair runs out. -/
  | minAssertionExpiry (t : Tai) (n : Fin 32)
  /-- MODULE_COOLING_STATE (R405): Die or inlet temperature held past a threshold moves the module-cooling state up or down. -/
  | moduleCoolingState (t : Tai) (dieC inletC : Nat)
  /-- CRITICAL (R407): In CRITICAL the frame sequencer halts compute and may stop renewing the lease. -/
  | critical (t : Tai)
  /-- SHUTDOWN (R408): The on-die thermal trip cuts the fabric rails within 1 ms. -/
  | shutdown (t : Tai)
  /-- STANDALONE_SHUTDOWN_ACT_RELEASE (R408): A standalone module releases ACT DUR_F frames after the SHUTDOWN cut. -/
  | standaloneShutdownActRelease (t : Tai)
  /-- UNCORRECTABLE_ERROR (R72): An uncorrectable SRAM, store or HBM error retires the tussock or abandons the reading run. -/
  | uncorrectableError (t : Tai) (site : ErrSite)
  /-- RETIREMENT_LOG_WRITE (R376): A live retirement is written to the retirement log in boot flash within 50 ms. -/
  | retirementLogWrite (t : Tai) (tus : Fin 256)
  /-- CORRECTED_ERROR (R72): A single-bit error is corrected inline and counted. -/
  | correctedError (t : Tai) (tus : Option (Fin 256))
  /-- HBM_REREAD (R82): A controller re-read delays an HBM access by at most 1.2 µs and is counted. -/
  | hbmReread (t : Tai)
  /-- SLUICE_SIGNAL (R136): A signal reaching a sluice's home increments COUNT and may make it MET, or is stray. -/
  | sluiceSignal (x : SluiceClk)
  /-- ABSORBED_SIGNAL (R136): An absorbed transfer signals its sluice, which becomes ABSORBED. -/
  | absorbedSignal (x : SluiceClk)
  /-- SLUICE_RELEASE (R138): A release reaches a waiting tussock and issue resumes at the computed clock with new slip. -/
  | sluiceRelease (tus : Fin 256) (clk : Nat)
  /-- WAIT_OVERDUE (R139): A wait reaching its bound makes the sluice OVERDUE and stops the tussock's issue for the frame. -/
  | waitOverdue (x : TusClk)
  /-- TRANSFER_COMPLETE (R119): A block transfer completes and signals its sluice. -/
  | transferComplete (tus : Fin 256) (k : XferClk)
  /-- TMMA (R111): Tensor multiply-accumulate of A·B into a tile. -/
  | tmma (c : Iss) (a : TArg)
  /-- TZERO (R111): Zeroes a tile. -/
  | tzero (c : Iss) (a : TArg)
  /-- TADD (R111): Adds a source tile to a destination tile. -/
  | tadd (c : Iss) (a : TArg)
  /-- TMOV (R111): Copies a source tile to a destination tile. -/
  | tmov (c : Iss) (a : TArg)
  /-- VADD (R114): Lane-wise vector add. -/
  | vadd (c : Iss) (a : VArg)
  /-- VSUB (R114): Lane-wise vector subtract. -/
  | vsub (c : Iss) (a : VArg)
  /-- VMUL (R114): Lane-wise vector multiply. -/
  | vmul (c : Iss) (a : VArg)
  /-- VFMA (R114): Lane-wise fused multiply-add with one rounding. -/
  | vfma (c : Iss) (a : VArg)
  /-- VMIN (R114): Lane-wise minimum. -/
  | vmin (c : Iss) (a : VArg)
  /-- VMAX (R114): Lane-wise maximum. -/
  | vmax (c : Iss) (a : VArg)
  /-- VABS (R114): Lane-wise absolute value. -/
  | vabs (c : Iss) (a : VArg)
  /-- VNEG (R114): Lane-wise negation. -/
  | vneg (c : Iss) (a : VArg)
  /-- VCLMP (R114): Lane-wise clamp of a between b and c. -/
  | vclmp (c : Iss) (a : VArg)
  /-- VDIV (R114): Lane-wise division. -/
  | vdiv (c : Iss) (a : VArg)
  /-- VSQRT (R114): Lane-wise square root. -/
  | vsqrt (c : Iss) (a : VArg)
  /-- VRCP (R114): Lane-wise reciprocal. -/
  | vrcp (c : Iss) (a : VArg)
  /-- VRSQ (R114): Lane-wise reciprocal square root. -/
  | vrsq (c : Iss) (a : VArg)
  /-- VEXP2 (R114): Lane-wise base-2 exponential. -/
  | vexp2 (c : Iss) (a : VArg)
  /-- VLOG2 (R114): Lane-wise base-2 logarithm. -/
  | vlog2 (c : Iss) (a : VArg)
  /-- VTANH (R114): Lane-wise hyperbolic tangent. -/
  | vtanh (c : Iss) (a : VArg)
  /-- VSIG (R114): Lane-wise sigmoid. -/
  | vsig (c : Iss) (a : VArg)
  /-- VCVT (R116): Converts lanes between formats, including BS4 blocks. -/
  | vcvt (c : Iss) (a : VArg)
  /-- VCMP (R114): Lane-wise comparison into a predicate register. -/
  | vcmp (c : Iss) (a : VArg)
  /-- VSEL (R114): Lane-wise select under a predicate. -/
  | vsel (c : Iss) (a : VArg)
  /-- VAND (R114): Bitwise AND on 512 bits. -/
  | vand (c : Iss) (a : VArg)
  /-- VOR (R114): Bitwise OR on 512 bits. -/
  | vor (c : Iss) (a : VArg)
  /-- VXOR (R114): Bitwise XOR on 512 bits. -/
  | vxor (c : Iss) (a : VArg)
  /-- VSHL (R114): Saturating multiply by 2^n. -/
  | vshl (c : Iss) (a : VArg)
  /-- VSHR (R114): Division by 2^n rounded to nearest even. -/
  | vshr (c : Iss) (a : VArg)
  /-- VBC (R114): Broadcasts the low bits of an S register to every lane. -/
  | vbc (c : Iss) (a : VArg)
  /-- VRED (R114): Reduces lanes by sum, min or max into lane 0. -/
  | vred (c : Iss) (a : VArg)
  /-- VPERM (R115): Permutes lanes by a fixed pattern. -/
  | vperm (c : Iss) (a : VArg)
  /-- VTRD (R115): Reads a tile row into a V register. -/
  | vtrd (c : Iss) (a : VArg)
  /-- VTWR (R115): Writes a V register into a tile row. -/
  | vtwr (c : Iss) (a : VArg)
  /-- PLOG (R114): Logical operation on predicate registers. -/
  | plog (c : Iss) (a : VArg)
  /-- PSET (R114): Sets a predicate to a run of ones. -/
  | pset (c : Iss) (a : VArg)
  /-- MLD (R118): Loads 64 bytes from SRAM into a V register. -/
  | mld (c : Iss) (a : MemArg)
  /-- MST (R118): Stores a V register to 64 bytes of SRAM. -/
  | mst (c : Iss) (a : MemArg)
  /-- MLDH (R118): Loads 256 bytes of hummock SRAM into four V registers. -/
  | mldh (c : Iss) (a : MemArg)
  /-- MSTH (R118): Stores four V registers to 256 bytes of hummock SRAM. -/
  | msth (c : Iss) (a : MemArg)
  /-- MGTH (R118): Gathers 64 bytes at an indexed address. -/
  | mgth (c : Iss) (a : MemArg)
  /-- MSCT (R118): Scatters 64 bytes to an indexed address. -/
  | msct (c : Iss) (a : MemArg)
  /-- MGT16 (R118): Gathers 16 indexed rows into the A layout across 16 registers. -/
  | mgt16 (c : Iss) (a : MemArg)
  /-- MXRD (R119): Block transfer from hummock SRAM to local SRAM. -/
  | mxrd (c : Iss) (a : BlkArg)
  /-- MXWR (R119): Block transfer from local SRAM to hummock SRAM. -/
  | mxwr (c : Iss) (a : BlkArg)
  /-- MHRD (R119): Block transfer from HBM to local SRAM. -/
  | mhrd (c : Iss) (a : BlkArg)
  /-- MHWR (R119): Block transfer from local SRAM to HBM. -/
  | mhwr (c : Iss) (a : BlkArg)
  /-- MAIL (R118): Loads the low 32 bits of an address register. -/
  | mail (c : Iss) (ad : BitVec 4) (imm : BitVec 32)
  /-- MAIH (R118): Loads the high 16 bits of an address register. -/
  | maih (c : Iss) (ad : BitVec 4) (imm : BitVec 16)
  /-- MAADD (R118): Adds a signed immediate to an address register. -/
  | maadd (c : Iss) (ad : BitVec 4) (imm : BitVec 32)
  /-- MASTR (R118): Sets the stride of an address register. -/
  | mastr (c : Iss) (ad : BitVec 4) (imm : BitVec 24)
  /-- MVS (R118): Moves a V register chunk to an S register. -/
  | mvs (c : Iss) (sr : BitVec 5) (vr : BitVec 6) (chunk : BitVec 3)
  /-- MSV (R118): Moves an S register into a V register chunk. -/
  | msv (c : Iss) (sr : BitVec 5) (vr : BitVec 6) (chunk : BitVec 3)
  /-- MPV (R118): Moves V bits into a predicate register. -/
  | mpv (c : Iss) (pr : BitVec 3) (vr : BitVec 6)
  /-- MVP (R118): Moves a predicate register into V bits. -/
  | mvp (c : Iss) (pr : BitVec 3) (vr : BitVec 6)
  /-- MFRD (R120): Reads the flag register into an S register. -/
  | mfrd (c : Iss) (sd : BitVec 5)
  /-- MFCLR (R120): Clears flag bits named in MASK. -/
  | mfclr (c : Iss) (mask : BitVec 6)
  /-- SLI (R125): Loads a sign-extended 32-bit immediate. -/
  | sli (c : Iss) (sd : BitVec 5) (imm : BitVec 32)
  /-- SLIH (R125): Loads the high 32 bits of an S register. -/
  | slih (c : Iss) (sd : BitVec 5) (imm : BitVec 32)
  /-- SADD (R125): Scalar add. -/
  | sadd (c : Iss) (a : SArg)
  /-- SSUB (R125): Scalar subtract. -/
  | ssub (c : Iss) (a : SArg)
  /-- SMUL (R125): Scalar multiply. -/
  | smul (c : Iss) (a : SArg)
  /-- SDIV (R125): Scalar divide. -/
  | sdiv (c : Iss) (a : SArg)
  /-- SMIN (R125): Scalar minimum. -/
  | smin (c : Iss) (a : SArg)
  /-- SMAX (R125): Scalar maximum. -/
  | smax (c : Iss) (a : SArg)
  /-- SAND (R125): Scalar bitwise AND. -/
  | sand (c : Iss) (a : SArg)
  /-- SOR (R125): Scalar bitwise OR. -/
  | sor (c : Iss) (a : SArg)
  /-- SXOR (R125): Scalar bitwise XOR. -/
  | sxor (c : Iss) (a : SArg)
  /-- SSHL (R125): Scalar saturating multiply by 2^n. -/
  | sshl (c : Iss) (a : SArg)
  /-- SSHR (R125): Scalar division by 2^n, rounded to nearest even. -/
  | sshr (c : Iss) (a : SArg)
  /-- SCVT (R126): Converts between INT64 and FP64. -/
  | scvt (c : Iss) (a : SArg)
  /-- SCMP (R126): Scalar comparison into a predicate register. -/
  | scmp (c : Iss) (a : SArg)
  /-- SMOV (R125): Scalar move. -/
  | smov (c : Iss) (a : SArg)
  /-- SLCNT (R127): Sets the pass count of a loop level. -/
  | slcnt (c : Iss) (lvl : BitVec 2) (n1 : BitVec 16)
  /-- SLOOP (R127): Opens a counted loop over the following bundles. -/
  | sloop (c : Iss) (lvl : BitVec 2) (len1 : BitVec 14) (amask : BitVec 16)
  /-- XARM (R136): Arms a sluice with target and bound. -/
  | xarm (c : Iss) (slu : BitVec 13) (target : BitVec 16) (bound : BitVec 11)
  /-- XSIG (R137): Adds one signal to a sluice. -/
  | xsig (c : Iss) (slu : BitVec 13)
  /-- XWAIT (R138): Holds issue until a sluice is released, within its bound. -/
  | xwait (c : Iss) (slu : BitVec 13) (hold : BitVec 16)
  /-- XEND (R141): Signals the completion sluice and ends the frame section. -/
  | xend (c : Iss)
  /-- XING (R142): Copies snapshot entries of one class into local SRAM. -/
  | xing (c : Iss) (slu : BitVec 13) (cls : BitVec 3) (al : BitVec 4) (index : BitVec 16) (cnt : BitVec 4)
  /-- XEMIT (R144): Converts lanes and writes them to output staging. -/
  | xemit (c : Iss) (ocls : BitVec 4) (fmt : BitVec 4) (vr : BitVec 6) (index : BitVec 14) (cnt : BitVec 4)
  /-- XCANQ (R146): Stages one CAN FD frame for a message object. -/
  | xcanq (c : Iss) (al : BitVec 4) (bus : BitVec 2) (obj : BitVec 8) (dlc : BitVec 4)
  /-- XJRN (R147): Stages one journal annotation. -/
  | xjrn (c : Iss) (al : BitVec 4) (reason : BitVec 12)
  /-- XCLK (R148): Reads a selected time value into an S register. -/
  | xclk (c : Iss) (sd : BitVec 5) (sel : BitVec 3)
  /-- XSND (R149): Sends chunks to the domain relay for the named ports. -/
  | xsnd (c : Iss) (slu : BitVec 13) (al : BitVec 4) (pmask : BitVec 4) (len : BitVec 8)
  /-- XRCV (R149): Posts a receive buffer for the next boundary record on a port. -/
  | xrcv (c : Iss) (slu : BitVec 13) (al : BitVec 4) (port : BitVec 2) (len : BitVec 8)
  /-- COMMAND_RING_PROD (R327): A host write of the command ring PROD makes the module fetch new entries. -/
  | commandRingProd (t : Tai) (prod : Nat) (entries : List Unit64)
  /-- RING_CONS (R327): A host write of CONS on a module-produced ring frees entries. -/
  | ringCons (t : Tai) (i : Fin 4) (cons : Nat)
  /-- RING_ENABLE (R327): A write of ring EN from 0 to 1 resets PROD and CONS and restarts the journal copy. -/
  | ringEnable (t : Tai) (i : Fin 4) (v : Word)
  /-- RING_DMA_FAIL (R327): A failed ring DMA disables the ring, and is counted and journalled. -/
  | ringDmaFail (t : Tai) (i : Fin 4)
  /-- EVENT_LOST_REPORT (R333): When event ring space returns, one LOST event with the dropped count is written. -/
  | eventLostReport (t : Tai)
  /-- JOURNAL_COPY (R334): Sealed journal entries are copied to the host journal ring as space allows. -/
  | journalCopy (t : Tai)
  /-- TRACE_RECORD (R440): A trace record is generated and sent to ring 2, or dropped and counted. -/
  | traceRecord (t : Tai) (r : TraceRec)
  /-- VECTOR_MODERATION_EXPIRY (R335): A moderation interval ends and a deferred MSI-X vector is signalled. -/
  | vectorModerationExpiry (t : Tai) (vec : Fin 8)
  /-- NOP (R328): Completes OK. -/
  | nop (t : Tai) (tag : BitVec 16)
  /-- REG_SET (R329): Applies up to three register writes as one change. -/
  | regSet (t : Tai) (tag : BitVec 16) (writes : List (Nat × Word))
  /-- REG_SET_BUF (R329): Applies up to 1,024 buffered register writes as one change. -/
  | regSetBuf (t : Tai) (tag : BitVec 16) (writes : List (Nat × Word))
  /-- CAL_SUBMIT (R218): Builds and seals a host calibration candidate from the submitted records. -/
  | calSubmit (t : Tai) (tag : BitVec 16) (recs : List CalRecord)
  /-- PESER_CFG (R330): Sends a CFG_REQ to a Peser device and returns its CFG_RSP. -/
  | peserCfg (t : Tai) (tag : BitVec 16) (b : Fin 4) (node : Nat) (timeoutMs : Nat) (req : List Byte)
  /-- ATTEST (R431): Returns an attestation report signed by the device key. -/
  | attest (t : Tai) (tag : BitVec 16) (nonce : BitVec 256) (flags : BitVec 8) (len : Nat)
  /-- SIGNED (R430): Verifies a signed object and performs its inner operation. -/
  | signed (t : Tai) (tag : BitVec 16) (o : SignedObj)
  /-- FW_STAGE (R373): Writes a firmware image chunk into the non-preferred slot and verifies it after the last chunk. -/
  | fwStage (t : Tai) (tag : BitVec 16) (offset : Nat) (flags : BitVec 8) (chunk : List Byte) (img : Option FwImage)
  /-- RESET_WAIT_DRAINED (R424): A signed whole-module reset proceeds once every entry has passed CONS. -/
  | resetWaitDrained (t : Tai)
  /-- RESET_WAIT_TIMEOUT (R430): A signed reset whose journal has not drained within 60 s completes TIMEOUT. -/
  | resetWaitTimeout (t : Tai)
  /-- REGISTER_WRITE (R446): A BAR0 write to a register without a row of its own is checked for access, privilege, collision and journalled. -/
  | registerWrite (t : Tai) (off : Nat) (len : Nat) (v : Word)
  /-- BAR0_BAD_READ (R324): A misaligned or wrong-length BAR0 read completes with Unsupported Request. -/
  | bar0BadRead (t : Tai) (off : Nat) (len : Nat)
  /-- BAR2_WRITE (R157): A BAR2 write to the staging bank is accepted, resetting a PASSED or REJECTED bank to EMPTY, or refused. -/
  | bar2Write (t : Tai) (addr : Nat) (data : List Byte)
  /-- HST_HB (R337): A heartbeat write proves the host alive. -/
  | hstHb (t : Tai) (v : BitVec 32)
  /-- HOST_SILENCE (R337): No heartbeat for TIMEOUT_F frames declares the host silent and signals vector 5. -/
  | hostSilence (t : Tai)
  /-- PCIE_FUNCTION_RESET (R322): PERST_N, hot reset, link down, FLR or D3hot resets only the PCIe function and ring state. -/
  | pcieFunctionReset (t : Tai)
  /-- CHECK (R156): PLN_STAGE_CTRL.CHECK starts the plan checker on the staging bank. -/
  | checkStage (t : Tai)
  /-- CHECK_COMPLETE (R156): The checker ends with PASSED or REJECTED and a code. -/
  | checkComplete (t : Tai) (img : SetContents) (clean : Bool)
  /-- CLEAR (R158): PLN_STAGE_CTRL.CLEAR empties a PASSED or REJECTED staging bank. -/
  | clearStage (t : Tai)
  /-- PLN_ARM (R160): A write of TARGET rechecks the set against its edge and starts ARMING. -/
  | plnArm (t : Tai) (target : BitVec 32)
  /-- ARMING_COMPLETE (R158): Tracks, constants and INIT contents are loaded and the set becomes ARMED. -/
  | armingComplete (t : Tai)
  /-- WITHDRAW (R53): PLN_ARM.WITHDRAW returns an ARMED set to PASSED. -/
  | withdraw (t : Tai)
  /-- SUPERSEDED_BANK_RELEASE (R161): When the last outgoing run commits, its store and staging banks are released. -/
  | supersededBankRelease (t : Tai)
  /-- PLN_PLACE_REQ (R169): Requests a placement for a partition at the next eligible epoch edge. -/
  | plnPlaceReq (t : Tai) (v : BitVec 32)
  /-- PLN_RETIRE_REQ (R171): Requests or withdraws planned retirement of tussocks. -/
  | plnRetireReq (t : Tai) (w : Fin 4) (v : Word)
  /-- GO_W (R219): Approves the PASSED weight candidate as READY. -/
  | goW (t : Tai)
  /-- GO_C (R219): Approves the PASSED calibration candidate as READY. -/
  | goC (t : Tai)
  /-- DEMOTE_W (R222): Requests a weight demotion while PREV_VALID is 1. -/
  | demoteW (t : Tai)
  /-- DEMOTE_C (R222): Requests a calibration demotion while PREV_VALID is 1. -/
  | demoteC (t : Tai)
  /-- WITHDRAW_W (R219): Discards a SEALED, PASSED or READY weight candidate. -/
  | withdrawW (t : Tai)
  /-- WITHDRAW_C (R219): Discards a SEALED, PASSED or READY calibration candidate. -/
  | withdrawC (t : Tai)
  /-- PERIOD_CHANGE (R51): A write of FRM_CFG.PERIOD_K makes a new frame period pending for an eligible epoch edge. -/
  | periodChange (t : Tai) (k : BitVec 3)
  /-- EPOCH_LENGTH_CHANGE (R50): A write of FRM_CFG.EPOCH_M makes a new epoch length pending. -/
  | epochLengthChange (t : Tai) (m : BitVec 4)
  /-- TIME_SET (R58): Makes the timebase valid from the written FRM_TAI_NS. -/
  | timeSet (t : Tai)
  /-- HANDOVER (R354): PAR_CTRL.HANDOVER schedules a handover to an eligible standby two frames later. -/
  | handover (t : Tai)
  /-- REJOIN (R343): Moves a FENCED module to STANDBY_SYNC. -/
  | rejoin (t : Tai)
  /-- DOM_LEAVE (R366): Requests leaving the coupled domain at the next epoch edge. -/
  | domLeave (t : Tai)
  /-- DOMAIN_JOIN (R363): PAR_DOM_CFG.EN = 1 asks the time reference for admission. -/
  | domainJoin (t : Tai) (v : Word)
  /-- EXERCISE_GO (R360): PAR_EXER.GO runs the in-place exercise steps on a standby. -/
  | exerciseGo (t : Tai)
  /-- EXERCISE_ABORT (R360): A claim condition, missing renewal or protection aborts the exercise within 10 µs. -/
  | exerciseAbort (t : Tai)
  /-- EXERCISE_COMPLETE (R360): The last exercise step ends and PASS or FAIL is set. -/
  | exerciseComplete (t : Tai) (failed : Fin 7)
  /-- REARM (R400): PRT_CTRL.REARM removes a response's latch unless a naming comparator is active. -/
  | rearm (t : Tai) (mask : BitVec 8)
  /-- SAVE (R246): LPE_CTRL.SAVE stores the companion configuration in boot flash. -/
  | save (t : Tai)
  /-- SAVE_COMPLETE (R389): The LPE store write finishes and SAVE_BUSY clears. -/
  | saveComplete (t : Tai)
  /-- FORCE_SAFE (R243): LPE_CTRL.FORCE_SAFE makes every channel ON_SAFE from the next sample. -/
  | forceSafe (t : Tai) (on : Bool)
  /-- MODE (R241): A write of LPE_CH_CFG sets the channel mode, ends FAULTED and initialises the channel. -/
  | modeWrite (t : Tai) (n : Fin 256) (v : Word)
  /-- GAIN_TBL_BASE (R233): Switches a class G channel to another strictly ascending gain table. -/
  | gainTblBase (t : Tai) (n : Fin 256) (v : Word)
  /-- RIPPLE_ARM (R208): LPE_RPL_CFG.ARM arms or disarms a ripple descriptor after the arm checks. -/
  | rippleArm (t : Tai) (i : Fin 32) (v : Word)
  /-- RIPPLE_EN (R206): LPE_RPL_CTRL.EN allows armed ripples or aborts every active one. -/
  | rippleEn (t : Tai) (v : Word)
  /-- PUMP_EN (R254): A write of a pump's EN enables it or switches its gates off at once. -/
  | pumpEn (t : Tai) (p : Fin 4) (v : Word)
  /-- PUMP_STAT_CLEAR (R253): Clearing a pump's fault bits clears FLT_OFF and restarts it if EN is 1. -/
  | pumpStatClear (t : Tai) (p : Fin 4) (v : Word)
  /-- FAN_EN (R259): A write of a fan's EN enables it or switches it off and clears FAILS. -/
  | fanEn (t : Tai) (f : Fin 8) (v : Word)
  /-- TACH_LOST_CLEAR (R260): Clearing TACH_LOST returns the fan to tachometer speed. -/
  | tachLostClear (t : Tai) (f : Fin 8) (v : Word)
  /-- CAN_EN (R284): FB_CFG.EN = 0 takes the controller off the bus and discards pending frames. -/
  | canEn (t : Tai) (b : Fin 4) (v : Word)
  /-- STREAM_ENABLE (R308): Writing a stream's EN from 0 to 1 clears counters, sets NEVER and STALE and discards the record. -/
  | streamEnable (t : Tai) (n : Fin 65536) (v : Word)
  /-- TUSSOCK_RESET (R379): HUM_CTRL.TRST resets logical tussocks. -/
  | tussockReset (t : Tai) (h : Fin 32) (mask : BitVec 8) (drain : Bool)
  /-- HUMMOCK_RESET (R379): HUM_CTRL.RST resets a hummock. -/
  | hummockReset (t : Tai) (h : Fin 32) (drain : Bool)
  /-- PARTITION_RESET (R379): HUM_CTRL.PRST resets the partition holding the hummock. -/
  | partitionReset (t : Tai) (h : Fin 32) (drain : Bool)
  /-- DRAIN_RESET_ASSERT (R382): A drain-mode reset is asserted at slot 60 of the frame in which the last run ends. -/
  | drainResetAssert (t : Tai)
  /-- ABSORB (R381): A transfer or signal addressed to a target under reset is absorbed and counted. -/
  | absorb (t : Tai) (h : Fin 32) (slu : Option (Fin 8192))
  /-- COMPUTE_RESET_COMPLETE (R383): A compute reset completes and the partition restarts at its next cadence frame. -/
  | computeResetComplete (t : Tai) (h : Fin 32)
  /-- FABRIC_RESET (R385): A watchdog or uncorrectable sequencer error resets the fabric while pairing sequencers continue. -/
  | fabricReset (t : Tai)
  /-- FABRIC_RESET_COMPLETE (R385): The fabric reset completes and plans restart. -/
  | fabricResetComplete (t : Tai)
  /-- RST_N (R386): A low on RST_N of 1 ms causes a whole-module reset; a shorter low of 10 µs or more is counted as RST_GLITCH. -/
  | rstN (t : Tai) (lowNs : Nat)
  /-- POWER_LOSS (R460): The 54 V input below 44 V or above 60 V for more than 1 ms causes a whole-module reset. -/
  | powerLoss (t : Tai) (millivolts durationNs : Nat)
  /-- POWER_GOOD (R368): After 10 ms of the 54 V input within range start-up begins. -/
  | powerGood (t : Tai)
  /-- STARTUP_PHASE_COMPLETE (R368): A start-up phase completes and the next begins. -/
  | startupPhaseComplete (t : Tai) (inp : PhaseInput)
  /-- PHASE_OVERRUN (R374): A phase not ended by its latest end makes the start-up fatal. -/
  | phaseOverrun (t : Tai)
  /-- STRAP_CHECK (R369): Every 100 ms strap lines are compared with their latched values and STRAP_CHG set on a difference. -/
  | strapCheck (t : Tai) (lines : Straps)
  /-- HB_TOGGLE (R368): The companion controller toggles HB every 100 ms. -/
  | hbToggle (t : Tai)
  /-- PRSNT_N_CHANGE (R390): A module or its partner is inserted or removed, as seen on PRSNT_N. -/
  | prsntNChange (t : Tai) (partner present : Bool)
  /-- LEASE_EPOCH_STORED (R349): A new lease epoch is written to boot flash within 50 ms. -/
  | leaseEpochStored (t : Tai)
  /-- CHECKPOINT_SIGNED (R415): The checkpoint signature completes and is appended as SIGPART entries. -/
  | checkpointSigned (t : Tai)
  /-- JOURNAL_STAGE_CHANGE (R421): Main ring free space crosses a threshold and the ring enters or leaves JOURNAL_FULL, COALESCE or HOLD. -/
  | journalStageChange (t : Tai)
  /-- SAFETY_AREA_FOLD (R423): Low safety area space folds or counts safety entries, summarised when space returns. -/
  | safetyAreaFold (t : Tai)
  /-- SET_NUMERIC_EFFECTER_VALUE (R340): MGMT writes RM_LIMIT of a rack. -/
  | setNumericEffecterValue (t : Tai) (effecter : Nat) (v : BitVec 32)
  /-- GET_NUMERIC_EFFECTER_VALUE (R340): MGMT reads RM_LIMIT of a rack. -/
  | getNumericEffecterValue (t : Tai) (effecter : Nat)
  /-- GET_SENSOR_READING (R341): MGMT reads a PLDM sensor. -/
  | getSensorReading (t : Tai) (sensor : Nat)
  /-- PLDM_SENSOR_REFRESH (R341): The PLDM sensors are refreshed every 100 ms. -/
  | pldmSensorRefresh (t : Tai) (r : PldmReadings)
  /-- ENTDAA (R387): The management controller assigns a dynamic address and the module answers with its identity. -/
  | entdaa (t : Tai) (addr : BitVec 7)
  /-- MGMT_LOST (R387): After 10 s without a valid MCTP message MGMT counts as lost and RM_LIMIT is frozen. -/
  | mgmtLost (t : Tai)
  /-- FRAME_SEQUENCER_STOP (R58): The fabric die loses power or the frame or pairing sequencer hangs, so frame edges and renewals stop until a whole-module reset. -/
  | frameSequencerStop (t : Tai)
  /-- P0_LINK_CHANGE (R33): The P0 link goes down or comes up, changing P0_UP, the state copy and the lease path. -/
  | p0LinkChange (t : Tai) (up : Bool)
  /-- PCIE_LINK_UP (R321): The PCIe link completes training and LINK, WIDTH and SPEED are set, ending one cause of host silence. -/
  | pcieLinkUp (t : Tai) (width : BitVec 2) (speed : BitVec 3) (flit : Bool)
  /-- DOMAIN_LINK_UP (R366): A domain link retrains and records stop being routed around the ring. -/
  | domainLinkUp (t : Tai) (port : Fin 4)
  /-- DOMAIN_JOIN_NO_LINK (R363): No domain link has come up within 1 s of a join request, so the join is refused with NO_LINK. -/
  | domainJoinNoLink (t : Tai)
  /-- P0_PLAN_SET_RECEIVED (R159): A plan set forwarded by the active over P0 arrives at the standby, which checks and arms it for the same edge. -/
  | p0PlanSetReceived (t : Tai) (img : SetContents) (data : List Byte) (target : BitVec 32)
  /-- P0_CANDIDATE_RECEIVED (R356): A PASSED promotion candidate forwarded over P0 arrives at the standby, which digests it to confirm. -/
  | p0CandidateReceived (t : Tai) (k : Fin 2) (data : List Byte)
  /-- P0_FIRMWARE_CHUNK_RECEIVED (R373): A firmware chunk forwarded by the partner over P0 is written into the non-preferred slot and verified after the last chunk. -/
  | p0FirmwareChunkReceived (t : Tai) (offset : Nat) (flags : BitVec 8) (chunk : List Byte) (img : Option FwImage)
  /-- FAN_ALIGN_END (R258): After 250 ms of alignment at I_MAX/2 the fan is driven open-loop towards 10 %. -/
  | fanAlignEnd (t : Tai) (f : Fin 8)
  /-- EXER_DUE (R361): The last in-place exercise pass becomes older than EXER_DAYS and EXER_DUE is set. -/
  | exerDue (t : Tai)
  /-- SET_ENDPOINT_ID (R387): The management controller assigns the module an MCTP endpoint ID, replacing the one it kept. -/
  | setEndpointId (t : Tai) (eid : BitVec 8)
  /-- PTP_DELAY_RESP (R302): A Delay_Resp (or Follow_Up) completes the delay request-response exchange and updates the path delay used for the offset. -/
  | ptpDelayResp (t : Tai) (j : Fin 2) (delay : Int)
deriving DecidableEq, Repr

end Sys2Proof
end

