-- ==== Sys2Proof/Decode.lean ====
section
/-!
DEFINITION. Words that spell a command. spec/opcode_table.json gives no row any bits: the commands of this module come from
ports, pins and its own time, so no word spells one.
-/
namespace Sys2Proof

/-- The command that a word spells: none. -/
def decodeTableWord (_nbits _w : Nat) : Option Instr := none

end Sys2Proof
end

