-- ==== Sys2Proof/Machine/Checks.lean ====
section
/-!
DEFINITION. What the plan checker accepts of a single operation's encoding, at the repeat it issues with (R98, R101, R102,
R107, R110, R115, R116, R118, R125, R126, R128, R130, R131, R143, R144).
-/
namespace Sys2Proof.Machine

/-- Codes of the lane types (Table 4.5). -/
def laneCode (c : Nat) : Bool := decide (c ≤ 0xB) && decide (c ≠ 6)
/-- Codes of the floating-point formats. -/
def floatCode (c : Nat) : Bool := decide (c ≤ 5)
/-- Codes of INT8, INT16, INT32, Q16 and Q32. -/
def fixedCode (c : Nat) : Bool := decide (7 ≤ c) && decide (c ≤ 0xB)
/-- Codes whose accumulator or tile row takes an even–odd pair. -/
def pairCode (c : Nat) : Bool := decide (c = 0) || decide (c = 9) || decide (c = 0xB)
/-- Accumulator kinds of TADD and TMOV (Table 4.7). -/
def accKind (c : Nat) : Bool := decide (c = 0) || decide (c = 1) || decide (c = 0xA) || decide (c = 0xB)

/-- A register field that may advance by `step` a repeat stays in its file (R102). -/
def inFile (r : Nat) (adv : Bool) (step rep last : Nat) : Bool := decide ((if adv then r + step * rep else r) + (step - 1) ≤ last)

/-- FMTB equals FMTA, but for the two FP8 formats, which may be mixed (Table 4.7). -/
def fmtPair (f g : Nat) : Bool := decide (g = f) || ((decide (f = 4) || decide (f = 5)) && (decide (g = 4) || decide (g = 5)))

/-- TMMA (R107, R108, R110). -/
def tmmaOk (c : Iss) (a : TArg) : Bool :=
  let f := a.fmta.toNat
  let g := a.fmtb.toNat
  let step := if f = 0 then 2 else 1
  decide (f ≤ 9) && fmtPair f g &&
  (!pairCode f || decide (a.td.toNat % 2 = 0)) &&
  (decide (f ≠ 0) || (decide (a.va.toNat % 2 = 0) && decide (a.vb.toNat % 2 = 0))) &&
  (decide (f = 6) || decide (a.vs.toNat = 0)) &&
  inFile a.va.toNat a.av step c.rep 63 && inFile a.vb.toNat a.av step c.rep 63

/-- TZERO: 0xA to 0xF are rejected (R107). -/
def tzeroOk (a : TArg) : Bool := decide (a.fmta.toNat ≤ 9) && fmtPair a.fmta.toNat a.fmtb.toNat && (decide (a.fmta.toNat = 6) || decide (a.vs.toNat = 0))

/-- TADD and TMOV (R107, R110). -/
def taccOk (a : TArg) : Bool :=
  accKind a.fmta.toNat && fmtPair a.fmta.toNat a.fmtb.toNat && decide (a.vs.toNat = 0) && (!pairCode a.fmta.toNat || (decide (a.td.toNat % 2 = 0) && decide (a.ts.toNat % 2 = 0)))

/-- Bits of AVM: [10] VD, [9] VA, [8] VB, [7] VC. -/
def advD (a : VArg) : Bool := a.avm.toNat.testBit 3
def advA (a : VArg) : Bool := a.avm.toNat.testBit 2
def advB (a : VArg) : Bool := a.avm.toNat.testBit 1
def advC (a : VArg) : Bool := a.avm.toNat.testBit 0

/-- The registers of an operation with a destination and `n` sources stay in the file at this repeat. -/
def vregsOk (c : Iss) (a : VArg) (n : Nat) : Bool :=
  inFile a.vd.toNat (advD a) 1 c.rep 63 && (decide (n < 1) || inFile a.va.toNat (advA a) 1 c.rep 63) &&
  (decide (n < 2) || inFile a.vb.toNat (advB a) 1 c.rep 63) && (decide (n < 3) || inFile a.vc.toNat (advC a) 1 c.rep 63)

/-- An arithmetic lane operation of `n` sources: every lane type but BS4, no stochastic rounding (R89, R115). -/
def varithOk (c : Iss) (a : VArg) (n : Nat) : Bool := laneCode a.fmt.toNat && !a.rm && vregsOk c a n
/-- VDIV and VSQRT: floating types and Q16. -/
def vdivOk (c : Iss) (a : VArg) (n : Nat) : Bool := (floatCode a.fmt.toNat || decide (a.fmt.toNat = 9)) && !a.rm && vregsOk c a n
/-- VRCP to VSIG: FP32, BF16 and FP16. -/
def vfunOk (c : Iss) (a : VArg) : Bool := decide (1 ≤ a.fmt.toNat) && decide (a.fmt.toNat ≤ 3) && !a.rm && vregsOk c a 1
/-- VAND to VSHR: integer and fixed-point types. -/
def vbitOk (c : Iss) (a : VArg) (n : Nat) : Bool := fixedCode a.fmt.toNat && !a.rm && vregsOk c a n
/-- VCMP writes a predicate other than P0. -/
def vcmpOk (c : Iss) (a : VArg) : Bool :=
  laneCode a.fmt.toNat && !a.rm && decide (a.fn.toNat / 16 % 8 ≠ 0) && inFile a.va.toNat (advA a) 1 c.rep 63 && inFile a.vb.toNat (advB a) 1 c.rep 63
/-- VBC. -/
def vbcOk (c : Iss) (a : VArg) : Bool := laneCode a.fmt.toNat && !a.rm && vregsOk c a 0
/-- VRED sums, minima and maxima. -/
def vredOk (c : Iss) (a : VArg) : Bool := varithOk c a 1 && decide (a.fn.toNat % 4 ≤ 2)
/-- VPERM has patterns 0 to 4 (R115). -/
def vpermOk (c : Iss) (a : VArg) : Bool := laneCode a.fmt.toNat && !a.rm && decide (a.fn.toNat / 16 % 8 ≤ 4) && vregsOk c a 2
/-- VTRD and VTWR; `v` is the V register, `adv` whether it advances. -/
def vtileOk (c : Iss) (a : VArg) (v : Nat) (adv : Bool) : Bool :=
  let pr := pairCode a.fmt.toNat
  accKind a.fmt.toNat && !a.rm && (!pr || (decide (v % 2 = 0) && decide (a.fn.toNat / 16 % 2 = 0))) &&
  inFile v adv (if pr then 2 else 1) c.rep 63 && inFile (a.fn.toNat % 16) (advC a) 1 c.rep 15
/-- PLOG and PSET write a predicate other than P0; their FMT is a lane type's code and they round nothing (R101, R107, R115). -/
def plogOk (a : VArg) : Bool := laneCode a.fmt.toNat && !a.rm && decide (a.vd.toNat % 8 ≠ 0)
/-- PSET counts 0 to 64. -/
def psetOk (a : VArg) : Bool := plogOk a && decide (a.fn.toNat ≤ 64)

/-- Width of an element by code. -/
def codeWidth (c : Nat) : Nat :=
  if c = 0 ∨ c = 0xB then 64 else if c = 1 ∨ c = 9 ∨ c = 0xA then 32 else if c = 2 ∨ c = 3 ∨ c = 8 then 16 else 8

/-- VCVT (R115, R116): the pairing, PART below the ratio, and where stochastic rounding may be asked for. -/
def vcvtOk (c : Iss) (a : VArg) : Bool :=
  let f := a.fmt.toNat
  let g := a.fn.toNat / 8
  let part := a.fn.toNat % 8
  let rmOk := !a.rm || decide (g = 2) || decide (g = 4) || decide (g = 5) || decide (g = 6)
  let half (c : Nat) : Bool := decide (c = 2) || decide (c = 3)
  rmOk && inFile a.vd.toNat (advD a) 1 c.rep 63 && inFile a.va.toNat (advA a) 1 c.rep 63 &&
  (if f = 6 ∨ g = 6 then
    (decide (f = 6) && half g || decide (g = 6) && half f) && decide (part < 4) && inFile a.vb.toNat (advB a) 1 c.rep 63
  else
    laneCode f && laneCode g &&
    decide (part < max (codeWidth f) (codeWidth g) / min (codeWidth f) (codeWidth g)))

/-- Register–memory operations of `n` registers per access (Table 4.12); AI is 0 where it is unused. -/
def memOk (c : Iss) (a : MemArg) (n : Nat) (indexed : Bool) : Bool :=
  decide (a.v.toNat % n = 0) && inFile a.v.toNat a.av n c.rep 63 && (indexed || decide (a.ai.toNat = 0))

/-- S-slot operations that exist for INT64 alone. -/
def sint64Ok (a : SArg) : Bool := !a.ty
/-- Shifts: TY 0 and no bits beside n. -/
def sshOk (a : SArg) : Bool := !a.ty && decide (a.fn.toNat < 64)
/-- SCMP to P0 is rejected (R126). -/
def scmpOk (a : SArg) : Bool := decide (a.fn.toNat / 2 ^ 21 ≠ 0)
/-- Operations rejected in a bundle with RPT ≠ 0 (R128, R130). -/
def singleOk (c : Iss) : Bool := decide (c.rpt = 0)
/-- XARM: TARGET from 1. -/
def xarmOk (c : Iss) (target : BitVec 16) : Bool := singleOk c && decide (target.toNat ≠ 0)

/-- Entries of a snapshot class (Table 5.7). -/
def classEntries (c : Nat) : Nat :=
  match c with
  | 0 => 1
  | 1 => 65536
  | 2 => 129
  | 3 => 256
  | 4 => 12
  | 5 => 512
  | _ => 0

/-- XING: the entries lie in the class (R142). -/
def xingOk (c : Iss) (cls : BitVec 3) (index : BitVec 16) (cnt : BitVec 4) : Bool :=
  decide (index.toNat + c.rep * (cnt.toNat + 1) + cnt.toNat < classEntries cls.toNat)

/-- Indices of an output class (Table 5.8). -/
def classOutputs (c : Nat) : Nat :=
  match c with
  | 0 => 640
  | 1 => 256
  | 2 => 256
  | 3 => 256
  | 4 => 16
  | 5 => 16
  | 6 => 16
  | _ => 0

/-- XEMIT: FMT is FP32 or Q16, the register stays in its file and the outputs in their class (R130, R144). -/
def xemitOk (c : Iss) (ocls fmt : BitVec 4) (v : BitVec 6) (index : BitVec 14) (cnt : BitVec 4) : Bool :=
  (decide (fmt.toNat = 1) || decide (fmt.toNat = 9)) && decide (v.toNat + c.rep ≤ 63) &&
  decide (index.toNat + c.rep * (cnt.toNat + 1) + cnt.toNat < classOutputs ocls.toNat)

end Sys2Proof.Machine
end

