-- ==== Sys2Proof/Machine/Bits.lean ====
section
/-!
DEFINITION. Bit-field, byte-order and saturation helpers.
-/
namespace Sys2Proof.Machine

/-- Bits [lo + w − 1 : lo] of a number. -/
def bits (x lo w : Nat) : Nat := (x >>> lo) % 2 ^ w

/-- Bit n of a number. -/
def bitAt (x n : Nat) : Bool := Nat.testBit x n

/-- `x` with the w bits at lo replaced by v. -/
def setBits (x lo w v : Nat) : Nat := x - bits x lo w * 2 ^ lo + (v % 2 ^ w) * 2 ^ lo

/-- A w-bit number read as two's complement. -/
def signed (w x : Nat) : Int := if 2 * (x % 2 ^ w) < 2 ^ w then (x % 2 ^ w : Nat) else (x % 2 ^ w : Nat) - (2 ^ w : Nat)

/-- An integer as a w-bit two's complement number. -/
def unsigned (w : Nat) (i : Int) : Nat := (i % (2 ^ w : Nat)).toNat

/-- Saturation to signed w bits. -/
def satI (w : Nat) (i : Int) : Int := max (-(2 ^ (w - 1) : Nat)) (min i ((2 ^ (w - 1) : Nat) - 1))

/-- Limits an integer to a range. -/
def clampI (lo hi i : Int) : Int := max lo (min hi i)

/-- The bytes of a number, least significant first. -/
def leBytes : Nat → Nat → List Byte
  | 0, _ => []
  | n + 1, x => BitVec.ofNat 8 x :: leBytes n (x / 256)

/-- The number that bytes spell, least significant first. -/
def ofLeBytes : List Byte → Nat
  | [] => 0
  | b :: r => b.toNat + 256 * ofLeBytes r

/-- 1 for true. -/
def b2n (b : Bool) : Nat := if b then 1 else 0

/-- The set bits of a number below n, rising. -/
def bitList (x n : Nat) : List Nat := (List.range n).filter (fun i => bitAt x i)

/-- Sum over a list. -/
def sumOf {α : Type} (f : α → Nat) : List α → Nat
  | [] => 0
  | a :: r => f a + sumOf f r

/-- Integer division rounded to nearest, ties to even. -/
def rneDiv (a : Int) (d : Nat) : Int :=
  let q := a / (d : Int)
  let r := a % (d : Int)
  if 2 * r < d then q else if (d : Int) < 2 * r then q + 1 else if q % 2 = 0 then q else q + 1

end Sys2Proof.Machine
end

