-- ==== Sys2Proof/Machine/Num.lean ====
section
/-!
DEFINITION. Numbers and formats of the fabric (spec/03_fabric.md R83 to R92): every operand and lane is decoded to an exact
number, computed on exactly, and encoded once with the rounding of R88 or R89 and the overflow rules of R90. Signs of zero
follow IEEE 754 (PRESUMED, notes/assumptions/20.md).
-/
namespace Sys2Proof.Machine

/-- A number: NaN, an infinity, or (−1)^neg · m · 2^e; `sticky` says that the true magnitude lies strictly between m · 2^e
and (m + 1) · 2^e. -/
inductive Num where
  | nan
  | inf (neg : Bool)
  | fin (neg : Bool) (m : Nat) (e : Int) (sticky : Bool)
deriving DecidableEq, Repr

/-- An element format (Tables 3.6, 3.7, 4.5): width; float fields; or the number of fraction bits of a fixed-point one. -/
structure Fmt where
  w : Nat
  isFloat : Bool
  eb : Nat
  mb : Nat
  bias : Nat
  hasInf : Bool
  frac : Nat
deriving DecidableEq, Repr

namespace Fmt
/-- A floating-point format. -/
def float (w eb mb bias : Nat) (hasInf : Bool) : Fmt := ⟨w, true, eb, mb, bias, hasInf, 0⟩
/-- A two's complement format with `frac` fraction bits. -/
def fixed (w frac : Nat) : Fmt := ⟨w, false, 0, 0, 0, false, frac⟩
def fp64 := float 64 11 52 1023 true
def fp32 := float 32 8 23 127 true
def bf16 := float 16 8 7 127 true
def fp16 := float 16 5 10 15 true
def e4m3 := float 8 4 3 7 false
def e5m2 := float 8 5 2 15 true
def int8 := fixed 8 0
def int16 := fixed 16 0
def int32 := fixed 32 0
def int64 := fixed 64 0
def q16 := fixed 32 16
def q32 := fixed 64 32

/-- The lane type of a format code (Tables 3.6 and 4.5); BS4 (0x6) is no lane type. -/
def ofCode (c : Nat) : Option Fmt :=
  match c with
  | 0x0 => some fp64
  | 0x1 => some fp32
  | 0x2 => some bf16
  | 0x3 => some fp16
  | 0x4 => some e4m3
  | 0x5 => some e5m2
  | 0x7 => some int8
  | 0x8 => some int16
  | 0x9 => some q16
  | 0xA => some int32
  | 0xB => some q32
  | _ => none

/-- Lanes per 512-bit register (Table 4.5). -/
def lanes (f : Fmt) : Nat := 512 / f.w
/-- Exponent of the unit of the subnormals. -/
def gmin (f : Fmt) : Int := 1 - (f.bias : Int) - (f.mb : Int)
/-- The encoding of the largest finite value, sign 0 (Table 3.6). -/
def maxEnc (f : Fmt) : Nat := if f.hasInf then (2 ^ f.eb - 1) * 2 ^ f.mb - 1 else 2 ^ (f.eb + f.mb) - 2
/-- The canonical quiet NaN (R90). -/
def nanEnc (f : Fmt) : Nat :=
  if f.hasInf then (2 ^ f.eb - 1) * 2 ^ f.mb + 2 ^ (f.mb - 1) else 2 ^ (f.eb + f.mb) - 1
/-- The encoding of +inf. -/
def infEnc (f : Fmt) : Nat := (2 ^ f.eb - 1) * 2 ^ f.mb
end Fmt

/-- Flag bits of Table 3.9. -/
def flSat : Nat := 1
def flNan : Nat := 2
def flOvf : Nat := 4
def flUnf : Nat := 8
def flDz : Nat := 16
def flInx : Nat := 32

/-- An exact integer times a power of two. -/
def Num.ofInt (i : Int) (e : Int) : Num := .fin (decide (i < 0)) i.natAbs e false
/-- Zero. -/
def Num.zero : Num := .fin false 0 0 false
/-- One. -/
def Num.one : Num := .fin false 1 0 false

/-- The number that an element's bits encode (R83, R84). -/
def decodeNum (f : Fmt) (b : Nat) : Num :=
  if f.isFloat then
    let s := bitAt b (f.w - 1)
    let ex := bits b f.mb f.eb
    let m := bits b 0 f.mb
    if ex = 2 ^ f.eb - 1 ∧ f.hasInf then (if m = 0 then .inf s else .nan)
    else if ¬ f.hasInf ∧ ex = 2 ^ f.eb - 1 ∧ m = 2 ^ f.mb - 1 then .nan
    else if ex = 0 then .fin s m f.gmin false
    else .fin s (2 ^ f.mb + m) (f.gmin + (ex : Int) - 1) false
  else Num.ofInt (signed f.w b) (-(f.frac : Int))

/-- Rounding selected by an operation: nearest even (R88), or stochastic with 16 noise bits (R89). -/
inductive Rnd where
  | rne
  | sr (noise : Nat)
deriving DecidableEq, Repr

/-- Rounds the magnitude m · 2^e (+ sticky) to a multiple of 2^g: the multiple, whether it is inexact, and whether it was
rounded up. -/
def roundMag (r : Rnd) (m : Nat) (e : Int) (sticky : Bool) (g : Int) : Nat × Bool × Bool :=
  if g ≤ e then (m * 2 ^ (e - g).toNat, sticky, false)
  else
    let d := (g - e).toNat
    let q := m >>> d
    let rem := m % 2 ^ d
    let inexact := rem ≠ 0 || sticky
    let up : Bool :=
      match r with
      | .rne => decide (2 ^ d < 2 * rem) || (decide (2 * rem = 2 ^ d) && (sticky || q % 2 = 1))
      | .sr noise => inexact && decide (noise % 65536 < rem * 65536 / 2 ^ d)
    (if up then q + 1 else q, inexact, up)

/-- Encodes a number in a format (R88 to R90): the bits and the flags raised. UNF reads "a result is nonzero" (R90) of the exact value, so
that it is raised also where the delivered result rounds to 0 (DESIGN CHOICE, notes/assumptions/133.md). -/
def encodeNum (f : Fmt) (infMode : Bool) (r : Rnd) (n : Num) : Nat × Nat :=
  if f.isFloat then
    let sgn (s : Bool) := b2n s * 2 ^ (f.w - 1)
    match n with
    | .nan => (f.nanEnc, flNan)
    | .inf s => if f.hasInf then (sgn s + f.infEnc, 0) else (sgn s + f.maxEnc, flOvf + flInx)
    | .fin s m e sticky =>
      if m = 0 ∧ ¬ sticky then (sgn s, 0)
      else
        let top := e + (m.log2 : Int)
        let g := max f.gmin (top - f.mb)
        let (q, inexact, up) := roundMag r m e sticky g
        let (q, g) := if q = 2 ^ (f.mb + 1) then (2 ^ f.mb, g + 1) else (q, g)
        let enc := if q < 2 ^ f.mb then q else q - 2 ^ f.mb + ((g - f.gmin).toNat + 1) * 2 ^ f.mb
        if f.maxEnc < enc then
          match r with
          | .sr _ =>
            if up && decide (enc = f.maxEnc + 1) then (sgn s + f.maxEnc, flInx)
            else (sgn s + (if infMode && f.hasInf then f.infEnc else f.maxEnc), flOvf + flInx)
          | .rne => (sgn s + (if infMode && f.hasInf then f.infEnc else f.maxEnc), flOvf + flInx)
        else
          (sgn s + enc, (if inexact then flInx else 0) + (if inexact && decide (enc < 2 ^ f.mb) then flUnf else 0))
  else
    let top : Int := 2 ^ (f.w - 1)
    match n with
    | .nan => (0, flNan)
    | .inf s => (unsigned f.w (if s then -top else top - 1), flSat + flInx)
    | .fin s m e sticky =>
      let (q, inexact, _) := roundMag r m e sticky (-(f.frac : Int))
      let i : Int := if s then -(q : Int) else q
      if i < -top then (unsigned f.w (-top), flSat + flInx)
      else if top ≤ i then (unsigned f.w (top - 1), flSat + flInx)
      else (unsigned f.w i, if inexact then flInx else 0)

namespace Num

/-- The sign. -/
def neg? : Num → Bool
  | .nan => false
  | .inf s => s
  | .fin s _ _ _ => s

/-- Whether the number is a zero. -/
def isZero : Num → Bool
  | .fin _ m _ st => decide (m = 0) && !st
  | _ => false

/-- The negative. -/
def opp : Num → Num
  | .nan => .nan
  | .inf s => .inf (!s)
  | .fin s m e st => .fin (!s) m e st

/-- The magnitude. -/
def mag : Num → Num
  | .nan => .nan
  | .inf _ => .inf false
  | .fin _ m e st => .fin false m e st

/-- The signed integer of a finite number at unit 2^g, for g not above its exponent. -/
def atUnit (s : Bool) (m : Nat) (e g : Int) : Int :=
  let i : Int := (m * 2 ^ (e - g).toNat : Nat)
  if s then -i else i

/-- Exact sum; inf − inf is NaN (R90). -/
def add : Num → Num → Num
  | .nan, _ => .nan
  | _, .nan => .nan
  | .inf a, .inf b => if a = b then .inf a else .nan
  | .inf a, _ => .inf a
  | _, .inf b => .inf b
  | .fin s m e st, .fin s' m' e' st' =>
    let g := min e e'
    let i := atUnit s m e g + atUnit s' m' e' g
    if i = 0 then .fin (s && s') 0 g (st || st') else .fin (decide (i < 0)) i.natAbs g (st || st')

/-- Exact product; 0 × inf is NaN (R90). -/
def mul : Num → Num → Num
  | .nan, _ => .nan
  | _, .nan => .nan
  | .inf a, b => if b.isZero then .nan else .inf (xor a b.neg?)
  | a, .inf b => if a.isZero then .nan else .inf (xor a.neg? b)
  | .fin s m e st, .fin s' m' e' st' => .fin (xor s s') (m * m') (e + e') (st || st')

/-- Quotient to 200 bits beyond the divisor's, with the remainder as sticky; the divisor is a finite non-zero number. -/
def quot (s : Bool) (m : Nat) (e : Int) (m' : Nat) (e' : Int) : Num :=
  let k := 200 + m'.log2
  .fin s (m * 2 ^ k / m') (e - e' - k) (decide (m * 2 ^ k % m' ≠ 0))

/-- Integer square root by Newton's iteration from above. -/
def isqrtGo (n : Nat) : Nat → Nat → Nat
  | 0, x => x
  | fuel + 1, x => let y := (x + n / x) / 2; if y < x then isqrtGo n fuel y else x

/-- Integer square root. -/
def isqrt (n : Nat) : Nat := if n = 0 then 0 else isqrtGo n (n.log2 + 2) (2 ^ (n.log2 / 2 + 1))

/-- Square root to more than 200 bits of a finite non-negative number. -/
def root (m : Nat) (e : Int) : Num :=
  let odd := decide (e % 2 ≠ 0)
  let m := if odd then 2 * m else m
  let e := if odd then e - 1 else e
  let x := isqrt (m * 2 ^ 400)
  .fin false x (e / 2 - 200) (decide (x * x ≠ m * 2 ^ 400))

/-- Whether a < b, for numbers that are not NaN. -/
def lt : Num → Num → Bool
  | .inf a, .inf b => a && !b
  | .inf a, _ => a
  | _, .inf b => !b
  | .fin s m e _, .fin s' m' e' _ => let g := min e e'; decide (atUnit s m e g < atUnit s' m' e' g)
  | _, _ => false

/-- Whether a = b as values, for numbers that are not NaN. -/
def eqv : Num → Num → Bool
  | .inf a, .inf b => a == b
  | .fin s m e _, .fin s' m' e' _ => let g := min e e'; decide (atUnit s m e g = atUnit s' m' e' g)
  | _, _ => false

/-- Whether the number is NaN. -/
def isNan : Num → Bool
  | .nan => true
  | _ => false

/-- The smaller, NaN if either is NaN (R115); −0 is below +0. -/
def minimum (a b : Num) : Num :=
  if a.isNan || b.isNan then .nan else if lt a b || (eqv a b && a.neg?) then a else b

/-- The larger, NaN if either is NaN (R115). -/
def maximum (a b : Num) : Num :=
  if a.isNan || b.isNan then .nan else if lt b a || (eqv a b && b.neg?) then a else b

/-- The condition codes of VCMP and SCMP (R115). -/
def cond (c : Nat) (a b : Num) : Bool :=
  let un := a.isNan || b.isNan
  match c % 8 with
  | 0 => !un && eqv a b
  | 1 => un || !eqv a b
  | 2 => !un && lt a b
  | 3 => !un && (lt a b || eqv a b)
  | 4 => !un && lt b a
  | 5 => !un && (lt b a || eqv a b)
  | 6 => !un
  | _ => un

end Num

/-- Fixed-point precision, in fraction bits, of the function evaluations below. -/
def fxBits : Nat := 320
/-- One at that precision. -/
def fxOne : Nat := 2 ^ fxBits

/-- Σ z^(2i+1)/(2i+1) over `fuel` terms from power p = z^k: the series of artanh. -/
def artanhGo (z2 : Nat) : Nat → Nat → Nat → Nat
  | 0, _, _ => 0
  | fuel + 1, k, p => p / k + artanhGo z2 fuel (k + 2) (p * z2 / fxOne)

/-- ln y for y in [1, 2) at fixed precision, as 2 · artanh((y − 1)/(y + 1)). -/
def fxLn (y : Nat) : Nat := let z := (y - fxOne) * fxOne / (y + fxOne); 2 * artanhGo (z * z / fxOne) 110 1 z

/-- ln 2. -/
def fxLn2 : Nat := let z := fxOne / 3; 2 * artanhGo (z * z / fxOne) 110 1 z

/-- Σ y^i / i! over `fuel` terms from term t at index i. -/
def expGo (y : Nat) : Nat → Nat → Nat → Nat
  | 0, _, t => t
  | fuel + 1, i, t => t + expGo y fuel (i + 1) (t * y / fxOne / i)

/-- 2^f for f in [0, 1). -/
def fxExp2 (f : Nat) : Nat := expGo (f * fxLn2 / fxOne) 80 1 fxOne

/-- A finite number at fixed precision, floored. -/
def toFx (s : Bool) (m : Nat) (e : Int) : Int :=
  let i : Int := if s then -(m : Int) else m
  if 0 ≤ e + fxBits then i * 2 ^ (e + fxBits).toNat else i / 2 ^ (-(e + fxBits)).toNat

/-- 2^t for a fixed-precision t, as (mantissa at fixed precision, exponent), |exponent| kept below 4096. -/
def fxPow2 (t : Int) : Nat × Int :=
  let n := t / (fxOne : Int)
  if 4096 ≤ n then (fxOne, 4096) else if n ≤ -4096 then (fxOne, -4096) else (fxExp2 (t % (fxOne : Int)).toNat, n)

/-- 2^x (R114 VEXP2); exact for integers. -/
def Num.exp2 : Num → Num
  | .nan => .nan
  | .inf s => if s then .zero else .inf false
  | .fin s m e _ =>
    if m = 0 then .one
    else
      let t := if 40 < e + (m.log2 : Int) then (if s then -(5000 * fxOne : Int) else 5000 * fxOne) else toFx s m e
      let exact := decide (0 ≤ e) || decide (m % 2 ^ (-e).toNat = 0)
      let (v, n) := fxPow2 t
      .fin false v (n - fxBits) (!exact)

/-- log2 x for x > 0 (R114 VLOG2); exact for powers of two. -/
def Num.log2 (m : Nat) (e : Int) : Num :=
  let n := e + (m.log2 : Int)
  if m = 2 ^ m.log2 then Num.ofInt n 0
  else
    let y := m * fxOne / 2 ^ m.log2
    let v : Int := n * fxOne + (fxLn y * fxOne / fxLn2 : Nat)
    .fin (decide (v < 0)) (if v < 0 then v.natAbs - 1 else v.natAbs) (-(fxBits : Int)) true

/-- e^y for a finite number y, as (mantissa, exponent). -/
def fxExp (s : Bool) (m : Nat) (e : Int) : Nat × Int :=
  if 40 < e + (m.log2 : Int) then (fxOne, if s then -4096 else 4096)
  else fxPow2 (toFx s m e * (fxOne : Int) / (fxLn2 : Int))

/-- tanh x (R114 VTANH), from E = e^(2|x|) as (E − 1)/(E + 1). -/
def Num.tanh : Num → Num
  | .nan => .nan
  | .inf s => .fin s 1 0 false
  | .fin s m e _ =>
    if m = 0 then .fin s 0 0 false
    else
      let (v, n) := fxExp false m (e + 1)
      if 400 ≤ n then .fin s (2 ^ 400 - 1) (-400) true
      else
        let big := v * 2 ^ n.toNat
        if big ≤ fxOne then .fin s m e true else .fin s ((big - fxOne) * fxOne / (big + fxOne)) (-(fxBits : Int)) true

/-- The sigmoid 1/(1 + e^(−x)) (R114 VSIG). -/
def Num.sigmoid : Num → Num
  | .nan => .nan
  | .inf s => if s then .zero else .one
  | .fin s m e _ =>
    if m = 0 then .fin false 1 (-1) false
    else
      let (v, n) := fxExp false m e
      if 700 ≤ n then (if s then .fin false 1 (-700) true else .fin false (2 ^ 400 - 1) (-400) true)
      else
        let big := v * 2 ^ n.toNat
        if s then .fin false (fxOne * fxOne / (fxOne + big)) (-(fxBits : Int)) true
        else .fin false (big * fxOne / (fxOne + big)) (-(fxBits : Int)) true

/-- The E2M1 magnitude codes of BS4 in halves (R84). -/
def bs4Halves (c : Nat) : Nat :=
  match c % 8 with
  | 0 => 0
  | 1 => 1
  | 2 => 2
  | 3 => 3
  | 4 => 4
  | 5 => 6
  | 6 => 8
  | _ => 12

/-- A BS4 element under its block scale X (R84). -/
def decodeBs4 (elt x : Nat) : Num :=
  if x % 256 = 0xFF then .nan else .fin (bitAt elt 3) (bs4Halves elt) ((x % 256 : Nat) - 128 : Int) false

/-- E2M1 as a floating-point format with exponent bias 1 (Table 3.6), for the rounding of R85 step 5. -/
def e2m1 : Fmt := ⟨4, true, 2, 1, 1, false, 0⟩

/-- One element of a BS4 block under scale X, rounded to E2M1 (R85 step 5): bits and flags. A magnitude above 6 takes 6 and
sets INX only; where the scale was held at 0 (`low`), a non-zero element that rounds to 0 sets UNF (step 4). -/
def encodeBs4 (r : Rnd) (x : Nat) (low : Bool) (n : Num) : Nat × Nat :=
  match n with
  | .nan => (0, flNan)
  | .inf s => (8 * b2n s + 7, flInx)
  | .fin s m e st =>
    if m = 0 ∧ ¬ st then (8 * b2n s, 0)
    else
      let e := e - ((x : Int) - 127)
      let g := max (-1) (e + (m.log2 : Int) - 1)
      let (q, inexact, _) := roundMag r m e st g
      let (q, g) := if q = 4 then (2, g + 1) else (q, g)
      let enc := if q < 2 then q else q - 2 + ((g + 1).toNat + 1) * 2
      if 7 < enc then (8 * b2n s + 7, flInx)
      else (8 * b2n s + enc, (if inexact then flInx else 0) + (if low && decide (enc = 0) then flUnf else 0))

/-- The block scale of R85 steps 1 to 4 and 6 from the 32 values: the scale, its flags, and whether it was held at 0. -/
def bs4Scale (l : List Num) : Nat × Nat × Bool :=
  if l.any Num.isNan then (0xFF, flNan, false)
  else
    let a := l.foldl (fun a n => Num.maximum a n.mag) Num.zero
    match a with
    | .fin _ m e _ =>
      if m = 0 then (0, 0, false)
      else
        let x := e + (m.log2 : Int) + 125
        if 0xFE < x then (0xFE, flOvf, false) else if x < 0 then (0, 0, true) else (x.toNat, 0, false)
    | _ => (0xFE, flOvf, false)

end Sys2Proof.Machine
end

