-- ==== Sys2Proof/Config.lean ====
section
/-!
DEFINITION. What the spec leaves to the implementation or to outside standards, as constants without a body: nothing can
be proved of their values. `freeValue` feeds every value the spec leaves open (notes/assumptions/1.md).
-/
namespace Sys2Proof.Config

/-- The k-th free value of a run: any number. -/
opaque freeValue : Nat → Nat

/-- SHA-512 (R412, R416), left uninterpreted. -/
opaque sha512 : List Byte → BitVec 512

/-- RSASSA-PSS verification of R416: public modulus, digest, signature. -/
opaque rsaVerify : List Byte → BitVec 512 → Nat → Bool

/-- ML-DSA-87 verification of R416: public key, digest, signature. -/
opaque mldsaVerify : List Byte → BitVec 512 → Nat → Bool

/-- Verification of a firmware image under the keys of the boot ROM (R371, R428): digest, both signatures as one number. -/
opaque firmwareVerify : Nat → Nat → Bool

/-- The device key's RSA-4096 signature (512 bytes) of a digest (R415, R431). -/
opaque deviceRsa : BitVec 512 → List Byte

/-- The device key's ML-DSA-87 signature (4,627 bytes) of a digest (R415, R431). -/
opaque deviceMldsa : BitVec 512 → List Byte

/-- The DER certificate chain of the device key (R431, R432), at most 8,192 bytes. -/
opaque deviceCerts : List Byte

/-- The provisional identity that a module of a serial number answers ENTDAA with (R387). -/
opaque provisionalId : Nat → BitVec 64

/-- The place of a journal entry within its area of the journal region (R417), by its sequence number: the spec does not say it. -/
opaque journalSlot : Nat → Nat

end Sys2Proof.Config
end

