-- ==== Sys2Proof/Machine/Tbl.lean ====
section
/-!
DEFINITION. Sparse tables: lists of (key, value) pairs with strictly rising keys, and memory in the canonical form of
`Mem.wf`. An unlisted byte of memory reads 0 (DESIGN CHOICE, notes/assumptions/2.md).
-/
namespace Sys2Proof.Machine

/-- A sparse table by key; keys rise strictly. -/
abbrev Tbl (α : Type) := List (Nat × α)

/-- The value listed under a key. -/
def Tbl.find {α : Type} : Tbl α → Nat → Option α
  | [], _ => none
  | (j, a) :: r, k => if j = k then some a else Tbl.find r k

/-- The value under a key, with a default for an unlisted key. -/
def Tbl.at {α : Type} (t : Tbl α) (k : Nat) (d : α) : α := (Tbl.find t k).getD d

/-- Lists a value under a key, in key order. -/
def Tbl.put {α : Type} : Tbl α → Nat → α → Tbl α
  | [], k, a => [(k, a)]
  | (j, b) :: r, k, a => if k < j then (k, a) :: (j, b) :: r else if k = j then (k, a) :: r else (j, b) :: Tbl.put r k a

/-- Removes a key. -/
def Tbl.del {α : Type} : Tbl α → Nat → Tbl α
  | [], _ => []
  | (j, b) :: r, k => if k = j then r else (j, b) :: Tbl.del r k

/-- Keys rise strictly, from above `lo` on. -/
def Tbl.risingFrom {α : Type} : Nat → Tbl α → Bool
  | _, [] => true
  | lo, (j, _) :: r => decide (lo ≤ j) && Tbl.risingFrom (j + 1) r

/-- Keys rise strictly. -/
def Tbl.wf {α : Type} (t : Tbl α) : Bool := Tbl.risingFrom 0 t

/-- Memory: listed bytes by address. -/
abbrev Mem := List Host.Cell

/-- What an unlisted address reads as. -/
def Mem.unlisted : Byte := 0

/-- One byte of memory. -/
def Mem.byte (m : Mem) (a : Nat) : Byte := Tbl.at m a Mem.unlisted

/-- Writes one byte, keeping the canonical form. -/
def Mem.setByte (m : Mem) (a : Nat) (b : Byte) : Mem := if b = Mem.unlisted then Tbl.del m a else Tbl.put m a b

/-- The canonical form: addresses strictly rising and no entry equal to what an unlisted address reads as. -/
def Mem.wf (m : Mem) : Bool := Tbl.wf m && m.all (fun c => decide (c.2 ≠ Mem.unlisted))

/-- Writes consecutive bytes. -/
def Mem.setBytes (m : Mem) (a : Nat) : List Byte → Mem
  | [] => m
  | b :: r => Mem.setBytes (Mem.setByte m a b) (a + 1) r

/-- Reads consecutive bytes. -/
def Mem.bytes (m : Mem) (a : Nat) : Nat → List Byte
  | 0 => []
  | n + 1 => Mem.byte m a :: Mem.bytes m (a + 1) n

/-- `n` bytes as a number, least significant byte first (R28). -/
def Mem.num (m : Mem) (a : Nat) : Nat → Nat
  | 0 => 0
  | n + 1 => (Mem.byte m a).toNat + 256 * Mem.num m (a + 1) n

end Sys2Proof.Machine
end

