-- ==== Sys2Proof/Machine/Mesh.lean ====
section
/-!
DEFINITION. The mesh (spec/01_module.md R20, spec/03_fabric.md R73 to R77, spec/06_plans.md R154): routes, their table entries and
latencies, HBM ports, stacks and pseudo-channels, fabric clocks and slots, homes of sluices.
-/
namespace Sys2Proof.Machine

/-- Mesh links between two hummocks (R20). -/
def meshHops (a b : Nat) : Nat := ((a / 8 - b / 8) + (b / 8 - a / 8)) + ((a % 8 - b % 8) + (b % 8 - a % 8))

/-- The router one hop away: 0 north, 1 east, 2 south, 3 west; no link wraps (R20, Table 6.4). -/
def meshStep (h d : Nat) : Option Nat :=
  match d with
  | 0 => if h < 8 then none else some (h - 8)
  | 1 => if h % 8 = 7 then none else some (h + 1)
  | 2 => if 24 ≤ h then none else some (h + 8)
  | _ => if h % 8 = 0 then none else some (h - 1)

/-- The links of a route, each the router it leaves and its direction, and the router where it ends. -/
def meshPath (h : Nat) : List Nat → Option (List (Nat × Nat) × Nat)
  | [] => some ([], h)
  | d :: r => (meshStep h d).bind (fun n => (meshPath n r).map (fun p => ((h, d) :: p.1, p.2)))

/-- A route table entry (Table 6.4). -/
structure Route where
  hops : Nat
  dirs : List Nat
  dest : Nat
  exit : Nat
deriving DecidableEq, Repr

/-- Decodes a route table entry; `none` where a reserved bit or an unused hop is not 0, EXIT is reserved or HOPS exceeds 10. -/
def Route.decode (x : Nat) : Option Route :=
  let h := bits x 0 4
  if 10 < h ∨ bits x 31 1 ≠ 0 ∨ 1 < bits x 29 2 ∨ bits x (4 + 2 * h) (20 - 2 * h) ≠ 0 then none
  else some { hops := h, dirs := (List.range h).map (fun i => bits x (4 + 2 * i) 2), dest := bits x 24 5, exit := bits x 29 2 }

/-- The links of a route from a hummock, where its hops form a minimal path to DEST (R75, R154). -/
def Route.links (r : Route) (src : Nat) : Option (List (Nat × Nat)) :=
  match meshPath src r.dirs with
  | some (l, e) => if e = r.dest ∧ r.hops = meshHops src r.dest then some l else none
  | none => none

/-- The entry that RTE selects in a route table of a constant store (R154). -/
def routeEntry (cst : Mem) (base rte : Nat) : Option Route := Route.decode (Mem.num cst (base + 4 * rte) 4)

/-- The stack whose HBM port a hummock's router has (Table 3.3). -/
def portStack (h : Nat) : Option Nat := if h < 8 then some (h / 4) else if 24 ≤ h then some (2 + (h - 24) / 4) else none

/-- The pseudo-channel of an HBM address: its granule modulo 128, which is the stack modulo 4 and the channel above it (R77). -/
def pseudoChannel (a : Nat) : Nat := a / 4096 % 128

/-- The stack of an HBM address (R77). -/
def stackOf (a : Nat) : Nat := a / 4096 % 4

/-- Whether a range of whole granules touches a pseudo-channel (R77). -/
def touches (base len pc : Nat) : Bool := decide ((pc + 128 - pseudoChannel base) % 128 < (len + 4095) / 4096)

/-- The fabric clock of a rung in units of 0.4 GHz (R54). -/
def clockRate (rung : Nat) : Nat := 4 - rung

/-- Fabric clocks in a time in ns at a rung (Table 3.2, R143). -/
def clocksIn (rung ns : Nat) : Nat := 2 * ns * clockRate rung / 5

/-- The first fabric clock of slot n of a frame of period 125 µs · 2^k at a rung (R37, R38). -/
def slotClock (k rung n : Nat) : Nat := 3125 * 2 ^ k * clockRate rung * n / 4

/-- The slot in which a clock of the frame falls. -/
def clockSlot (k rung clk : Nat) : Nat := 4 * clk / (3125 * 2 ^ k * clockRate rung)

/-- Latency of a read of hummock SRAM or HBM over h links (Table 3.2). -/
def readLat (h : Nat) : Nat := 2 * (4 + 3 * h)

/-- The clocks from the issue of a block transfer to its first chunk's arrival (Table 3.2, R119): read or write, remote or own hummock
(`none`), HBM at a rung. -/
def firstArrival (toLocal hbm : Bool) (rung : Nat) (remote : Option Nat) : Nat :=
  match hbm, toLocal, remote with
  | true, true, h => clocksIn rung 640 + readLat (h.getD 0)
  | true, false, _ => 0
  | false, true, some h => 12 + readLat h
  | false, true, none => 12
  | false, false, some h => 8 + 4 + 3 * h
  | false, false, none => 8

/-- The clocks from the issue of a block transfer of n chunks to its completion (R119): 2·n after the first arrival; an MHWR 1 µs after
its issue. An HBM read is planned as a hummock transfer's chunks are (DESIGN CHOICE, notes/assumptions/134.md). -/
def xferClocks (toLocal hbm : Bool) (rung n : Nat) (remote : Option Nat) : Nat :=
  if hbm ∧ ¬ toLocal then clocksIn rung 1000 else firstArrival toLocal hbm rung remote + 2 * n

/-- The home hummock of a sluice that a plan claims (R134). -/
def homeOf (p : Plan) (slu : Nat) : Option Nat :=
  (p.sluices.find? (fun x => decide (x.1 ≤ slu ∧ slu < x.1 + x.2.1))).map (fun x => x.2.2)

end Sys2Proof.Machine
end

