-- ==== Sys2Proof/Machine/Regs.lean ====
section
/-!
DEFINITION. The register map of BAR0 (spec/20_registers.md R444 to R452 and the register tables R452 names): every
register the spec gives, its offset and strides, its fields, their access codes (R12) and reset values (R11).
-/
namespace Sys2Proof.Machine

/-- The access codes of Table 0.4 (R12). -/
inductive Acc where
  | ro | rw | w1c | wo | lk
deriving DecidableEq, Repr

/-- The registers of BAR0, by the tables R452 names; an indexed register is one constructor. -/
inductive Reg where
  /-- `GLB_ID` -/
  | glbId
  /-- `GLB_SERIAL` -/
  | glbSerial
  /-- `GLB_FW` -/
  | glbFw
  /-- `GLB_SVN` -/
  | glbSvn
  /-- `GLB_STAT` -/
  | glbStat
  /-- `GLB_CNT` -/
  | glbCnt
  /-- `FRM_CFG` -/
  | frmCfg
  /-- `FRM_STAT` -/
  | frmStat
  /-- `FRM_TAI_NS` -/
  | frmTaiNs
  /-- `FRM_COUNT` -/
  | frmCount
  /-- `FRM_EPOCH` -/
  | frmEpoch
  /-- `FRM_NEXT_EPOCH` -/
  | frmNextEpoch
  /-- `PLN_STAGE_CTRL` -/
  | plnStageCtrl
  /-- `PLN_STAGE_STATUS` -/
  | plnStageStatus
  /-- `PLN_ARM` -/
  | plnArm
  /-- `PLN_SET_ID` -/
  | plnSetId
  /-- `PLN_SET_STAGED` -/
  | plnSetStaged
  /-- `PLN_PLACE_REQ` -/
  | plnPlaceReq
  /-- `PLN_LADDER_CFG` -/
  | plnLadderCfg
  /-- `PLN_LADDER_STAT` -/
  | plnLadderStat
  /-- `PLN_PROMO_CTRL` -/
  | plnPromoCtrl
  /-- `PLN_PROMO_STAT[k]` -/
  | plnPromoStat
  /-- `PLN_RETIRE_REQ[w]` -/
  | plnRetireReq
  /-- `PLN_RETIRED[w]` -/
  | plnRetired
  /-- `PLN_PART[p]` -/
  | plnPart
  /-- `PAR_CFG` -/
  | parCfg
  /-- `PAR_CTRL` -/
  | parCtrl
  /-- `PAR_STAT` -/
  | parStat
  /-- `PAR_LEASE` -/
  | parLease
  /-- `PAR_CNT` -/
  | parCnt
  /-- `PAR_TOL[k]` -/
  | parTol
  /-- `PAR_EXER` -/
  | parExer
  /-- `PAR_DOM_CFG` -/
  | parDomCfg
  /-- `PAR_DOM_STAT` -/
  | parDomStat
  /-- `PAR_DOM_MEMB[p]` -/
  | parDomMemb
  /-- `JRN_CFG` -/
  | jrnCfg
  /-- `JRN_STAT` -/
  | jrnStat
  /-- `JRN_HEAD` -/
  | jrnHead
  /-- `JRN_OLDEST` -/
  | jrnOldest
  /-- `JRN_FILL` -/
  | jrnFill
  /-- `JRN_CNT` -/
  | jrnCnt
  /-- `JRN_CHAIN` -/
  | jrnChain
  /-- `JRN_GRANT` -/
  | jrnGrant
  /-- `JRN_KEY[k]_ID` -/
  | jrnKeyId
  /-- `JRN_KEY[k]_CTR` -/
  | jrnKeyCtr
  /-- `OBS_CFG` -/
  | obsCfg
  /-- `OBS_TRACE` -/
  | obsTrace
  /-- `OBS_MEM` -/
  | obsMem
  /-- `OBS_UE` -/
  | obsUe
  /-- `OBS_SLU` -/
  | obsSlu
  /-- `OBS_EMIT` -/
  | obsEmit
  /-- `OBS_RPL` -/
  | obsRpl
  /-- `OBS_PART[p] +0x00` -/
  | obsPart0
  /-- `OBS_PART[p] +0x08` -/
  | obsPart1
  /-- `OBS_PART[p] +0x10` -/
  | obsPart2
  /-- `OBS_PART[p] +0x18` -/
  | obsPart3
  /-- `OBS_ING[j] +0x00` -/
  | obsIng0
  /-- `OBS_ING[j] +0x08` -/
  | obsIng1
  /-- `OBS_ING[j] +0x10` -/
  | obsIng2
  /-- `OBS_ING[j] +0x18` -/
  | obsIng3
  /-- `OBS_ING[j] +0x20` -/
  | obsIng4
  /-- `OBS_LMISS[n]` -/
  | obsLmiss
  /-- `OBS_REPL[c][i]` -/
  | obsRepl
  /-- `TEL_PORT[j]_CFG` -/
  | telPortCfg
  /-- `TEL_PORT[j]_ADDR_HI` -/
  | telPortHi
  /-- `TEL_PORT[j]_ADDR_LO` -/
  | telPortLo
  /-- `TEL_PORT[j]_MAC` -/
  | telPortMac
  /-- `TEL_PORT[j]_STAT` -/
  | telPortStat
  /-- `TEL_PTP_CFG` -/
  | telPtpCfg
  /-- `TEL_PTP_STAT` -/
  | telPtpStat
  /-- `TEL_PTP_GM` -/
  | telPtpGm
  /-- `TEL_ING_CFG` -/
  | telIngCfg
  /-- `TEL_DEC_STAT` -/
  | telDecStat
  /-- `TEL_SRC[k]_HI` -/
  | telSrcHi
  /-- `TEL_SRC[k]_LO` -/
  | telSrcLo
  /-- `TEL_DEST[k]_CFG` -/
  | telDestCfg
  /-- `TEL_DEST[k]_ADDR_HI` -/
  | telDestHi
  /-- `TEL_DEST[k]_ADDR_LO` -/
  | telDestLo
  /-- `TEL_DEST[k]_SEQ` -/
  | telDestSeq
  /-- `CAP_CFG` -/
  | capCfg
  /-- `CAP_STAT` -/
  | capStat
  /-- `CAP_ROW_BUDGET` -/
  | capRowBudget
  /-- `CAP_RACK[r]` -/
  | capRack
  /-- `CAP_PKG_LIM[n]` -/
  | capPkgLim
  /-- `CAP_PKG_RAMP[n]` -/
  | capPkgRamp
  /-- `CAP_PKG_OUT[n]` -/
  | capPkgOut
  /-- `CAP_PKG_SRC[n]` -/
  | capPkgSrc
  /-- `HST_CFG` -/
  | hstCfg
  /-- `HST_STAT` -/
  | hstStat
  /-- `HST_HB_CFG` -/
  | hstHbCfg
  /-- `HST_HB` -/
  | hstHb
  /-- `HST_RING[i]_BASE` -/
  | hstRingBase
  /-- `HST_RING[i]_CFG` -/
  | hstRingCfg
  /-- `HST_RING[i]_PROD` -/
  | hstRingProd
  /-- `HST_RING[i]_CONS` -/
  | hstRingCons
  /-- `HST_RING[i]_WB` -/
  | hstRingWb
  /-- `HST_RING[i]_CNT` -/
  | hstRingCnt
  /-- `MSI-X table entry v, message address` -/
  | hstMsixAddr
  /-- `MSI-X table entry v, message data and vector control` -/
  | hstMsixData
  /-- `MSI-X pending-bit array` -/
  | hstMsixPba
  /-- `HST_VEC[v]_MOD` -/
  | hstVecMod
  /-- `LPE_CH[n]_CFG` -/
  | lpeChCfg
  /-- `LPE_CH[n]_TLIM` -/
  | lpeChTlim
  /-- `LPE_CH[n]_ULIM` -/
  | lpeChUlim
  /-- `LPE_CH[n]_KPI` -/
  | lpeChKpi
  /-- `LPE_CH[n]_KD` -/
  | lpeChKd
  /-- `LPE_CH[n]_GAIN_TBL_BASE` -/
  | lpeChGtb
  /-- `LPE_CH[n]_SUP` -/
  | lpeChSup
  /-- `LPE_CH[n]_STAT` -/
  | lpeChStat
  /-- `LPE_CHX[n]_PROF1` -/
  | lpeChxProf1
  /-- `LPE_CHX[n]_PROF2` -/
  | lpeChxProf2
  /-- `LPE_CHX[n]_FB` -/
  | lpeChxFb
  /-- `LPE_CHX[n]_OUT` -/
  | lpeChxOut
  /-- `LPE_CTRL` -/
  | lpeCtrl
  /-- `LPE_STAT` -/
  | lpeStat
  /-- `LPE_RPL_CTRL` -/
  | lpeRplCtrl
  /-- `LPE_RPL[i]_CFG` -/
  | lpeRplCfg
  /-- `LPE_RPL[i]_AMP` -/
  | lpeRplAmp
  /-- `LPE_CHS[n] word k` -/
  | lpeChs
  /-- `LPE_GTBL[t]_PT[j]` -/
  | lpeGtbl
  /-- `LPE_STBL[n]_PT[j]` -/
  | lpeStbl
  /-- `DRV_PMP[p]_CFG` -/
  | drvPmpCfg
  /-- `DRV_PMP[p]_MOTOR` -/
  | drvPmpMotor
  /-- `DRV_PMP[p]_MOTOR2` -/
  | drvPmpMotor2
  /-- `DRV_PMP[p]_SPI` -/
  | drvPmpSpi
  /-- `DRV_PMP[p]_BAND` -/
  | drvPmpBand
  /-- `DRV_PMP[p]_STAT` -/
  | drvPmpStat
  /-- `DRV_PMP[p]_MEAS` -/
  | drvPmpMeas
  /-- `DRV_FAN[f]_CFG` -/
  | drvFanCfg
  /-- `DRV_FAN[f]_LIM` -/
  | drvFanLim
  /-- `DRV_FAN[f]_BAND` -/
  | drvFanBand
  /-- `DRV_FAN[f]_TACH` -/
  | drvFanTach
  /-- `DRV_FAN[f]_STAT` -/
  | drvFanStat
  /-- `DRV_FAN[f]_MEAS` -/
  | drvFanMeas
  /-- `DRV_ZONE[z]` -/
  | drvZone
  /-- `DRV_CTRL` -/
  | drvCtrl
  /-- `FB[b]_CFG` -/
  | fbCfg
  /-- `FB[b]_BT` -/
  | fbBt
  /-- `FB[b]_ERR` -/
  | fbErr
  /-- `FB[b]_FIFO[j]` -/
  | fbFifo
  /-- `FB[b]_CNT` -/
  | fbCnt
  /-- `FB[b]_BEAT` -/
  | fbBeat
  /-- `FB[b]_FLT[i]_ID` -/
  | fbFltId
  /-- `FB[b]_FLT[i]_MASK` -/
  | fbFltMask
  /-- `FB_PVAL[k]_BIND` -/
  | fbPvalBind
  /-- `FB_PVAL[k]_VAL` -/
  | fbPvalVal
  /-- `FB[b]_MO[m]_CFG` -/
  | fbMoCfg
  /-- `FB[b]_MO[m]_STAT` -/
  | fbMoStat
  /-- `FB[b]_MO[m]_TS` -/
  | fbMoTs
  /-- `FB[b]_MO[m]_DATA word k` -/
  | fbMoData
  /-- `PIO_TIN[i]_CFG` -/
  | pioTinCfg
  /-- `PIO_TIN[i]_VAL` -/
  | pioTinVal
  /-- `PIO_AIN[i]_CFG` -/
  | pioAinCfg
  /-- `PIO_AIN[i]_VAL` -/
  | pioAinVal
  /-- `PIO_AOUT[i]_CFG` -/
  | pioAoutCfg
  /-- `PIO_AOUT[i]_VAL` -/
  | pioAoutVal
  /-- `PIO_DIN_CFG` -/
  | pioDinCfg
  /-- `PIO_DIN_VAL` -/
  | pioDinVal
  /-- `PIO_DOUT_CFG` -/
  | pioDoutCfg
  /-- `PIO_DOUT_VAL` -/
  | pioDoutVal
  /-- `PIO_LEAK[i]_CFG` -/
  | pioLeakCfg
  /-- `PIO_LEAK[i]_VAL` -/
  | pioLeakVal
  /-- `PIO_THR_STAT` -/
  | pioThrStat
  /-- `PRT_CTRL` -/
  | prtCtrl
  /-- `PRT_STAT` -/
  | prtStat
  /-- `PRT_MC_CFG` -/
  | prtMcCfg
  /-- `PRT_MC_STAT` -/
  | prtMcStat
  /-- `PRT_THR_CHK` -/
  | prtThrChk
  /-- `PRT_TRIP[t]_CFG` -/
  | prtTripCfg
  /-- `PRT_TRIP[t]_LIM` -/
  | prtTripLim
  /-- `PRT_TRIP[t]_HYS` -/
  | prtTripHys
  /-- `PRT_TRIP[t]_STAT` -/
  | prtTripStat
  /-- `PRT_RESP[j]_CFG` -/
  | prtRespCfg
  /-- `PRT_RESP[j]_RACKS` -/
  | prtRespRacks
  /-- `PRT_RESP[j]_DRV` -/
  | prtRespDrv
  /-- `PRT_RESP[j]_OUT` -/
  | prtRespOut
  /-- `PRT_RESP[j]_NODES[b]` -/
  | prtRespNodes
  /-- `HUM[h]_MAP` -/
  | humMap
  /-- `HUM[h]_CTRL` -/
  | humCtrl
  /-- `HUM[h]_STAT` -/
  | humStat
  /-- `TUS[t]_STAT` -/
  | tusStat
  /-- `TUS[t]_FOLD` -/
  | tusFold
  /-- `TUS[t]_RUN` -/
  | tusRun
  /-- `TUS[t]_CNT` -/
  | tusCnt
  /-- `SLU_ENTRY[n]` -/
  | slu
  /-- `STM_ENTRY[n] bits [63:0]` -/
  | stmLo
  /-- `STM_ENTRY[n] bits [127:64]` -/
  | stmHi
deriving DecidableEq, Repr

/-- One field of a register: bits [lo + width − 1 : lo], its access code and its reset value. -/
structure Fld where
  reg : Reg
  lo : Nat
  width : Nat
  acc : Acc
  reset : Nat
deriving DecidableEq, Repr

/-- The offset of the register's first instance in BAR0 (Table 20.1 and the block tables). -/
def Reg.base : Reg → Nat
  | .glbId => 0x00000000
  | .glbSerial => 0x00000008
  | .glbFw => 0x00000010
  | .glbSvn => 0x00000018
  | .glbStat => 0x00000020
  | .glbCnt => 0x00000028
  | .frmCfg => 0x00010000
  | .frmStat => 0x00010008
  | .frmTaiNs => 0x00010010
  | .frmCount => 0x00010018
  | .frmEpoch => 0x00010020
  | .frmNextEpoch => 0x00010028
  | .plnStageCtrl => 0x00020000
  | .plnStageStatus => 0x00020008
  | .plnArm => 0x00020010
  | .plnSetId => 0x00020018
  | .plnSetStaged => 0x00020020
  | .plnPlaceReq => 0x00020028
  | .plnLadderCfg => 0x00020040
  | .plnLadderStat => 0x00020048
  | .plnPromoCtrl => 0x00020080
  | .plnPromoStat => 0x00020088
  | .plnRetireReq => 0x00020100
  | .plnRetired => 0x00020120
  | .plnPart => 0x00020140
  | .parCfg => 0x00030000
  | .parCtrl => 0x00030008
  | .parStat => 0x00030010
  | .parLease => 0x00030018
  | .parCnt => 0x00030020
  | .parTol => 0x00030040
  | .parExer => 0x00030080
  | .parDomCfg => 0x00030100
  | .parDomStat => 0x00030108
  | .parDomMemb => 0x00030140
  | .jrnCfg => 0x00040000
  | .jrnStat => 0x00040008
  | .jrnHead => 0x00040010
  | .jrnOldest => 0x00040018
  | .jrnFill => 0x00040020
  | .jrnCnt => 0x00040028
  | .jrnChain => 0x00040030
  | .jrnGrant => 0x00040038
  | .jrnKeyId => 0x00040100
  | .jrnKeyCtr => 0x00040108
  | .obsCfg => 0x00050000
  | .obsTrace => 0x00050008
  | .obsMem => 0x00050010
  | .obsUe => 0x00050018
  | .obsSlu => 0x00050020
  | .obsEmit => 0x00050028
  | .obsRpl => 0x00050030
  | .obsPart0 => 0x00050100
  | .obsPart1 => 0x00050108
  | .obsPart2 => 0x00050110
  | .obsPart3 => 0x00050118
  | .obsIng0 => 0x00050200
  | .obsIng1 => 0x00050208
  | .obsIng2 => 0x00050210
  | .obsIng3 => 0x00050218
  | .obsIng4 => 0x00050220
  | .obsLmiss => 0x00051000
  | .obsRepl => 0x00052000
  | .telPortCfg => 0x00060000
  | .telPortHi => 0x00060008
  | .telPortLo => 0x00060010
  | .telPortMac => 0x00060018
  | .telPortStat => 0x00060020
  | .telPtpCfg => 0x00060100
  | .telPtpStat => 0x00060108
  | .telPtpGm => 0x00060110
  | .telIngCfg => 0x00060200
  | .telDecStat => 0x00060208
  | .telSrcHi => 0x00061000
  | .telSrcLo => 0x00061008
  | .telDestCfg => 0x00062000
  | .telDestHi => 0x00062008
  | .telDestLo => 0x00062010
  | .telDestSeq => 0x00062018
  | .capCfg => 0x00070000
  | .capStat => 0x00070008
  | .capRowBudget => 0x00070010
  | .capRack => 0x00070100
  | .capPkgLim => 0x00071000
  | .capPkgRamp => 0x00071008
  | .capPkgOut => 0x00074000
  | .capPkgSrc => 0x00074008
  | .hstCfg => 0x00080000
  | .hstStat => 0x00080008
  | .hstHbCfg => 0x00080010
  | .hstHb => 0x00080018
  | .hstRingBase => 0x00080100
  | .hstRingCfg => 0x00080108
  | .hstRingProd => 0x00080110
  | .hstRingCons => 0x00080118
  | .hstRingWb => 0x00080120
  | .hstRingCnt => 0x00080128
  | .hstMsixAddr => 0x00081000
  | .hstMsixData => 0x00081008
  | .hstMsixPba => 0x00081800
  | .hstVecMod => 0x00081900
  | .lpeChCfg => 0x00100000
  | .lpeChTlim => 0x00100008
  | .lpeChUlim => 0x00100010
  | .lpeChKpi => 0x00100018
  | .lpeChKd => 0x00100020
  | .lpeChGtb => 0x00100028
  | .lpeChSup => 0x00100030
  | .lpeChStat => 0x00100038
  | .lpeChxProf1 => 0x00104000
  | .lpeChxProf2 => 0x00104008
  | .lpeChxFb => 0x00104010
  | .lpeChxOut => 0x00104018
  | .lpeCtrl => 0x00106000
  | .lpeStat => 0x00106008
  | .lpeRplCtrl => 0x00107F00
  | .lpeRplCfg => 0x00108000
  | .lpeRplAmp => 0x00108008
  | .lpeChs => 0x0010A000
  | .lpeGtbl => 0x00110000
  | .lpeStbl => 0x00130000
  | .drvPmpCfg => 0x00140000
  | .drvPmpMotor => 0x00140008
  | .drvPmpMotor2 => 0x00140010
  | .drvPmpSpi => 0x00140018
  | .drvPmpBand => 0x00140020
  | .drvPmpStat => 0x00140028
  | .drvPmpMeas => 0x00140030
  | .drvFanCfg => 0x00141000
  | .drvFanLim => 0x00141008
  | .drvFanBand => 0x00141010
  | .drvFanTach => 0x00141018
  | .drvFanStat => 0x00141020
  | .drvFanMeas => 0x00141028
  | .drvZone => 0x00141800
  | .drvCtrl => 0x00141C00
  | .fbCfg => 0x00160000
  | .fbBt => 0x00160008
  | .fbErr => 0x00160010
  | .fbFifo => 0x00160018
  | .fbCnt => 0x00160028
  | .fbBeat => 0x00160030
  | .fbFltId => 0x00161000
  | .fbFltMask => 0x00161008
  | .fbPvalBind => 0x00164000
  | .fbPvalVal => 0x00164008
  | .fbMoCfg => 0x00168000
  | .fbMoStat => 0x00168008
  | .fbMoTs => 0x00168010
  | .fbMoData => 0x00168040
  | .pioTinCfg => 0x001A0000
  | .pioTinVal => 0x001A0008
  | .pioAinCfg => 0x001A0400
  | .pioAinVal => 0x001A0408
  | .pioAoutCfg => 0x001A0600
  | .pioAoutVal => 0x001A0608
  | .pioDinCfg => 0x001A0700
  | .pioDinVal => 0x001A0708
  | .pioDoutCfg => 0x001A0710
  | .pioDoutVal => 0x001A0718
  | .pioLeakCfg => 0x001A0800
  | .pioLeakVal => 0x001A0808
  | .pioThrStat => 0x001A0A00
  | .prtCtrl => 0x001B0000
  | .prtStat => 0x001B0008
  | .prtMcCfg => 0x001B0010
  | .prtMcStat => 0x001B0018
  | .prtThrChk => 0x001B0020
  | .prtTripCfg => 0x001B0100
  | .prtTripLim => 0x001B0108
  | .prtTripHys => 0x001B0110
  | .prtTripStat => 0x001B0118
  | .prtRespCfg => 0x001B0800
  | .prtRespRacks => 0x001B0808
  | .prtRespDrv => 0x001B0810
  | .prtRespOut => 0x001B0818
  | .prtRespNodes => 0x001B0820
  | .humMap => 0x00200000
  | .humCtrl => 0x00200008
  | .humStat => 0x00200010
  | .tusStat => 0x00400000
  | .tusFold => 0x00400008
  | .tusRun => 0x00400010
  | .tusCnt => 0x00400018
  | .slu => 0x00800000
  | .stmLo => 0x01000000
  | .stmHi => 0x01000008

/-- Stride and count of each index of the register, outermost first. -/
def Reg.dims : Reg → List (Nat × Nat)
  | .plnPromoStat => [(0x8, 2)]
  | .plnRetireReq => [(0x8, 4)]
  | .plnRetired => [(0x8, 4)]
  | .plnPart => [(0x8, 8)]
  | .parTol => [(0x8, 8)]
  | .parDomMemb => [(0x8, 16)]
  | .jrnKeyId => [(0x10, 16)]
  | .jrnKeyCtr => [(0x10, 16)]
  | .obsPart0 => [(0x20, 8)]
  | .obsPart1 => [(0x20, 8)]
  | .obsPart2 => [(0x20, 8)]
  | .obsPart3 => [(0x20, 8)]
  | .obsIng0 => [(0x40, 2)]
  | .obsIng1 => [(0x40, 2)]
  | .obsIng2 => [(0x40, 2)]
  | .obsIng3 => [(0x40, 2)]
  | .obsIng4 => [(0x40, 2)]
  | .obsLmiss => [(0x8, 256)]
  | .obsRepl => [(0x2000, 7), (0x8, 1024)]
  | .telPortCfg => [(0x40, 2)]
  | .telPortHi => [(0x40, 2)]
  | .telPortLo => [(0x40, 2)]
  | .telPortMac => [(0x40, 2)]
  | .telPortStat => [(0x40, 2)]
  | .telSrcHi => [(0x10, 255)]
  | .telSrcLo => [(0x10, 255)]
  | .telDestCfg => [(0x20, 64)]
  | .telDestHi => [(0x20, 64)]
  | .telDestLo => [(0x20, 64)]
  | .telDestSeq => [(0x20, 64)]
  | .capRack => [(0x8, 32)]
  | .capPkgLim => [(0x10, 640)]
  | .capPkgRamp => [(0x10, 640)]
  | .capPkgOut => [(0x10, 640)]
  | .capPkgSrc => [(0x10, 640)]
  | .hstRingBase => [(0x40, 4)]
  | .hstRingCfg => [(0x40, 4)]
  | .hstRingProd => [(0x40, 4)]
  | .hstRingCons => [(0x40, 4)]
  | .hstRingWb => [(0x40, 4)]
  | .hstRingCnt => [(0x40, 4)]
  | .hstMsixAddr => [(0x10, 8)]
  | .hstMsixData => [(0x10, 8)]
  | .hstVecMod => [(0x8, 8)]
  | .lpeChCfg => [(0x40, 256)]
  | .lpeChTlim => [(0x40, 256)]
  | .lpeChUlim => [(0x40, 256)]
  | .lpeChKpi => [(0x40, 256)]
  | .lpeChKd => [(0x40, 256)]
  | .lpeChGtb => [(0x40, 256)]
  | .lpeChSup => [(0x40, 256)]
  | .lpeChStat => [(0x40, 256)]
  | .lpeChxProf1 => [(0x20, 256)]
  | .lpeChxProf2 => [(0x20, 256)]
  | .lpeChxFb => [(0x20, 256)]
  | .lpeChxOut => [(0x20, 256)]
  | .lpeRplCfg => [(0x10, 32)]
  | .lpeRplAmp => [(0x10, 32)]
  | .lpeChs => [(0x40, 256), (0x8, 8)]
  | .lpeGtbl => [(0x200, 256), (0x8, 64)]
  | .lpeStbl => [(0x80, 256), (0x8, 16)]
  | .drvPmpCfg => [(0x400, 4)]
  | .drvPmpMotor => [(0x400, 4)]
  | .drvPmpMotor2 => [(0x400, 4)]
  | .drvPmpSpi => [(0x400, 4)]
  | .drvPmpBand => [(0x400, 4)]
  | .drvPmpStat => [(0x400, 4)]
  | .drvPmpMeas => [(0x400, 4)]
  | .drvFanCfg => [(0x100, 8)]
  | .drvFanLim => [(0x100, 8)]
  | .drvFanBand => [(0x100, 8)]
  | .drvFanTach => [(0x100, 8)]
  | .drvFanStat => [(0x100, 8)]
  | .drvFanMeas => [(0x100, 8)]
  | .drvZone => [(0x8, 16)]
  | .fbCfg => [(0x10000, 4)]
  | .fbBt => [(0x10000, 4)]
  | .fbErr => [(0x10000, 4)]
  | .fbFifo => [(0x10000, 4), (0x8, 2)]
  | .fbCnt => [(0x10000, 4)]
  | .fbBeat => [(0x10000, 4)]
  | .fbFltId => [(0x10000, 4), (0x10, 64)]
  | .fbFltMask => [(0x10000, 4), (0x10, 64)]
  | .fbPvalBind => [(0x10, 256)]
  | .fbPvalVal => [(0x10, 256)]
  | .fbMoCfg => [(0x10000, 4), (0x80, 256)]
  | .fbMoStat => [(0x10000, 4), (0x80, 256)]
  | .fbMoTs => [(0x10000, 4), (0x80, 256)]
  | .fbMoData => [(0x10000, 4), (0x80, 256), (0x8, 8)]
  | .pioTinCfg => [(0x10, 64)]
  | .pioTinVal => [(0x10, 64)]
  | .pioAinCfg => [(0x10, 32)]
  | .pioAinVal => [(0x10, 32)]
  | .pioAoutCfg => [(0x10, 16)]
  | .pioAoutVal => [(0x10, 16)]
  | .pioLeakCfg => [(0x10, 32)]
  | .pioLeakVal => [(0x10, 32)]
  | .prtTripCfg => [(0x20, 32)]
  | .prtTripLim => [(0x20, 32)]
  | .prtTripHys => [(0x20, 32)]
  | .prtTripStat => [(0x20, 32)]
  | .prtRespCfg => [(0x40, 8)]
  | .prtRespRacks => [(0x40, 8)]
  | .prtRespDrv => [(0x40, 8)]
  | .prtRespOut => [(0x40, 8)]
  | .prtRespNodes => [(0x40, 8), (0x8, 4)]
  | .humMap => [(0x1000, 32)]
  | .humCtrl => [(0x1000, 32)]
  | .humStat => [(0x1000, 32)]
  | .tusStat => [(0x1000, 256)]
  | .tusFold => [(0x1000, 256)]
  | .tusRun => [(0x1000, 256)]
  | .tusCnt => [(0x1000, 256)]
  | .slu => [(0x8, 8192)]
  | .stmLo => [(0x10, 65536)]
  | .stmHi => [(0x10, 65536)]
  | _ => []

namespace F

def glbId_MODID : Fld := ⟨.glbId, 0, 14, .ro, 0x0⟩
def glbId_PART : Fld := ⟨.glbId, 16, 16, .ro, 0x640⟩
def glbId_DIE_REV : Fld := ⟨.glbId, 32, 8, .ro, 0x1⟩
def glbId_BOARD_REV : Fld := ⟨.glbId, 40, 8, .ro, 0x1⟩
def glbSerial_SERIAL : Fld := ⟨.glbSerial, 0, 64, .ro, 0x0⟩
def glbFw_FW_VER : Fld := ⟨.glbFw, 0, 64, .ro, 0x0⟩
def glbSvn_SVN : Fld := ⟨.glbSvn, 0, 32, .ro, 0x0⟩
def glbSvn_SVN_MIN : Fld := ⟨.glbSvn, 32, 32, .ro, 0x0⟩
def glbStat_PHASE : Fld := ⟨.glbStat, 0, 3, .ro, 0x0⟩
def glbStat_FATAL : Fld := ⟨.glbStat, 3, 1, .ro, 0x0⟩
def glbStat_FATAL_CAUSE : Fld := ⟨.glbStat, 4, 4, .ro, 0x0⟩
def glbStat_ERR_N : Fld := ⟨.glbStat, 8, 1, .ro, 0x1⟩
def glbStat_STRAP_CHG : Fld := ⟨.glbStat, 9, 1, .w1c, 0x0⟩
def glbStat_RST_GLITCH : Fld := ⟨.glbStat, 10, 1, .w1c, 0x0⟩
def glbStat_BOOT_SLOT : Fld := ⟨.glbStat, 11, 1, .ro, 0x0⟩
def glbStat_BOOT_REMOTE : Fld := ⟨.glbStat, 12, 1, .ro, 0x0⟩
def glbStat_RESET_CAUSE : Fld := ⟨.glbStat, 13, 3, .ro, 0x0⟩
def glbStat_PAIR : Fld := ⟨.glbStat, 16, 1, .ro, 0x0⟩
def glbStat_BOOT : Fld := ⟨.glbStat, 17, 2, .ro, 0x0⟩
def glbStat_USABLE : Fld := ⟨.glbStat, 32, 9, .ro, 0x0⟩
def glbCnt_FABRIC_RST : Fld := ⟨.glbCnt, 0, 16, .ro, 0x0⟩
def glbCnt_RST_GLITCH : Fld := ⟨.glbCnt, 16, 16, .ro, 0x0⟩
def glbCnt_STRAP_CHG : Fld := ⟨.glbCnt, 32, 16, .ro, 0x0⟩
def frmCfg_PERIOD_K : Fld := ⟨.frmCfg, 0, 3, .rw, 0x3⟩
def frmCfg_EPOCH_M : Fld := ⟨.frmCfg, 4, 4, .rw, 0x8⟩
def frmCfg_TIME_SET : Fld := ⟨.frmCfg, 8, 1, .wo, 0x0⟩
def frmStat_PERIOD_K : Fld := ⟨.frmStat, 0, 3, .ro, 0x3⟩
def frmStat_EPOCH_M : Fld := ⟨.frmStat, 4, 4, .ro, 0x8⟩
def frmStat_PENDING : Fld := ⟨.frmStat, 8, 1, .ro, 0x0⟩
def frmStat_TIME_VALID : Fld := ⟨.frmStat, 9, 1, .ro, 0x0⟩
def frmStat_RUNNING : Fld := ⟨.frmStat, 10, 1, .ro, 0x0⟩
def frmStat_TIME_HOLDOVER : Fld := ⟨.frmStat, 11, 1, .ro, 0x0⟩
def frmStat_TIME_FAULT : Fld := ⟨.frmStat, 12, 1, .ro, 0x0⟩
def frmStat_SLOT : Fld := ⟨.frmStat, 16, 6, .ro, 0x0⟩
def frmTaiNs_TAI_NS : Fld := ⟨.frmTaiNs, 0, 64, .rw, 0x0⟩
def frmCount_COUNT : Fld := ⟨.frmCount, 0, 64, .ro, 0x0⟩
def frmEpoch_EPOCH : Fld := ⟨.frmEpoch, 0, 32, .ro, 0x0⟩
def frmNextEpoch_NEXT : Fld := ⟨.frmNextEpoch, 0, 64, .ro, 0x0⟩
def plnStageCtrl_CHECK : Fld := ⟨.plnStageCtrl, 0, 1, .wo, 0x0⟩
def plnStageCtrl_CLEAR : Fld := ⟨.plnStageCtrl, 1, 1, .wo, 0x0⟩
def plnStageStatus_STATE : Fld := ⟨.plnStageStatus, 0, 4, .ro, 0x0⟩
def plnStageStatus_CODE : Fld := ⟨.plnStageStatus, 4, 8, .ro, 0x0⟩
def plnStageStatus_PLAN : Fld := ⟨.plnStageStatus, 12, 4, .ro, 0x0⟩
def plnStageStatus_TUSSOCK : Fld := ⟨.plnStageStatus, 16, 16, .ro, 0xFFFF⟩
def plnStageStatus_POS : Fld := ⟨.plnStageStatus, 32, 14, .ro, 0x0⟩
def plnStageStatus_BANK : Fld := ⟨.plnStageStatus, 48, 1, .ro, 0x0⟩
def plnArm_TARGET : Fld := ⟨.plnArm, 0, 32, .rw, 0x0⟩
def plnArm_WITHDRAW : Fld := ⟨.plnArm, 32, 1, .wo, 0x0⟩
def plnSetId_IN_FORCE : Fld := ⟨.plnSetId, 0, 64, .ro, 0x0⟩
def plnSetStaged_STAGED : Fld := ⟨.plnSetStaged, 0, 64, .ro, 0x0⟩
def plnPlaceReq_PLACE0 : Fld := ⟨.plnPlaceReq, 0, 2, .rw, 0x0⟩
def plnPlaceReq_REQ0 : Fld := ⟨.plnPlaceReq, 2, 1, .rw, 0x0⟩
def plnPlaceReq_PLACE1 : Fld := ⟨.plnPlaceReq, 4, 2, .rw, 0x0⟩
def plnPlaceReq_REQ1 : Fld := ⟨.plnPlaceReq, 6, 1, .rw, 0x0⟩
def plnPlaceReq_PLACE2 : Fld := ⟨.plnPlaceReq, 8, 2, .rw, 0x0⟩
def plnPlaceReq_REQ2 : Fld := ⟨.plnPlaceReq, 10, 1, .rw, 0x0⟩
def plnPlaceReq_PLACE3 : Fld := ⟨.plnPlaceReq, 12, 2, .rw, 0x0⟩
def plnPlaceReq_REQ3 : Fld := ⟨.plnPlaceReq, 14, 1, .rw, 0x0⟩
def plnPlaceReq_PLACE4 : Fld := ⟨.plnPlaceReq, 16, 2, .rw, 0x0⟩
def plnPlaceReq_REQ4 : Fld := ⟨.plnPlaceReq, 18, 1, .rw, 0x0⟩
def plnPlaceReq_PLACE5 : Fld := ⟨.plnPlaceReq, 20, 2, .rw, 0x0⟩
def plnPlaceReq_REQ5 : Fld := ⟨.plnPlaceReq, 22, 1, .rw, 0x0⟩
def plnPlaceReq_PLACE6 : Fld := ⟨.plnPlaceReq, 24, 2, .rw, 0x0⟩
def plnPlaceReq_REQ6 : Fld := ⟨.plnPlaceReq, 26, 1, .rw, 0x0⟩
def plnPlaceReq_PLACE7 : Fld := ⟨.plnPlaceReq, 28, 2, .rw, 0x0⟩
def plnPlaceReq_REQ7 : Fld := ⟨.plnPlaceReq, 30, 1, .rw, 0x0⟩
def plnLadderCfg_CEIL : Fld := ⟨.plnLadderCfg, 0, 2, .rw, 0x0⟩
def plnLadderCfg_DN_M : Fld := ⟨.plnLadderCfg, 4, 4, .rw, 0x2⟩
def plnLadderCfg_DN_WLOG : Fld := ⟨.plnLadderCfg, 8, 4, .rw, 0x4⟩
def plnLadderCfg_UP_LOG : Fld := ⟨.plnLadderCfg, 12, 4, .rw, 0xA⟩
def plnLadderCfg_PROB_LOG : Fld := ⟨.plnLadderCfg, 16, 4, .rw, 0x8⟩
def plnLadderCfg_UP_INH : Fld := ⟨.plnLadderCfg, 20, 1, .rw, 0x0⟩
def plnLadderStat_RUNG : Fld := ⟨.plnLadderStat, 0, 2, .ro, 0x0⟩
def plnLadderStat_FORCED : Fld := ⟨.plnLadderStat, 2, 2, .ro, 0x0⟩
def plnLadderStat_MISSWIN : Fld := ⟨.plnLadderStat, 4, 4, .ro, 0x0⟩
def plnLadderStat_UP_CUR_LOG : Fld := ⟨.plnLadderStat, 8, 5, .ro, 0xA⟩
def plnLadderStat_PROBATION : Fld := ⟨.plnLadderStat, 13, 1, .ro, 0x0⟩
def plnLadderStat_RETIRE_HOLD : Fld := ⟨.plnLadderStat, 14, 1, .ro, 0x0⟩
def plnLadderStat_PLACE_NONE : Fld := ⟨.plnLadderStat, 15, 1, .ro, 0x0⟩
def plnLadderStat_LAST_STEP : Fld := ⟨.plnLadderStat, 16, 32, .ro, 0x0⟩
def plnPromoCtrl_AUTO_W : Fld := ⟨.plnPromoCtrl, 0, 1, .rw, 0x0⟩
def plnPromoCtrl_AUTO_C : Fld := ⟨.plnPromoCtrl, 1, 1, .rw, 0x0⟩
def plnPromoCtrl_GO_W : Fld := ⟨.plnPromoCtrl, 4, 1, .wo, 0x0⟩
def plnPromoCtrl_GO_C : Fld := ⟨.plnPromoCtrl, 5, 1, .wo, 0x0⟩
def plnPromoCtrl_DEMOTE_W : Fld := ⟨.plnPromoCtrl, 8, 1, .wo, 0x0⟩
def plnPromoCtrl_DEMOTE_C : Fld := ⟨.plnPromoCtrl, 9, 1, .wo, 0x0⟩
def plnPromoCtrl_WITHDRAW_W : Fld := ⟨.plnPromoCtrl, 12, 1, .wo, 0x0⟩
def plnPromoCtrl_WITHDRAW_C : Fld := ⟨.plnPromoCtrl, 13, 1, .wo, 0x0⟩
def plnPromoStat_STATE : Fld := ⟨.plnPromoStat, 0, 4, .ro, 0x0⟩
def plnPromoStat_CODE : Fld := ⟨.plnPromoStat, 4, 8, .ro, 0x0⟩
def plnPromoStat_DEFER : Fld := ⟨.plnPromoStat, 12, 4, .ro, 0x0⟩
def plnPromoStat_VERSION : Fld := ⟨.plnPromoStat, 16, 32, .ro, 0x0⟩
def plnPromoStat_PREV_VALID : Fld := ⟨.plnPromoStat, 48, 1, .ro, 0x0⟩
def plnPromoStat_PROBATION : Fld := ⟨.plnPromoStat, 49, 1, .ro, 0x0⟩
def plnRetireReq_REQ : Fld := ⟨.plnRetireReq, 0, 64, .rw, 0x0⟩
def plnRetired_RETIRED : Fld := ⟨.plnRetired, 0, 64, .ro, 0x0⟩
def plnPart_HUMMOCKS : Fld := ⟨.plnPart, 0, 32, .ro, 0x0⟩
def plnPart_ROLE : Fld := ⟨.plnPart, 32, 3, .ro, 0x0⟩
def plnPart_PRESENT : Fld := ⟨.plnPart, 35, 1, .ro, 0x0⟩
def plnPart_PLACE : Fld := ⟨.plnPart, 36, 2, .ro, 0x0⟩
def plnPart_SUSPENDED : Fld := ⟨.plnPart, 38, 1, .ro, 0x0⟩
def plnPart_HELD : Fld := ⟨.plnPart, 39, 1, .ro, 0x0⟩
def plnPart_NO_PLACE : Fld := ⟨.plnPart, 40, 1, .ro, 0x0⟩
def parCfg_MODE : Fld := ⟨.parCfg, 0, 1, .ro, 0x0⟩
def parCfg_PARTNER_ID : Fld := ⟨.parCfg, 1, 14, .rw, 0x0⟩
def parCfg_DUR_F : Fld := ⟨.parCfg, 15, 5, .rw, 0x4⟩
def parCfg_GUARD_F : Fld := ⟨.parCfg, 20, 5, .rw, 0x2⟩
def parCfg_CLAIM_INELIG : Fld := ⟨.parCfg, 25, 1, .rw, 0x1⟩
def parCfg_AUTO_HANDOVER : Fld := ⟨.parCfg, 26, 1, .rw, 0x1⟩
def parCfg_ELIG_F : Fld := ⟨.parCfg, 27, 16, .rw, 0x400⟩
def parCfg_EXER_DAYS : Fld := ⟨.parCfg, 43, 9, .rw, 0x7⟩
def parCtrl_HANDOVER : Fld := ⟨.parCtrl, 0, 1, .wo, 0x0⟩
def parCtrl_REJOIN : Fld := ⟨.parCtrl, 1, 1, .wo, 0x0⟩
def parCtrl_DOM_LEAVE : Fld := ⟨.parCtrl, 2, 1, .wo, 0x0⟩
def parStat_ROLE : Fld := ⟨.parStat, 0, 3, .ro, 0x0⟩
def parStat_ACT : Fld := ⟨.parStat, 3, 1, .ro, 0x0⟩
def parStat_ACT_IN : Fld := ⟨.parStat, 4, 1, .ro, 0x0⟩
def parStat_PEER_PRSNT : Fld := ⟨.parStat, 5, 1, .ro, 0x0⟩
def parStat_P0_UP : Fld := ⟨.parStat, 6, 1, .ro, 0x0⟩
def parStat_LEASE_PAIR_OK : Fld := ⟨.parStat, 7, 1, .ro, 0x0⟩
def parStat_SHADOW_DIVERGE : Fld := ⟨.parStat, 8, 1, .w1c, 0x0⟩
def parStat_PATHS_LOST : Fld := ⟨.parStat, 9, 1, .w1c, 0x0⟩
def parStat_INELIG_CLAIM : Fld := ⟨.parStat, 10, 1, .w1c, 0x0⟩
def parStat_REEPOCH : Fld := ⟨.parStat, 11, 1, .w1c, 0x0⟩
def parStat_HANDOVER_PEND : Fld := ⟨.parStat, 12, 1, .ro, 0x0⟩
def parStat_EXER_DUE : Fld := ⟨.parStat, 13, 1, .ro, 0x1⟩
def parStat_CLEAN_F : Fld := ⟨.parStat, 16, 16, .ro, 0x0⟩
def parLease_EPOCH : Fld := ⟨.parLease, 0, 32, .ro, 0x0⟩
def parLease_END : Fld := ⟨.parLease, 32, 32, .ro, 0x0⟩
def parCnt_DIVERGE_OUT : Fld := ⟨.parCnt, 0, 16, .ro, 0x0⟩
def parCnt_SHADOW_MISS : Fld := ⟨.parCnt, 16, 16, .ro, 0x0⟩
def parCnt_IMG_LOST : Fld := ⟨.parCnt, 32, 16, .ro, 0x0⟩
def parCnt_CRC_ERR : Fld := ⟨.parCnt, 48, 16, .ro, 0x0⟩
def parTol_TOL : Fld := ⟨.parTol, 0, 32, .rw, 0x10000⟩
def parTol_PERSIST : Fld := ⟨.parTol, 32, 8, .rw, 0x3⟩
def parExer_GO : Fld := ⟨.parExer, 0, 1, .wo, 0x0⟩
def parExer_BUSY : Fld := ⟨.parExer, 1, 1, .ro, 0x0⟩
def parExer_PASS : Fld := ⟨.parExer, 2, 1, .ro, 0x0⟩
def parExer_FAIL : Fld := ⟨.parExer, 3, 1, .w1c, 0x0⟩
def parExer_STEP : Fld := ⟨.parExer, 4, 4, .ro, 0x0⟩
def parExer_AGE_H : Fld := ⟨.parExer, 32, 32, .ro, 0xFFFFFFFF⟩
def parDomCfg_EN : Fld := ⟨.parDomCfg, 0, 1, .rw, 0x0⟩
def parDomCfg_POS : Fld := ⟨.parDomCfg, 1, 4, .lk, 0x0⟩
def parDomCfg_REC_LEN : Fld := ⟨.parDomCfg, 5, 8, .lk, 0x0⟩
def parDomStat_STATE : Fld := ⟨.parDomStat, 0, 2, .ro, 0x0⟩
def parDomStat_REFERENCE : Fld := ⟨.parDomStat, 2, 1, .ro, 0x0⟩
def parDomStat_ALIGN_ERR : Fld := ⟨.parDomStat, 3, 1, .w1c, 0x0⟩
def parDomStat_REFUSE : Fld := ⟨.parDomStat, 4, 4, .ro, 0x0⟩
def parDomStat_MEMBERS : Fld := ⟨.parDomStat, 8, 5, .ro, 0x0⟩
def parDomStat_ALIGN_CNT : Fld := ⟨.parDomStat, 32, 16, .ro, 0x0⟩
def parDomStat_OFFSET : Fld := ⟨.parDomStat, 48, 16, .ro, 0x0⟩
def parDomMemb_PRESENT : Fld := ⟨.parDomMemb, 0, 1, .ro, 0x0⟩
def parDomMemb_LOST : Fld := ⟨.parDomMemb, 1, 1, .ro, 0x0⟩
def parDomMemb_MODULE : Fld := ⟨.parDomMemb, 2, 14, .ro, 0x0⟩
def parDomMemb_PARTNER : Fld := ⟨.parDomMemb, 16, 14, .ro, 0x0⟩
def jrnCfg_MLDSA_CKPT : Fld := ⟨.jrnCfg, 0, 1, .rw, 0x0⟩
def jrnStat_JOURNAL_FULL : Fld := ⟨.jrnStat, 0, 1, .ro, 0x0⟩
def jrnStat_COALESCE : Fld := ⟨.jrnStat, 1, 1, .ro, 0x0⟩
def jrnStat_HOLD : Fld := ⟨.jrnStat, 2, 1, .ro, 0x0⟩
def jrnStat_SAFE_COALESCE : Fld := ⟨.jrnStat, 3, 1, .ro, 0x0⟩
def jrnStat_SAFE_HOLD : Fld := ⟨.jrnStat, 4, 1, .ro, 0x0⟩
def jrnStat_OWNED : Fld := ⟨.jrnStat, 5, 1, .ro, 0x0⟩
def jrnStat_RESET_WAIT : Fld := ⟨.jrnStat, 6, 1, .ro, 0x0⟩
def jrnHead_SEQ : Fld := ⟨.jrnHead, 0, 64, .ro, 0x0⟩
def jrnOldest_SEQ : Fld := ⟨.jrnOldest, 0, 64, .ro, 0x0⟩
def jrnFill_MAIN : Fld := ⟨.jrnFill, 0, 32, .ro, 0x0⟩
def jrnFill_SAFE : Fld := ⟨.jrnFill, 32, 19, .ro, 0x0⟩
def jrnCnt_FULL_REFUSED : Fld := ⟨.jrnCnt, 0, 32, .ro, 0x0⟩
def jrnCnt_COALESCED : Fld := ⟨.jrnCnt, 32, 32, .ro, 0x0⟩
def jrnChain_CHAIN_ID : Fld := ⟨.jrnChain, 0, 64, .ro, 0x0⟩
def jrnGrant_PCIE : Fld := ⟨.jrnGrant, 0, 5, .ro, 0x7⟩
def jrnKeyId_KEY_ID : Fld := ⟨.jrnKeyId, 0, 32, .ro, 0x0⟩
def jrnKeyId_PRIV : Fld := ⟨.jrnKeyId, 32, 5, .ro, 0x0⟩
def jrnKeyId_REQ_MLDSA : Fld := ⟨.jrnKeyId, 37, 1, .ro, 0x0⟩
def jrnKeyId_VALID : Fld := ⟨.jrnKeyId, 38, 1, .ro, 0x0⟩
def jrnKeyCtr_CTR : Fld := ⟨.jrnKeyCtr, 0, 64, .ro, 0x0⟩
def obsCfg_TRACE_EN : Fld := ⟨.obsCfg, 0, 1, .rw, 0x0⟩
def obsCfg_TYPES : Fld := ⟨.obsCfg, 1, 5, .rw, 0x1D⟩
def obsCfg_WAIT_PART : Fld := ⟨.obsCfg, 8, 8, .rw, 0xFF⟩
def obsCfg_SLIP_MIN : Fld := ⟨.obsCfg, 16, 16, .rw, 0x10⟩
def obsCfg_TRACE_MAX : Fld := ⟨.obsCfg, 32, 16, .rw, 0x400⟩
def obsTrace_CAPPED : Fld := ⟨.obsTrace, 0, 32, .ro, 0x0⟩
def obsTrace_GENERATED : Fld := ⟨.obsTrace, 32, 32, .ro, 0x0⟩
def obsMem_SRAM_CE : Fld := ⟨.obsMem, 0, 32, .ro, 0x0⟩
def obsMem_HBM_RR : Fld := ⟨.obsMem, 32, 32, .ro, 0x0⟩
def obsUe_ADDR : Fld := ⟨.obsUe, 0, 38, .ro, 0x0⟩
def obsUe_KIND : Fld := ⟨.obsUe, 38, 2, .ro, 0x0⟩
def obsUe_COUNT : Fld := ⟨.obsUe, 48, 16, .ro, 0x0⟩
def obsSlu_STRAY : Fld := ⟨.obsSlu, 0, 32, .ro, 0x0⟩
def obsSlu_TRUNC : Fld := ⟨.obsSlu, 32, 32, .ro, 0x0⟩
def obsEmit_DEST_OFF : Fld := ⟨.obsEmit, 0, 32, .ro, 0x0⟩
def obsEmit_SUPPRESSED : Fld := ⟨.obsEmit, 32, 32, .ro, 0x0⟩
def obsRpl_START : Fld := ⟨.obsRpl, 0, 16, .ro, 0x0⟩
def obsRpl_END : Fld := ⟨.obsRpl, 16, 16, .ro, 0x0⟩
def obsRpl_SKIP : Fld := ⟨.obsRpl, 32, 16, .ro, 0x0⟩
def obsRpl_ABORT : Fld := ⟨.obsRpl, 48, 16, .ro, 0x0⟩
def obsPart0_MISS : Fld := ⟨.obsPart0, 0, 32, .ro, 0x0⟩
def obsPart0_OVERDUE : Fld := ⟨.obsPart0, 32, 32, .ro, 0x0⟩
def obsPart1_RUNG_AB : Fld := ⟨.obsPart1, 0, 32, .ro, 0x0⟩
def obsPart1_RESET_AB : Fld := ⟨.obsPart1, 32, 32, .ro, 0x0⟩
def obsPart2_SKIP : Fld := ⟨.obsPart2, 0, 32, .ro, 0x0⟩
def obsPart2_HELD : Fld := ⟨.obsPart2, 32, 32, .ro, 0x0⟩
def obsPart3_ANNOT_REF : Fld := ⟨.obsPart3, 0, 32, .ro, 0x0⟩
def obsPart3_RUNS : Fld := ⟨.obsPart3, 32, 32, .ro, 0x0⟩
def obsIng0_OTHER : Fld := ⟨.obsIng0, 0, 32, .ro, 0x0⟩
def obsIng0_MALFORMED : Fld := ⟨.obsIng0, 32, 32, .ro, 0x0⟩
def obsIng1_RESERVED : Fld := ⟨.obsIng1, 0, 32, .ro, 0x0⟩
def obsIng1_DISABLED : Fld := ⟨.obsIng1, 32, 32, .ro, 0x0⟩
def obsIng2_SOURCE : Fld := ⟨.obsIng2, 0, 32, .ro, 0x0⟩
def obsIng2_FUTURE : Fld := ⟨.obsIng2, 32, 32, .ro, 0x0⟩
def obsIng3_DECIM : Fld := ⟨.obsIng3, 0, 32, .ro, 0x0⟩
def obsIng3_OLDER : Fld := ⟨.obsIng3, 32, 32, .ro, 0x0⟩
def obsIng4_OVERRUN : Fld := ⟨.obsIng4, 0, 32, .ro, 0x0⟩
def obsIng4_ACCEPTED : Fld := ⟨.obsIng4, 32, 32, .ro, 0x0⟩
def obsLmiss_MISS_SMP : Fld := ⟨.obsLmiss, 0, 32, .ro, 0x0⟩
def obsRepl_REPL : Fld := ⟨.obsRepl, 0, 32, .ro, 0x0⟩
def obsRepl_SAT : Fld := ⟨.obsRepl, 32, 32, .ro, 0x0⟩
def telPortCfg_EN : Fld := ⟨.telPortCfg, 0, 1, .rw, 0x0⟩
def telPortCfg_VLAN_EN : Fld := ⟨.telPortCfg, 1, 1, .rw, 0x0⟩
def telPortCfg_VID : Fld := ⟨.telPortCfg, 2, 12, .rw, 0x0⟩
def telPortCfg_PCP : Fld := ⟨.telPortCfg, 14, 3, .rw, 0x6⟩
def telPortCfg_MTU : Fld := ⟨.telPortCfg, 32, 14, .rw, 0x5DC⟩
def telPortHi_ADDR_HI : Fld := ⟨.telPortHi, 0, 64, .rw, 0x0⟩
def telPortLo_ADDR_LO : Fld := ⟨.telPortLo, 0, 64, .rw, 0x0⟩
def telPortMac_MAC : Fld := ⟨.telPortMac, 0, 48, .ro, 0x0⟩
def telPortStat_LINK : Fld := ⟨.telPortStat, 0, 1, .ro, 0x0⟩
def telPortStat_DAD_FAIL : Fld := ⟨.telPortStat, 1, 1, .w1c, 0x0⟩
def telPtpCfg_PORT0 : Fld := ⟨.telPtpCfg, 0, 1, .rw, 0x1⟩
def telPtpCfg_PORT1 : Fld := ⟨.telPtpCfg, 1, 1, .rw, 0x1⟩
def telPtpCfg_DOMAIN : Fld := ⟨.telPtpCfg, 8, 8, .rw, 0x0⟩
def telPtpStat_STATE : Fld := ⟨.telPtpStat, 0, 2, .ro, 0x0⟩
def telPtpStat_SLAVE_PORT : Fld := ⟨.telPtpStat, 2, 1, .ro, 0x0⟩
def telPtpStat_OFFSET : Fld := ⟨.telPtpStat, 32, 32, .ro, 0x0⟩
def telPtpGm_GM_ID : Fld := ⟨.telPtpGm, 0, 64, .ro, 0x0⟩
def telIngCfg_UDP_PORT : Fld := ⟨.telIngCfg, 0, 16, .rw, 0xC350⟩
def telIngCfg_CAP_SRC_PORT : Fld := ⟨.telIngCfg, 16, 16, .rw, 0xC351⟩
def telDecStat_LVL1 : Fld := ⟨.telDecStat, 0, 3, .ro, 0x0⟩
def telDecStat_LVL2 : Fld := ⟨.telDecStat, 3, 3, .ro, 0x0⟩
def telDecStat_LVL3 : Fld := ⟨.telDecStat, 6, 3, .ro, 0x0⟩
def telDecStat_CHANGES : Fld := ⟨.telDecStat, 32, 32, .ro, 0x0⟩
def telSrcHi_ADDR_HI : Fld := ⟨.telSrcHi, 0, 64, .rw, 0x0⟩
def telSrcLo_ADDR_LO : Fld := ⟨.telSrcLo, 0, 64, .rw, 0x0⟩
def telDestCfg_EN : Fld := ⟨.telDestCfg, 0, 1, .rw, 0x0⟩
def telDestCfg_ETH0 : Fld := ⟨.telDestCfg, 1, 1, .rw, 0x1⟩
def telDestCfg_ETH1 : Fld := ⟨.telDestCfg, 2, 1, .rw, 0x0⟩
def telDestCfg_FAILOVER : Fld := ⟨.telDestCfg, 3, 1, .rw, 0x0⟩
def telDestCfg_UDP_PORT : Fld := ⟨.telDestCfg, 16, 16, .rw, 0xC352⟩
def telDestHi_ADDR_HI : Fld := ⟨.telDestHi, 0, 64, .rw, 0x0⟩
def telDestLo_ADDR_LO : Fld := ⟨.telDestLo, 0, 64, .rw, 0x0⟩
def telDestSeq_SEQ : Fld := ⟨.telDestSeq, 0, 64, .ro, 0x0⟩
def capCfg_LEASE_F : Fld := ⟨.capCfg, 0, 13, .rw, 0x10⟩
def capStat_INFEAS_ROW : Fld := ⟨.capStat, 0, 1, .ro, 0x0⟩
def capStat_INFEAS_RACK : Fld := ⟨.capStat, 1, 1, .ro, 0x0⟩
def capStat_INFEAS_PKG : Fld := ⟨.capStat, 2, 1, .ro, 0x0⟩
def capStat_CFG_ERR : Fld := ⟨.capStat, 3, 1, .ro, 0x0⟩
def capStat_RAMPING : Fld := ⟨.capStat, 4, 1, .ro, 0x0⟩
def capStat_PROT : Fld := ⟨.capStat, 5, 1, .ro, 0x0⟩
def capStat_CUT_FRAMES : Fld := ⟨.capStat, 16, 16, .ro, 0x0⟩
def capStat_ROW_SUM : Fld := ⟨.capStat, 32, 32, .ro, 0x0⟩
def capRowBudget_BUDGET : Fld := ⟨.capRowBudget, 0, 32, .rw, 0xFFFFFFFF⟩
def capRack_HOST_LIMIT : Fld := ⟨.capRack, 0, 32, .rw, 0xFFFFFFFF⟩
def capRack_RM_LIMIT : Fld := ⟨.capRack, 32, 32, .ro, 0xFFFFFFFF⟩
def capPkgLim_CAP_MAX : Fld := ⟨.capPkgLim, 0, 16, .rw, 0x0⟩
def capPkgLim_CAP_MIN : Fld := ⟨.capPkgLim, 16, 16, .rw, 0x0⟩
def capPkgLim_HOST_CEIL : Fld := ⟨.capPkgLim, 32, 16, .rw, 0xFFFF⟩
def capPkgRamp_RAMP_DN : Fld := ⟨.capPkgRamp, 0, 16, .rw, 0x61A8⟩
def capPkgRamp_RAMP_UP : Fld := ⟨.capPkgRamp, 16, 16, .rw, 0x61A8⟩
def capPkgOut_RELEASED : Fld := ⟨.capPkgOut, 0, 32, .ro, 0x0⟩
def capPkgOut_TARGET : Fld := ⟨.capPkgOut, 32, 32, .ro, 0x0⟩
def capPkgSrc_SRC : Fld := ⟨.capPkgSrc, 0, 3, .ro, 0x0⟩
def capPkgSrc_RAMPING : Fld := ⟨.capPkgSrc, 3, 1, .ro, 0x0⟩
def capPkgSrc_INFEAS : Fld := ⟨.capPkgSrc, 4, 1, .ro, 0x0⟩
def capPkgSrc_PROT : Fld := ⟨.capPkgSrc, 5, 1, .ro, 0x0⟩
def hstCfg_REFUSE_EV : Fld := ⟨.hstCfg, 0, 1, .rw, 0x0⟩
def hstStat_HOST_SILENT : Fld := ⟨.hstStat, 0, 1, .ro, 0x1⟩
def hstStat_LINK : Fld := ⟨.hstStat, 1, 1, .ro, 0x0⟩
def hstStat_WIDTH : Fld := ⟨.hstStat, 2, 2, .ro, 0x0⟩
def hstStat_SPEED : Fld := ⟨.hstStat, 4, 3, .ro, 0x0⟩
def hstStat_FLIT : Fld := ⟨.hstStat, 7, 1, .ro, 0x0⟩
def hstStat_BAD_WR : Fld := ⟨.hstStat, 16, 16, .ro, 0x0⟩
def hstStat_COLLIDE_CNT : Fld := ⟨.hstStat, 32, 16, .ro, 0x0⟩
def hstHbCfg_EN : Fld := ⟨.hstHbCfg, 0, 1, .rw, 0x1⟩
def hstHbCfg_TIMEOUT_F : Fld := ⟨.hstHbCfg, 1, 12, .rw, 0x64⟩
def hstHb_LAST : Fld := ⟨.hstHb, 0, 32, .rw, 0x0⟩
def hstHb_SILENT_CNT : Fld := ⟨.hstHb, 32, 32, .ro, 0x0⟩
def hstRingBase_ADDR : Fld := ⟨.hstRingBase, 12, 52, .lk, 0x0⟩
def hstRingCfg_EN : Fld := ⟨.hstRingCfg, 0, 1, .rw, 0x0⟩
def hstRingCfg_LOG2 : Fld := ⟨.hstRingCfg, 1, 5, .lk, 0x6⟩
def hstRingCfg_THRESH : Fld := ⟨.hstRingCfg, 16, 16, .rw, 0x1⟩
def hstRingProd_PROD : Fld := ⟨.hstRingProd, 0, 32, .rw, 0x0⟩
def hstRingCons_CONS : Fld := ⟨.hstRingCons, 0, 32, .rw, 0x0⟩
def hstRingWb_ADDR : Fld := ⟨.hstRingWb, 3, 61, .lk, 0x0⟩
def hstRingCnt_LOST : Fld := ⟨.hstRingCnt, 0, 32, .ro, 0x0⟩
def hstRingCnt_DMA_ERR : Fld := ⟨.hstRingCnt, 32, 32, .ro, 0x0⟩
def hstMsixAddr_ADDR : Fld := ⟨.hstMsixAddr, 0, 64, .rw, 0x0⟩
def hstMsixData_DATA : Fld := ⟨.hstMsixData, 0, 32, .rw, 0x0⟩
def hstMsixData_MASK : Fld := ⟨.hstMsixData, 32, 1, .rw, 0x1⟩
def hstMsixPba_PENDING : Fld := ⟨.hstMsixPba, 0, 8, .ro, 0x0⟩
def hstVecMod_MIN_US : Fld := ⟨.hstVecMod, 0, 16, .rw, 0x0⟩
def lpeChCfg_CLASS : Fld := ⟨.lpeChCfg, 0, 1, .ro, 0x0⟩
def lpeChCfg_MODE : Fld := ⟨.lpeChCfg, 1, 3, .rw, 0x0⟩
def lpeChCfg_DIV : Fld := ⟨.lpeChCfg, 4, 10, .lk, 0x0⟩
def lpeChCfg_FAULT_ACT : Fld := ⟨.lpeChCfg, 14, 2, .rw, 0x0⟩
def lpeChCfg_AUTO_REC : Fld := ⟨.lpeChCfg, 16, 1, .rw, 0x0⟩
def lpeChCfg_FB_KIND : Fld := ⟨.lpeChCfg, 20, 3, .lk, 0x0⟩
def lpeChCfg_FB_IDX : Fld := ⟨.lpeChCfg, 23, 8, .lk, 0x0⟩
def lpeChCfg_ACT_KIND : Fld := ⟨.lpeChCfg, 32, 3, .lk, 0x0⟩
def lpeChCfg_ACT_IDX : Fld := ⟨.lpeChCfg, 35, 10, .lk, 0x0⟩
def lpeChCfg_SCHED_KIND : Fld := ⟨.lpeChCfg, 45, 3, .lk, 0x0⟩
def lpeChCfg_SCHED_IDX : Fld := ⟨.lpeChCfg, 48, 8, .lk, 0x0⟩
def lpeChCfg_MISS_MAX : Fld := ⟨.lpeChCfg, 56, 8, .rw, 0x8⟩
def lpeChTlim_TMIN : Fld := ⟨.lpeChTlim, 0, 32, .rw, 0x0⟩
def lpeChTlim_TMAX : Fld := ⟨.lpeChTlim, 32, 32, .rw, 0x0⟩
def lpeChUlim_UMIN : Fld := ⟨.lpeChUlim, 0, 32, .rw, 0x0⟩
def lpeChUlim_UMAX : Fld := ⟨.lpeChUlim, 32, 32, .rw, 0x0⟩
def lpeChKpi_KP : Fld := ⟨.lpeChKpi, 0, 32, .rw, 0x0⟩
def lpeChKpi_KI : Fld := ⟨.lpeChKpi, 32, 32, .rw, 0x0⟩
def lpeChKd_KD : Fld := ⟨.lpeChKd, 0, 32, .rw, 0x0⟩
def lpeChKd_AD : Fld := ⟨.lpeChKd, 32, 16, .rw, 0x0⟩
def lpeChGtb_TBL : Fld := ⟨.lpeChGtb, 0, 8, .rw, 0x0⟩
def lpeChSup_FE_LIM : Fld := ⟨.lpeChSup, 0, 32, .rw, 0x0⟩
def lpeChSup_FE_TIME : Fld := ⟨.lpeChSup, 32, 12, .rw, 0x64⟩
def lpeChSup_BAND_TIME : Fld := ⟨.lpeChSup, 44, 12, .rw, 0x32⟩
def lpeChSup_FB_AGE : Fld := ⟨.lpeChSup, 56, 8, .rw, 0x14⟩
def lpeChStat_FOLLOW_ERR : Fld := ⟨.lpeChStat, 0, 1, .w1c, 0x0⟩
def lpeChStat_IMPLAUS : Fld := ⟨.lpeChStat, 1, 1, .w1c, 0x0⟩
def lpeChStat_FB_LOST : Fld := ⟨.lpeChStat, 2, 1, .w1c, 0x0⟩
def lpeChStat_MISS_SMP : Fld := ⟨.lpeChStat, 3, 1, .w1c, 0x0⟩
def lpeChStat_SAT : Fld := ⟨.lpeChStat, 4, 1, .w1c, 0x0⟩
def lpeChStat_OUT_LIM : Fld := ⟨.lpeChStat, 5, 1, .w1c, 0x0⟩
def lpeChStat_TBL_ERR : Fld := ⟨.lpeChStat, 6, 1, .w1c, 0x0⟩
def lpeChStat_BAND_BAD : Fld := ⟨.lpeChStat, 7, 1, .w1c, 0x0⟩
def lpeChStat_FAULTED : Fld := ⟨.lpeChStat, 16, 1, .ro, 0x0⟩
def lpeChStat_ON_SAFE : Fld := ⟨.lpeChStat, 17, 1, .ro, 0x1⟩
def lpeChStat_SETTLED : Fld := ⟨.lpeChStat, 18, 1, .ro, 0x0⟩
def lpeChStat_RIPPLE : Fld := ⟨.lpeChStat, 19, 1, .ro, 0x0⟩
def lpeChStat_PROT : Fld := ⟨.lpeChStat, 20, 1, .ro, 0x0⟩
def lpeChStat_STATE : Fld := ⟨.lpeChStat, 21, 3, .ro, 0x0⟩
def lpeChStat_SAMPLES : Fld := ⟨.lpeChStat, 32, 32, .ro, 0x0⟩
def lpeChxProf1_V_MAX : Fld := ⟨.lpeChxProf1, 0, 32, .rw, 0x0⟩
def lpeChxProf1_A_MAX : Fld := ⟨.lpeChxProf1, 32, 32, .rw, 0x0⟩
def lpeChxProf2_J_MAX : Fld := ⟨.lpeChxProf2, 0, 32, .rw, 0x0⟩
def lpeChxProf2_DU_MAX : Fld := ⟨.lpeChxProf2, 32, 32, .rw, 0x0⟩
def lpeChxFb_FB_GAIN : Fld := ⟨.lpeChxFb, 0, 32, .lk, 0x10000⟩
def lpeChxFb_FB_OFF : Fld := ⟨.lpeChxFb, 32, 32, .lk, 0x0⟩
def lpeChxOut_U_BIAS : Fld := ⟨.lpeChxOut, 0, 32, .rw, 0x0⟩
def lpeChxOut_U_SAFE : Fld := ⟨.lpeChxOut, 32, 32, .rw, 0x0⟩
def lpeCtrl_SIL_F : Fld := ⟨.lpeCtrl, 0, 8, .rw, 0x4⟩
def lpeCtrl_FORCE_SAFE : Fld := ⟨.lpeCtrl, 8, 1, .rw, 0x0⟩
def lpeCtrl_SAVE : Fld := ⟨.lpeCtrl, 9, 1, .wo, 0x0⟩
def lpeStat_SILENT : Fld := ⟨.lpeStat, 0, 1, .ro, 0x1⟩
def lpeStat_ANY_SAFE : Fld := ⟨.lpeStat, 1, 1, .ro, 0x0⟩
def lpeStat_SAVE_BUSY : Fld := ⟨.lpeStat, 2, 1, .ro, 0x0⟩
def lpeStat_RESTORED : Fld := ⟨.lpeStat, 3, 1, .ro, 0x0⟩
def lpeStat_SIL_CNT : Fld := ⟨.lpeStat, 8, 8, .ro, 0x0⟩
def lpeRplCtrl_EN : Fld := ⟨.lpeRplCtrl, 0, 1, .rw, 0x0⟩
def lpeRplCtrl_RUNG_MAX : Fld := ⟨.lpeRplCtrl, 1, 2, .rw, 0x1⟩
def lpeRplCtrl_AMP_PERMIL : Fld := ⟨.lpeRplCtrl, 8, 8, .rw, 0x14⟩
def lpeRplCfg_CH : Fld := ⟨.lpeRplCfg, 0, 8, .lk, 0x0⟩
def lpeRplCfg_ARM : Fld := ⟨.lpeRplCfg, 8, 1, .rw, 0x0⟩
def lpeRplCfg_GROUP : Fld := ⟨.lpeRplCfg, 12, 4, .lk, 0x0⟩
def lpeRplCfg_START : Fld := ⟨.lpeRplCfg, 16, 12, .lk, 0x0⟩
def lpeRplCfg_DUR : Fld := ⟨.lpeRplCfg, 28, 8, .lk, 0x0⟩
def lpeRplCfg_SHAPE : Fld := ⟨.lpeRplCfg, 36, 2, .lk, 0x0⟩
def lpeRplCfg_BITLEN : Fld := ⟨.lpeRplCfg, 38, 2, .lk, 0x0⟩
def lpeRplAmp_AMP : Fld := ⟨.lpeRplAmp, 0, 32, .lk, 0x0⟩
def lpeRplAmp_SETTLE : Fld := ⟨.lpeRplAmp, 32, 16, .lk, 0x0⟩
def lpeChs_WORD : Fld := ⟨.lpeChs, 0, 64, .ro, 0x0⟩
def lpeGtbl_E : Fld := ⟨.lpeGtbl, 0, 32, .rw, 0x0⟩
def lpeGtbl_G : Fld := ⟨.lpeGtbl, 32, 32, .rw, 0x0⟩
def lpeStbl_X : Fld := ⟨.lpeStbl, 0, 32, .rw, 0x0⟩
def lpeStbl_T : Fld := ⟨.lpeStbl, 32, 32, .rw, 0x0⟩
def drvPmpCfg_EN : Fld := ⟨.drvPmpCfg, 0, 1, .rw, 0x0⟩
def drvPmpCfg_AUTO_RST : Fld := ⟨.drvPmpCfg, 1, 1, .rw, 0x0⟩
def drvPmpCfg_F_SW : Fld := ⟨.drvPmpCfg, 8, 6, .lk, 0x10⟩
def drvPmpCfg_DEADT : Fld := ⟨.drvPmpCfg, 16, 8, .lk, 0x32⟩
def drvPmpCfg_POLES : Fld := ⟨.drvPmpCfg, 24, 4, .lk, 0x2⟩
def drvPmpCfg_ACC_MAX : Fld := ⟨.drvPmpCfg, 28, 16, .rw, 0x64⟩
def drvPmpMotor_N_RATED : Fld := ⟨.drvPmpMotor, 0, 16, .lk, 0x0⟩
def drvPmpMotor_I_MAX : Fld := ⟨.drvPmpMotor, 16, 16, .lk, 0x0⟩
def drvPmpMotor_I_FS : Fld := ⟨.drvPmpMotor, 32, 16, .lk, 0x0⟩
def drvPmpMotor_RS : Fld := ⟨.drvPmpMotor, 48, 16, .lk, 0x0⟩
def drvPmpMotor2_LD : Fld := ⟨.drvPmpMotor2, 0, 16, .lk, 0x0⟩
def drvPmpMotor2_LQ : Fld := ⟨.drvPmpMotor2, 16, 16, .lk, 0x0⟩
def drvPmpMotor2_PSI : Fld := ⟨.drvPmpMotor2, 32, 16, .lk, 0x0⟩
def drvPmpSpi_KSP : Fld := ⟨.drvPmpSpi, 0, 32, .rw, 0x0⟩
def drvPmpSpi_KSI : Fld := ⟨.drvPmpSpi, 32, 32, .rw, 0x0⟩
def drvPmpBand_LO0 : Fld := ⟨.drvPmpBand, 0, 16, .rw, 0x0⟩
def drvPmpBand_HI0 : Fld := ⟨.drvPmpBand, 16, 16, .rw, 0x0⟩
def drvPmpBand_LO1 : Fld := ⟨.drvPmpBand, 32, 16, .rw, 0x0⟩
def drvPmpBand_HI1 : Fld := ⟨.drvPmpBand, 48, 16, .rw, 0x0⟩
def drvPmpStat_OC : Fld := ⟨.drvPmpStat, 0, 1, .w1c, 0x0⟩
def drvPmpStat_GATE_FLT : Fld := ⟨.drvPmpStat, 1, 1, .w1c, 0x0⟩
def drvPmpStat_ISENSE : Fld := ⟨.drvPmpStat, 2, 1, .w1c, 0x0⟩
def drvPmpStat_LOCK_LOST : Fld := ⟨.drvPmpStat, 3, 1, .w1c, 0x0⟩
def drvPmpStat_START_FAIL : Fld := ⟨.drvPmpStat, 4, 1, .w1c, 0x0⟩
def drvPmpStat_RUN : Fld := ⟨.drvPmpStat, 8, 1, .ro, 0x0⟩
def drvPmpStat_IN_BAND : Fld := ⟨.drvPmpStat, 9, 1, .ro, 0x0⟩
def drvPmpStat_PROT : Fld := ⟨.drvPmpStat, 10, 1, .ro, 0x0⟩
def drvPmpStat_OFF_ACT : Fld := ⟨.drvPmpStat, 11, 1, .ro, 0x1⟩
def drvPmpStat_FLT_OFF : Fld := ⟨.drvPmpStat, 12, 1, .ro, 0x0⟩
def drvPmpMeas_CMD : Fld := ⟨.drvPmpMeas, 0, 16, .ro, 0x0⟩
def drvPmpMeas_SPEED : Fld := ⟨.drvPmpMeas, 16, 16, .ro, 0x0⟩
def drvPmpMeas_I_RMS : Fld := ⟨.drvPmpMeas, 32, 16, .ro, 0x0⟩
def drvPmpMeas_VBUS : Fld := ⟨.drvPmpMeas, 48, 16, .ro, 0x0⟩
def drvFanCfg_EN : Fld := ⟨.drvFanCfg, 0, 1, .rw, 0x0⟩
def drvFanCfg_TACH_PPR : Fld := ⟨.drvFanCfg, 4, 2, .lk, 0x1⟩
def drvFanCfg_TACH_EN : Fld := ⟨.drvFanCfg, 6, 1, .lk, 0x1⟩
def drvFanCfg_POLES : Fld := ⟨.drvFanCfg, 8, 4, .lk, 0x4⟩
def drvFanCfg_ZONES : Fld := ⟨.drvFanCfg, 16, 16, .rw, 0x0⟩
def drvFanCfg_ACC_MAX : Fld := ⟨.drvFanCfg, 32, 16, .rw, 0xC8⟩
def drvFanLim_N_RATED : Fld := ⟨.drvFanLim, 0, 16, .lk, 0x0⟩
def drvFanLim_I_MAX : Fld := ⟨.drvFanLim, 16, 16, .lk, 0x0⟩
def drvFanLim_SPD_MIN : Fld := ⟨.drvFanLim, 32, 16, .lk, 0x7D0⟩
def drvFanBand_LO0 : Fld := ⟨.drvFanBand, 0, 16, .rw, 0x0⟩
def drvFanBand_HI0 : Fld := ⟨.drvFanBand, 16, 16, .rw, 0x0⟩
def drvFanBand_LO1 : Fld := ⟨.drvFanBand, 32, 16, .rw, 0x0⟩
def drvFanBand_HI1 : Fld := ⟨.drvFanBand, 48, 16, .rw, 0x0⟩
def drvFanTach_TACH_TOL : Fld := ⟨.drvFanTach, 0, 8, .rw, 0xF⟩
def drvFanTach_TACH_TIME : Fld := ⟨.drvFanTach, 8, 12, .rw, 0x1F4⟩
def drvFanStat_STALL : Fld := ⟨.drvFanStat, 0, 1, .w1c, 0x0⟩
def drvFanStat_STALL_ALM : Fld := ⟨.drvFanStat, 1, 1, .w1c, 0x0⟩
def drvFanStat_TACH_LOST : Fld := ⟨.drvFanStat, 2, 1, .w1c, 0x0⟩
def drvFanStat_OC : Fld := ⟨.drvFanStat, 3, 1, .w1c, 0x0⟩
def drvFanStat_RUN : Fld := ⟨.drvFanStat, 8, 1, .ro, 0x0⟩
def drvFanStat_SENSORLESS : Fld := ⟨.drvFanStat, 9, 1, .ro, 0x0⟩
def drvFanStat_RETRY_WAIT : Fld := ⟨.drvFanStat, 10, 1, .ro, 0x0⟩
def drvFanStat_IN_BAND : Fld := ⟨.drvFanStat, 11, 1, .ro, 0x0⟩
def drvFanStat_PROT : Fld := ⟨.drvFanStat, 12, 1, .ro, 0x0⟩
def drvFanStat_AUX : Fld := ⟨.drvFanStat, 13, 1, .ro, 0x0⟩
def drvFanStat_OFF_ACT : Fld := ⟨.drvFanStat, 14, 1, .ro, 0x1⟩
def drvFanStat_FAILS : Fld := ⟨.drvFanStat, 16, 8, .ro, 0x0⟩
def drvFanStat_RETRY_S : Fld := ⟨.drvFanStat, 32, 16, .ro, 0x0⟩
def drvFanMeas_CMD : Fld := ⟨.drvFanMeas, 0, 16, .ro, 0x0⟩
def drvFanMeas_SPEED : Fld := ⟨.drvFanMeas, 16, 16, .ro, 0x0⟩
def drvFanMeas_TACH_SPD : Fld := ⟨.drvFanMeas, 32, 16, .ro, 0x0⟩
def drvFanMeas_I_RMS : Fld := ⟨.drvFanMeas, 48, 16, .ro, 0x0⟩
def drvZone_SAFE : Fld := ⟨.drvZone, 0, 16, .rw, 0x2710⟩
def drvZone_PLAN : Fld := ⟨.drvZone, 16, 16, .ro, 0x2710⟩
def drvZone_DEMAND : Fld := ⟨.drvZone, 32, 16, .ro, 0x2710⟩
def drvZone_PLAN_SAFE : Fld := ⟨.drvZone, 48, 1, .ro, 0x1⟩
def drvCtrl_AUX7 : Fld := ⟨.drvCtrl, 0, 1, .rw, 0x0⟩
def fbCfg_EN : Fld := ⟨.fbCfg, 0, 1, .rw, 0x0⟩
def fbCfg_TERM : Fld := ⟨.fbCfg, 1, 1, .rw, 0x0⟩
def fbCfg_LISTEN : Fld := ⟨.fbCfg, 2, 1, .lk, 0x0⟩
def fbCfg_PXE : Fld := ⟨.fbCfg, 3, 1, .lk, 0x1⟩
def fbCfg_BOFF_HOLD : Fld := ⟨.fbCfg, 8, 8, .rw, 0x64⟩
def fbBt_NBRP : Fld := ⟨.fbBt, 0, 5, .lk, 0x0⟩
def fbBt_NTSEG1 : Fld := ⟨.fbBt, 5, 8, .lk, 0x7E⟩
def fbBt_NTSEG2 : Fld := ⟨.fbBt, 13, 7, .lk, 0x1F⟩
def fbBt_NSJW : Fld := ⟨.fbBt, 20, 7, .lk, 0x1F⟩
def fbBt_DBRP : Fld := ⟨.fbBt, 32, 5, .lk, 0x0⟩
def fbBt_DTSEG1 : Fld := ⟨.fbBt, 37, 5, .lk, 0x1E⟩
def fbBt_DTSEG2 : Fld := ⟨.fbBt, 42, 4, .lk, 0x7⟩
def fbBt_DSJW : Fld := ⟨.fbBt, 46, 4, .lk, 0x7⟩
def fbBt_TDCO : Fld := ⟨.fbBt, 50, 7, .lk, 0x1F⟩
def fbBt_TDC_EN : Fld := ⟨.fbBt, 57, 1, .lk, 0x1⟩
def fbErr_TEC : Fld := ⟨.fbErr, 0, 8, .ro, 0x0⟩
def fbErr_REC : Fld := ⟨.fbErr, 8, 8, .ro, 0x0⟩
def fbErr_STATE : Fld := ⟨.fbErr, 16, 2, .ro, 0x3⟩
def fbErr_WARN : Fld := ⟨.fbErr, 18, 1, .ro, 0x0⟩
def fbErr_LEC : Fld := ⟨.fbErr, 19, 3, .ro, 0x0⟩
def fbErr_RECOVERING : Fld := ⟨.fbErr, 22, 1, .ro, 0x0⟩
def fbErr_FENCED_DEV : Fld := ⟨.fbErr, 23, 1, .w1c, 0x0⟩
def fbErr_BOFF_CNT : Fld := ⟨.fbErr, 24, 8, .ro, 0x0⟩
def fbFifo_LEVEL : Fld := ⟨.fbFifo, 0, 7, .ro, 0x0⟩
def fbFifo_OVF : Fld := ⟨.fbFifo, 7, 1, .w1c, 0x0⟩
def fbFifo_DROPPED : Fld := ⟨.fbFifo, 16, 16, .ro, 0x0⟩
def fbCnt_CANCEL_LATE : Fld := ⟨.fbCnt, 0, 16, .ro, 0x0⟩
def fbCnt_SUPERSEDED : Fld := ⟨.fbCnt, 16, 16, .ro, 0x0⟩
def fbCnt_UNMATCHED : Fld := ⟨.fbCnt, 32, 16, .ro, 0x0⟩
def fbCnt_RTR_DROP : Fld := ⟨.fbCnt, 48, 16, .ro, 0x0⟩
def fbBeat_EN : Fld := ⟨.fbBeat, 0, 1, .rw, 0x1⟩
def fbBeat_BEAT_MS : Fld := ⟨.fbBeat, 8, 10, .rw, 0xA⟩
def fbFltId_MATCH : Fld := ⟨.fbFltId, 0, 29, .rw, 0x0⟩
def fbFltId_IDE : Fld := ⟨.fbFltId, 29, 1, .rw, 0x0⟩
def fbFltId_IDE_CHK : Fld := ⟨.fbFltId, 30, 1, .rw, 0x1⟩
def fbFltId_ACT : Fld := ⟨.fbFltId, 32, 3, .rw, 0x0⟩
def fbFltId_OBJ : Fld := ⟨.fbFltId, 35, 8, .rw, 0x0⟩
def fbFltMask_MASK : Fld := ⟨.fbFltMask, 0, 29, .rw, 0x0⟩
def fbPvalBind_EN : Fld := ⟨.fbPvalBind, 0, 1, .rw, 0x0⟩
def fbPvalBind_BUS : Fld := ⟨.fbPvalBind, 1, 2, .rw, 0x0⟩
def fbPvalBind_NODE : Fld := ⟨.fbPvalBind, 3, 5, .rw, 0x0⟩
def fbPvalBind_KIND : Fld := ⟨.fbPvalBind, 8, 1, .rw, 0x0⟩
def fbPvalBind_SLOT : Fld := ⟨.fbPvalBind, 9, 2, .rw, 0x0⟩
def fbPvalBind_AGE_MS : Fld := ⟨.fbPvalBind, 16, 16, .rw, 0x64⟩
def fbPvalVal_VALUE : Fld := ⟨.fbPvalVal, 0, 32, .ro, 0x0⟩
def fbPvalVal_STATUS : Fld := ⟨.fbPvalVal, 32, 8, .ro, 0x0⟩
def fbPvalVal_FAULTED : Fld := ⟨.fbPvalVal, 40, 1, .ro, 0x1⟩
def fbPvalVal_AGE : Fld := ⟨.fbPvalVal, 48, 16, .ro, 0xFFFF⟩
def fbMoCfg_DIR : Fld := ⟨.fbMoCfg, 0, 2, .rw, 0x0⟩
def fbMoCfg_IDE : Fld := ⟨.fbMoCfg, 2, 1, .rw, 0x0⟩
def fbMoCfg_FDF : Fld := ⟨.fbMoCfg, 3, 1, .rw, 0x1⟩
def fbMoCfg_BRS : Fld := ⟨.fbMoCfg, 4, 1, .rw, 0x1⟩
def fbMoCfg_ID : Fld := ⟨.fbMoCfg, 8, 29, .rw, 0x0⟩
def fbMoStat_TXS : Fld := ⟨.fbMoStat, 0, 3, .ro, 0x0⟩
def fbMoStat_CANCEL_LATE : Fld := ⟨.fbMoStat, 3, 1, .w1c, 0x0⟩
def fbMoStat_SUPERSEDED : Fld := ⟨.fbMoStat, 4, 1, .w1c, 0x0⟩
def fbMoStat_NEW : Fld := ⟨.fbMoStat, 5, 1, .ro, 0x0⟩
def fbMoStat_OVERWRITE : Fld := ⟨.fbMoStat, 6, 1, .w1c, 0x0⟩
def fbMoStat_DLC : Fld := ⟨.fbMoStat, 8, 4, .ro, 0x0⟩
def fbMoStat_EPOCH : Fld := ⟨.fbMoStat, 32, 32, .ro, 0x0⟩
def fbMoTs_TS : Fld := ⟨.fbMoTs, 0, 64, .ro, 0x0⟩
def fbMoData_DATA : Fld := ⟨.fbMoData, 0, 64, .ro, 0x0⟩
def pioTinCfg_EN : Fld := ⟨.pioTinCfg, 0, 1, .rw, 0x0⟩
def pioTinCfg_TYPE : Fld := ⟨.pioTinCfg, 1, 2, .lk, 0x0⟩
def pioTinCfg_NTC_NOM : Fld := ⟨.pioTinCfg, 16, 16, .lk, 0x2710⟩
def pioTinCfg_NTC_BETA : Fld := ⟨.pioTinCfg, 32, 16, .lk, 0xF14⟩
def pioTinVal_VALUE : Fld := ⟨.pioTinVal, 0, 32, .ro, 0x0⟩
def pioTinVal_STATUS : Fld := ⟨.pioTinVal, 32, 8, .ro, 0x1⟩
def pioTinVal_AGE : Fld := ⟨.pioTinVal, 48, 16, .ro, 0xFFFF⟩
def pioAinCfg_EN : Fld := ⟨.pioAinCfg, 0, 1, .rw, 0x0⟩
def pioAinCfg_NE43 : Fld := ⟨.pioAinCfg, 1, 1, .rw, 0x1⟩
def pioAinVal_VALUE : Fld := ⟨.pioAinVal, 0, 32, .ro, 0x0⟩
def pioAinVal_STATUS : Fld := ⟨.pioAinVal, 32, 8, .ro, 0x1⟩
def pioAinVal_AGE : Fld := ⟨.pioAinVal, 48, 16, .ro, 0xFFFF⟩
def pioAoutCfg_MODE : Fld := ⟨.pioAoutCfg, 0, 2, .rw, 0x0⟩
def pioAoutCfg_SAFE : Fld := ⟨.pioAoutCfg, 32, 32, .rw, 0x0⟩
def pioAoutVal_VALUE : Fld := ⟨.pioAoutVal, 0, 32, .ro, 0x0⟩
def pioAoutVal_OPEN : Fld := ⟨.pioAoutVal, 32, 1, .w1c, 0x0⟩
def pioAoutVal_SHORT : Fld := ⟨.pioAoutVal, 33, 1, .w1c, 0x0⟩
def pioAoutVal_SAFE_IN : Fld := ⟨.pioAoutVal, 34, 1, .ro, 0x0⟩
def pioAoutVal_HIZ : Fld := ⟨.pioAoutVal, 35, 1, .ro, 0x1⟩
def pioAoutVal_CHAN : Fld := ⟨.pioAoutVal, 36, 1, .ro, 0x0⟩
def pioDinCfg_DEB_MS : Fld := ⟨.pioDinCfg, 0, 8, .rw, 0x1⟩
def pioDinVal_STATE : Fld := ⟨.pioDinVal, 0, 16, .ro, 0x0⟩
def pioDinVal_CHANGED : Fld := ⟨.pioDinVal, 16, 16, .w1c, 0x0⟩
def pioDoutCfg_SAFE : Fld := ⟨.pioDoutCfg, 0, 16, .rw, 0x0⟩
def pioDoutVal_STATE : Fld := ⟨.pioDoutVal, 0, 16, .ro, 0x0⟩
def pioDoutVal_OC : Fld := ⟨.pioDoutVal, 16, 16, .w1c, 0x0⟩
def pioLeakCfg_EN : Fld := ⟨.pioLeakCfg, 0, 1, .rw, 0x0⟩
def pioLeakCfg_HALF : Fld := ⟨.pioLeakCfg, 1, 1, .lk, 0x0⟩
def pioLeakCfg_LEN : Fld := ⟨.pioLeakCfg, 4, 12, .lk, 0x0⟩
def pioLeakCfg_WET_KOHM : Fld := ⟨.pioLeakCfg, 16, 8, .rw, 0x64⟩
def pioLeakCfg_CONFIRM : Fld := ⟨.pioLeakCfg, 24, 4, .rw, 0x3⟩
def pioLeakVal_VALUE : Fld := ⟨.pioLeakVal, 0, 32, .ro, 0x0⟩
def pioLeakVal_STATUS : Fld := ⟨.pioLeakVal, 32, 8, .ro, 0x1⟩
def pioLeakVal_AGE : Fld := ⟨.pioLeakVal, 48, 16, .ro, 0xFFFF⟩
def pioThrStat_ASSERTED : Fld := ⟨.pioThrStat, 0, 32, .ro, 0x0⟩
def pioThrStat_LINE_FLT : Fld := ⟨.pioThrStat, 32, 32, .w1c, 0x0⟩
def prtCtrl_REARM : Fld := ⟨.prtCtrl, 0, 8, .wo, 0x0⟩
def prtStat_HOLD : Fld := ⟨.prtStat, 0, 8, .ro, 0x0⟩
def prtStat_LATCHED : Fld := ⟨.prtStat, 8, 8, .ro, 0x0⟩
def prtStat_ANY : Fld := ⟨.prtStat, 16, 1, .ro, 0x0⟩
def prtStat_ACTIVE : Fld := ⟨.prtStat, 32, 32, .ro, 0x0⟩
def prtMcCfg_WARN_C : Fld := ⟨.prtMcCfg, 0, 8, .rw, 0x5F⟩
def prtMcCfg_LOST_C : Fld := ⟨.prtMcCfg, 8, 8, .rw, 0x69⟩
def prtMcCfg_CRIT_C : Fld := ⟨.prtMcCfg, 16, 8, .rw, 0x76⟩
def prtMcCfg_INLET_C : Fld := ⟨.prtMcCfg, 24, 8, .rw, 0x32⟩
def prtMcCfg_AUX_SPD : Fld := ⟨.prtMcCfg, 32, 16, .rw, 0x2710⟩
def prtMcCfg_AUX_IDLE : Fld := ⟨.prtMcCfg, 48, 16, .rw, 0x0⟩
def prtMcStat_STATE : Fld := ⟨.prtMcStat, 0, 3, .ro, 0x0⟩
def prtMcStat_DIE_C : Fld := ⟨.prtMcStat, 8, 8, .ro, 0x0⟩
def prtMcStat_INLET : Fld := ⟨.prtMcStat, 16, 8, .ro, 0x0⟩
def prtMcStat_ENTRIES : Fld := ⟨.prtMcStat, 32, 16, .ro, 0x0⟩
def prtThrChk_OK : Fld := ⟨.prtThrChk, 0, 32, .ro, 0x0⟩
def prtThrChk_FAIL : Fld := ⟨.prtThrChk, 32, 32, .w1c, 0x0⟩
def prtTripCfg_EN : Fld := ⟨.prtTripCfg, 0, 1, .rw, 0x0⟩
def prtTripCfg_KIND : Fld := ⟨.prtTripCfg, 1, 3, .lk, 0x0⟩
def prtTripCfg_IDX : Fld := ⟨.prtTripCfg, 4, 8, .lk, 0x0⟩
def prtTripCfg_MODE : Fld := ⟨.prtTripCfg, 12, 1, .lk, 0x0⟩
def prtTripCfg_FLT_ACT : Fld := ⟨.prtTripCfg, 13, 1, .lk, 0x1⟩
def prtTripCfg_RESP : Fld := ⟨.prtTripCfg, 14, 3, .lk, 0x0⟩
def prtTripCfg_QUAL_MS : Fld := ⟨.prtTripCfg, 32, 16, .lk, 0x0⟩
def prtTripLim_LO : Fld := ⟨.prtTripLim, 0, 32, .lk, 0x80000000⟩
def prtTripLim_HI : Fld := ⟨.prtTripLim, 32, 32, .lk, 0x7FFFFFFF⟩
def prtTripHys_HYS : Fld := ⟨.prtTripHys, 0, 32, .lk, 0x0⟩
def prtTripStat_ACTIVE : Fld := ⟨.prtTripStat, 0, 1, .ro, 0x0⟩
def prtTripStat_COND : Fld := ⟨.prtTripStat, 1, 1, .ro, 0x0⟩
def prtTripStat_SRC_FLT : Fld := ⟨.prtTripStat, 2, 1, .ro, 0x0⟩
def prtTripStat_TRIPS : Fld := ⟨.prtTripStat, 16, 16, .ro, 0x0⟩
def prtTripStat_LAST : Fld := ⟨.prtTripStat, 32, 32, .ro, 0x0⟩
def prtRespCfg_EN : Fld := ⟨.prtRespCfg, 0, 1, .rw, 0x0⟩
def prtRespCfg_LATCH : Fld := ⟨.prtRespCfg, 1, 1, .lk, 0x0⟩
def prtRespCfg_RUNG_EN : Fld := ⟨.prtRespCfg, 2, 1, .lk, 0x0⟩
def prtRespCfg_RUNG : Fld := ⟨.prtRespCfg, 3, 2, .lk, 0x3⟩
def prtRespCfg_PCAP : Fld := ⟨.prtRespCfg, 5, 2, .lk, 0x0⟩
def prtRespCfg_PCAP_PCT : Fld := ⟨.prtRespCfg, 8, 7, .lk, 0x32⟩
def prtRespCfg_HOLD_MS : Fld := ⟨.prtRespCfg, 16, 16, .lk, 0x3E8⟩
def prtRespCfg_SEV : Fld := ⟨.prtRespCfg, 32, 2, .lk, 0x2⟩
def prtRespRacks_THR : Fld := ⟨.prtRespRacks, 0, 32, .lk, 0x0⟩
def prtRespRacks_CAPR : Fld := ⟨.prtRespRacks, 32, 32, .lk, 0x0⟩
def prtRespDrv_PMASK : Fld := ⟨.prtRespDrv, 0, 4, .lk, 0x0⟩
def prtRespDrv_PSPD : Fld := ⟨.prtRespDrv, 4, 16, .lk, 0x0⟩
def prtRespDrv_FMASK : Fld := ⟨.prtRespDrv, 20, 8, .lk, 0x0⟩
def prtRespDrv_FSPD : Fld := ⟨.prtRespDrv, 28, 16, .lk, 0x2710⟩
def prtRespOut_AOMASK : Fld := ⟨.prtRespOut, 0, 16, .lk, 0x0⟩
def prtRespOut_DOMASK : Fld := ⟨.prtRespOut, 16, 16, .lk, 0x0⟩
def prtRespOut_DOVAL : Fld := ⟨.prtRespOut, 32, 16, .lk, 0x0⟩
def prtRespNodes_ALL : Fld := ⟨.prtRespNodes, 0, 1, .lk, 0x0⟩
def prtRespNodes_NODE : Fld := ⟨.prtRespNodes, 1, 31, .lk, 0x0⟩
def humMap_LOG : Fld := ⟨.humMap, 0, 32, .ro, 0xFFFFFFFF⟩
def humMap_FUSE : Fld := ⟨.humMap, 32, 9, .ro, 0x0⟩
def humMap_TEST : Fld := ⟨.humMap, 41, 9, .ro, 0x0⟩
def humMap_SRAM_BAD : Fld := ⟨.humMap, 50, 1, .ro, 0x0⟩
def humCtrl_RST : Fld := ⟨.humCtrl, 0, 1, .wo, 0x0⟩
def humCtrl_PRST : Fld := ⟨.humCtrl, 1, 1, .wo, 0x0⟩
def humCtrl_DRAIN : Fld := ⟨.humCtrl, 2, 1, .wo, 0x0⟩
def humCtrl_TRST : Fld := ⟨.humCtrl, 8, 8, .wo, 0x0⟩
def humStat_IN_RESET : Fld := ⟨.humStat, 0, 1, .ro, 0x0⟩
def humStat_DRAINING : Fld := ⟨.humStat, 1, 1, .ro, 0x0⟩
def humStat_ABSORB_CNT : Fld := ⟨.humStat, 16, 16, .ro, 0x0⟩
def humStat_RESETS : Fld := ⟨.humStat, 32, 16, .ro, 0x0⟩
def tusStat_PHYS : Fld := ⟨.tusStat, 0, 4, .ro, 0xF⟩
def tusStat_IN_SERVICE : Fld := ⟨.tusStat, 4, 1, .ro, 0x0⟩
def tusStat_RETIRED : Fld := ⟨.tusStat, 5, 1, .ro, 0x0⟩
def tusStat_IN_RESET : Fld := ⟨.tusStat, 6, 1, .ro, 0x0⟩
def tusStat_PART : Fld := ⟨.tusStat, 8, 3, .ro, 0x0⟩
def tusStat_ASSIGNED : Fld := ⟨.tusStat, 11, 1, .ro, 0x0⟩
def tusFold_FLAGS : Fld := ⟨.tusFold, 0, 6, .ro, 0x0⟩
def tusRun_MAX_SLIP : Fld := ⟨.tusRun, 0, 32, .ro, 0x0⟩
def tusRun_END_CLK : Fld := ⟨.tusRun, 32, 32, .ro, 0x0⟩
def tusCnt_SRAM_CE : Fld := ⟨.tusCnt, 0, 32, .ro, 0x0⟩
def tusCnt_OVERDUE : Fld := ⟨.tusCnt, 32, 32, .ro, 0x0⟩
def slu_COUNT : Fld := ⟨.slu, 0, 16, .ro, 0x0⟩
def slu_TARGET : Fld := ⟨.slu, 16, 16, .ro, 0x0⟩
def slu_BOUND : Fld := ⟨.slu, 32, 16, .ro, 0x0⟩
def slu_STATUS : Fld := ⟨.slu, 48, 4, .ro, 0x0⟩
def slu_OWNER : Fld := ⟨.slu, 52, 3, .ro, 0x0⟩
def slu_CLAIMED : Fld := ⟨.slu, 55, 1, .ro, 0x0⟩
def slu_SLIP : Fld := ⟨.slu, 56, 8, .ro, 0x0⟩
def stmLo_EN : Fld := ⟨.stmLo, 0, 1, .rw, 0x0⟩
def stmLo_PRIO : Fld := ⟨.stmLo, 1, 2, .rw, 0x3⟩
def stmLo_PORT0 : Fld := ⟨.stmLo, 3, 1, .rw, 0x1⟩
def stmLo_PORT1 : Fld := ⟨.stmLo, 4, 1, .rw, 0x1⟩
def stmLo_SRC : Fld := ⟨.stmLo, 8, 8, .rw, 0xFF⟩
def stmLo_PERIOD : Fld := ⟨.stmLo, 16, 16, .rw, 0x64⟩
def stmLo_T_STALE : Fld := ⟨.stmLo, 32, 16, .rw, 0xC8⟩
def stmHi_SUPERSEDED : Fld := ⟨.stmHi, 0, 16, .ro, 0x0⟩
def stmHi_DROPPED : Fld := ⟨.stmHi, 16, 16, .ro, 0x0⟩
def stmHi_STALE : Fld := ⟨.stmHi, 32, 1, .ro, 0x1⟩
def stmHi_NEVER : Fld := ⟨.stmHi, 33, 1, .ro, 0x1⟩
def stmHi_DECIM : Fld := ⟨.stmHi, 34, 1, .ro, 0x0⟩
def stmHi_DEC_LVL : Fld := ⟨.stmHi, 35, 3, .ro, 0x0⟩
def stmHi_AGE : Fld := ⟨.stmHi, 40, 24, .ro, 0x0⟩

end F

/-- The fields of a register, from bit 0 up; bits no field names are reserved (R13). -/
def Reg.fields : Reg → List Fld
  | .glbId => [F.glbId_MODID, F.glbId_PART, F.glbId_DIE_REV, F.glbId_BOARD_REV]
  | .glbSerial => [F.glbSerial_SERIAL]
  | .glbFw => [F.glbFw_FW_VER]
  | .glbSvn => [F.glbSvn_SVN, F.glbSvn_SVN_MIN]
  | .glbStat => [F.glbStat_PHASE, F.glbStat_FATAL, F.glbStat_FATAL_CAUSE, F.glbStat_ERR_N, F.glbStat_STRAP_CHG, F.glbStat_RST_GLITCH, F.glbStat_BOOT_SLOT, F.glbStat_BOOT_REMOTE, F.glbStat_RESET_CAUSE, F.glbStat_PAIR, F.glbStat_BOOT, F.glbStat_USABLE]
  | .glbCnt => [F.glbCnt_FABRIC_RST, F.glbCnt_RST_GLITCH, F.glbCnt_STRAP_CHG]
  | .frmCfg => [F.frmCfg_PERIOD_K, F.frmCfg_EPOCH_M, F.frmCfg_TIME_SET]
  | .frmStat => [F.frmStat_PERIOD_K, F.frmStat_EPOCH_M, F.frmStat_PENDING, F.frmStat_TIME_VALID, F.frmStat_RUNNING, F.frmStat_TIME_HOLDOVER, F.frmStat_TIME_FAULT, F.frmStat_SLOT]
  | .frmTaiNs => [F.frmTaiNs_TAI_NS]
  | .frmCount => [F.frmCount_COUNT]
  | .frmEpoch => [F.frmEpoch_EPOCH]
  | .frmNextEpoch => [F.frmNextEpoch_NEXT]
  | .plnStageCtrl => [F.plnStageCtrl_CHECK, F.plnStageCtrl_CLEAR]
  | .plnStageStatus => [F.plnStageStatus_STATE, F.plnStageStatus_CODE, F.plnStageStatus_PLAN, F.plnStageStatus_TUSSOCK, F.plnStageStatus_POS, F.plnStageStatus_BANK]
  | .plnArm => [F.plnArm_TARGET, F.plnArm_WITHDRAW]
  | .plnSetId => [F.plnSetId_IN_FORCE]
  | .plnSetStaged => [F.plnSetStaged_STAGED]
  | .plnPlaceReq => [F.plnPlaceReq_PLACE0, F.plnPlaceReq_REQ0, F.plnPlaceReq_PLACE1, F.plnPlaceReq_REQ1, F.plnPlaceReq_PLACE2, F.plnPlaceReq_REQ2, F.plnPlaceReq_PLACE3, F.plnPlaceReq_REQ3, F.plnPlaceReq_PLACE4, F.plnPlaceReq_REQ4, F.plnPlaceReq_PLACE5, F.plnPlaceReq_REQ5, F.plnPlaceReq_PLACE6, F.plnPlaceReq_REQ6, F.plnPlaceReq_PLACE7, F.plnPlaceReq_REQ7]
  | .plnLadderCfg => [F.plnLadderCfg_CEIL, F.plnLadderCfg_DN_M, F.plnLadderCfg_DN_WLOG, F.plnLadderCfg_UP_LOG, F.plnLadderCfg_PROB_LOG, F.plnLadderCfg_UP_INH]
  | .plnLadderStat => [F.plnLadderStat_RUNG, F.plnLadderStat_FORCED, F.plnLadderStat_MISSWIN, F.plnLadderStat_UP_CUR_LOG, F.plnLadderStat_PROBATION, F.plnLadderStat_RETIRE_HOLD, F.plnLadderStat_PLACE_NONE, F.plnLadderStat_LAST_STEP]
  | .plnPromoCtrl => [F.plnPromoCtrl_AUTO_W, F.plnPromoCtrl_AUTO_C, F.plnPromoCtrl_GO_W, F.plnPromoCtrl_GO_C, F.plnPromoCtrl_DEMOTE_W, F.plnPromoCtrl_DEMOTE_C, F.plnPromoCtrl_WITHDRAW_W, F.plnPromoCtrl_WITHDRAW_C]
  | .plnPromoStat => [F.plnPromoStat_STATE, F.plnPromoStat_CODE, F.plnPromoStat_DEFER, F.plnPromoStat_VERSION, F.plnPromoStat_PREV_VALID, F.plnPromoStat_PROBATION]
  | .plnRetireReq => [F.plnRetireReq_REQ]
  | .plnRetired => [F.plnRetired_RETIRED]
  | .plnPart => [F.plnPart_HUMMOCKS, F.plnPart_ROLE, F.plnPart_PRESENT, F.plnPart_PLACE, F.plnPart_SUSPENDED, F.plnPart_HELD, F.plnPart_NO_PLACE]
  | .parCfg => [F.parCfg_MODE, F.parCfg_PARTNER_ID, F.parCfg_DUR_F, F.parCfg_GUARD_F, F.parCfg_CLAIM_INELIG, F.parCfg_AUTO_HANDOVER, F.parCfg_ELIG_F, F.parCfg_EXER_DAYS]
  | .parCtrl => [F.parCtrl_HANDOVER, F.parCtrl_REJOIN, F.parCtrl_DOM_LEAVE]
  | .parStat => [F.parStat_ROLE, F.parStat_ACT, F.parStat_ACT_IN, F.parStat_PEER_PRSNT, F.parStat_P0_UP, F.parStat_LEASE_PAIR_OK, F.parStat_SHADOW_DIVERGE, F.parStat_PATHS_LOST, F.parStat_INELIG_CLAIM, F.parStat_REEPOCH, F.parStat_HANDOVER_PEND, F.parStat_EXER_DUE, F.parStat_CLEAN_F]
  | .parLease => [F.parLease_EPOCH, F.parLease_END]
  | .parCnt => [F.parCnt_DIVERGE_OUT, F.parCnt_SHADOW_MISS, F.parCnt_IMG_LOST, F.parCnt_CRC_ERR]
  | .parTol => [F.parTol_TOL, F.parTol_PERSIST]
  | .parExer => [F.parExer_GO, F.parExer_BUSY, F.parExer_PASS, F.parExer_FAIL, F.parExer_STEP, F.parExer_AGE_H]
  | .parDomCfg => [F.parDomCfg_EN, F.parDomCfg_POS, F.parDomCfg_REC_LEN]
  | .parDomStat => [F.parDomStat_STATE, F.parDomStat_REFERENCE, F.parDomStat_ALIGN_ERR, F.parDomStat_REFUSE, F.parDomStat_MEMBERS, F.parDomStat_ALIGN_CNT, F.parDomStat_OFFSET]
  | .parDomMemb => [F.parDomMemb_PRESENT, F.parDomMemb_LOST, F.parDomMemb_MODULE, F.parDomMemb_PARTNER]
  | .jrnCfg => [F.jrnCfg_MLDSA_CKPT]
  | .jrnStat => [F.jrnStat_JOURNAL_FULL, F.jrnStat_COALESCE, F.jrnStat_HOLD, F.jrnStat_SAFE_COALESCE, F.jrnStat_SAFE_HOLD, F.jrnStat_OWNED, F.jrnStat_RESET_WAIT]
  | .jrnHead => [F.jrnHead_SEQ]
  | .jrnOldest => [F.jrnOldest_SEQ]
  | .jrnFill => [F.jrnFill_MAIN, F.jrnFill_SAFE]
  | .jrnCnt => [F.jrnCnt_FULL_REFUSED, F.jrnCnt_COALESCED]
  | .jrnChain => [F.jrnChain_CHAIN_ID]
  | .jrnGrant => [F.jrnGrant_PCIE]
  | .jrnKeyId => [F.jrnKeyId_KEY_ID, F.jrnKeyId_PRIV, F.jrnKeyId_REQ_MLDSA, F.jrnKeyId_VALID]
  | .jrnKeyCtr => [F.jrnKeyCtr_CTR]
  | .obsCfg => [F.obsCfg_TRACE_EN, F.obsCfg_TYPES, F.obsCfg_WAIT_PART, F.obsCfg_SLIP_MIN, F.obsCfg_TRACE_MAX]
  | .obsTrace => [F.obsTrace_CAPPED, F.obsTrace_GENERATED]
  | .obsMem => [F.obsMem_SRAM_CE, F.obsMem_HBM_RR]
  | .obsUe => [F.obsUe_ADDR, F.obsUe_KIND, F.obsUe_COUNT]
  | .obsSlu => [F.obsSlu_STRAY, F.obsSlu_TRUNC]
  | .obsEmit => [F.obsEmit_DEST_OFF, F.obsEmit_SUPPRESSED]
  | .obsRpl => [F.obsRpl_START, F.obsRpl_END, F.obsRpl_SKIP, F.obsRpl_ABORT]
  | .obsPart0 => [F.obsPart0_MISS, F.obsPart0_OVERDUE]
  | .obsPart1 => [F.obsPart1_RUNG_AB, F.obsPart1_RESET_AB]
  | .obsPart2 => [F.obsPart2_SKIP, F.obsPart2_HELD]
  | .obsPart3 => [F.obsPart3_ANNOT_REF, F.obsPart3_RUNS]
  | .obsIng0 => [F.obsIng0_OTHER, F.obsIng0_MALFORMED]
  | .obsIng1 => [F.obsIng1_RESERVED, F.obsIng1_DISABLED]
  | .obsIng2 => [F.obsIng2_SOURCE, F.obsIng2_FUTURE]
  | .obsIng3 => [F.obsIng3_DECIM, F.obsIng3_OLDER]
  | .obsIng4 => [F.obsIng4_OVERRUN, F.obsIng4_ACCEPTED]
  | .obsLmiss => [F.obsLmiss_MISS_SMP]
  | .obsRepl => [F.obsRepl_REPL, F.obsRepl_SAT]
  | .telPortCfg => [F.telPortCfg_EN, F.telPortCfg_VLAN_EN, F.telPortCfg_VID, F.telPortCfg_PCP, F.telPortCfg_MTU]
  | .telPortHi => [F.telPortHi_ADDR_HI]
  | .telPortLo => [F.telPortLo_ADDR_LO]
  | .telPortMac => [F.telPortMac_MAC]
  | .telPortStat => [F.telPortStat_LINK, F.telPortStat_DAD_FAIL]
  | .telPtpCfg => [F.telPtpCfg_PORT0, F.telPtpCfg_PORT1, F.telPtpCfg_DOMAIN]
  | .telPtpStat => [F.telPtpStat_STATE, F.telPtpStat_SLAVE_PORT, F.telPtpStat_OFFSET]
  | .telPtpGm => [F.telPtpGm_GM_ID]
  | .telIngCfg => [F.telIngCfg_UDP_PORT, F.telIngCfg_CAP_SRC_PORT]
  | .telDecStat => [F.telDecStat_LVL1, F.telDecStat_LVL2, F.telDecStat_LVL3, F.telDecStat_CHANGES]
  | .telSrcHi => [F.telSrcHi_ADDR_HI]
  | .telSrcLo => [F.telSrcLo_ADDR_LO]
  | .telDestCfg => [F.telDestCfg_EN, F.telDestCfg_ETH0, F.telDestCfg_ETH1, F.telDestCfg_FAILOVER, F.telDestCfg_UDP_PORT]
  | .telDestHi => [F.telDestHi_ADDR_HI]
  | .telDestLo => [F.telDestLo_ADDR_LO]
  | .telDestSeq => [F.telDestSeq_SEQ]
  | .capCfg => [F.capCfg_LEASE_F]
  | .capStat => [F.capStat_INFEAS_ROW, F.capStat_INFEAS_RACK, F.capStat_INFEAS_PKG, F.capStat_CFG_ERR, F.capStat_RAMPING, F.capStat_PROT, F.capStat_CUT_FRAMES, F.capStat_ROW_SUM]
  | .capRowBudget => [F.capRowBudget_BUDGET]
  | .capRack => [F.capRack_HOST_LIMIT, F.capRack_RM_LIMIT]
  | .capPkgLim => [F.capPkgLim_CAP_MAX, F.capPkgLim_CAP_MIN, F.capPkgLim_HOST_CEIL]
  | .capPkgRamp => [F.capPkgRamp_RAMP_DN, F.capPkgRamp_RAMP_UP]
  | .capPkgOut => [F.capPkgOut_RELEASED, F.capPkgOut_TARGET]
  | .capPkgSrc => [F.capPkgSrc_SRC, F.capPkgSrc_RAMPING, F.capPkgSrc_INFEAS, F.capPkgSrc_PROT]
  | .hstCfg => [F.hstCfg_REFUSE_EV]
  | .hstStat => [F.hstStat_HOST_SILENT, F.hstStat_LINK, F.hstStat_WIDTH, F.hstStat_SPEED, F.hstStat_FLIT, F.hstStat_BAD_WR, F.hstStat_COLLIDE_CNT]
  | .hstHbCfg => [F.hstHbCfg_EN, F.hstHbCfg_TIMEOUT_F]
  | .hstHb => [F.hstHb_LAST, F.hstHb_SILENT_CNT]
  | .hstRingBase => [F.hstRingBase_ADDR]
  | .hstRingCfg => [F.hstRingCfg_EN, F.hstRingCfg_LOG2, F.hstRingCfg_THRESH]
  | .hstRingProd => [F.hstRingProd_PROD]
  | .hstRingCons => [F.hstRingCons_CONS]
  | .hstRingWb => [F.hstRingWb_ADDR]
  | .hstRingCnt => [F.hstRingCnt_LOST, F.hstRingCnt_DMA_ERR]
  | .hstMsixAddr => [F.hstMsixAddr_ADDR]
  | .hstMsixData => [F.hstMsixData_DATA, F.hstMsixData_MASK]
  | .hstMsixPba => [F.hstMsixPba_PENDING]
  | .hstVecMod => [F.hstVecMod_MIN_US]
  | .lpeChCfg => [F.lpeChCfg_CLASS, F.lpeChCfg_MODE, F.lpeChCfg_DIV, F.lpeChCfg_FAULT_ACT, F.lpeChCfg_AUTO_REC, F.lpeChCfg_FB_KIND, F.lpeChCfg_FB_IDX, F.lpeChCfg_ACT_KIND, F.lpeChCfg_ACT_IDX, F.lpeChCfg_SCHED_KIND, F.lpeChCfg_SCHED_IDX, F.lpeChCfg_MISS_MAX]
  | .lpeChTlim => [F.lpeChTlim_TMIN, F.lpeChTlim_TMAX]
  | .lpeChUlim => [F.lpeChUlim_UMIN, F.lpeChUlim_UMAX]
  | .lpeChKpi => [F.lpeChKpi_KP, F.lpeChKpi_KI]
  | .lpeChKd => [F.lpeChKd_KD, F.lpeChKd_AD]
  | .lpeChGtb => [F.lpeChGtb_TBL]
  | .lpeChSup => [F.lpeChSup_FE_LIM, F.lpeChSup_FE_TIME, F.lpeChSup_BAND_TIME, F.lpeChSup_FB_AGE]
  | .lpeChStat => [F.lpeChStat_FOLLOW_ERR, F.lpeChStat_IMPLAUS, F.lpeChStat_FB_LOST, F.lpeChStat_MISS_SMP, F.lpeChStat_SAT, F.lpeChStat_OUT_LIM, F.lpeChStat_TBL_ERR, F.lpeChStat_BAND_BAD, F.lpeChStat_FAULTED, F.lpeChStat_ON_SAFE, F.lpeChStat_SETTLED, F.lpeChStat_RIPPLE, F.lpeChStat_PROT, F.lpeChStat_STATE, F.lpeChStat_SAMPLES]
  | .lpeChxProf1 => [F.lpeChxProf1_V_MAX, F.lpeChxProf1_A_MAX]
  | .lpeChxProf2 => [F.lpeChxProf2_J_MAX, F.lpeChxProf2_DU_MAX]
  | .lpeChxFb => [F.lpeChxFb_FB_GAIN, F.lpeChxFb_FB_OFF]
  | .lpeChxOut => [F.lpeChxOut_U_BIAS, F.lpeChxOut_U_SAFE]
  | .lpeCtrl => [F.lpeCtrl_SIL_F, F.lpeCtrl_FORCE_SAFE, F.lpeCtrl_SAVE]
  | .lpeStat => [F.lpeStat_SILENT, F.lpeStat_ANY_SAFE, F.lpeStat_SAVE_BUSY, F.lpeStat_RESTORED, F.lpeStat_SIL_CNT]
  | .lpeRplCtrl => [F.lpeRplCtrl_EN, F.lpeRplCtrl_RUNG_MAX, F.lpeRplCtrl_AMP_PERMIL]
  | .lpeRplCfg => [F.lpeRplCfg_CH, F.lpeRplCfg_ARM, F.lpeRplCfg_GROUP, F.lpeRplCfg_START, F.lpeRplCfg_DUR, F.lpeRplCfg_SHAPE, F.lpeRplCfg_BITLEN]
  | .lpeRplAmp => [F.lpeRplAmp_AMP, F.lpeRplAmp_SETTLE]
  | .lpeChs => [F.lpeChs_WORD]
  | .lpeGtbl => [F.lpeGtbl_E, F.lpeGtbl_G]
  | .lpeStbl => [F.lpeStbl_X, F.lpeStbl_T]
  | .drvPmpCfg => [F.drvPmpCfg_EN, F.drvPmpCfg_AUTO_RST, F.drvPmpCfg_F_SW, F.drvPmpCfg_DEADT, F.drvPmpCfg_POLES, F.drvPmpCfg_ACC_MAX]
  | .drvPmpMotor => [F.drvPmpMotor_N_RATED, F.drvPmpMotor_I_MAX, F.drvPmpMotor_I_FS, F.drvPmpMotor_RS]
  | .drvPmpMotor2 => [F.drvPmpMotor2_LD, F.drvPmpMotor2_LQ, F.drvPmpMotor2_PSI]
  | .drvPmpSpi => [F.drvPmpSpi_KSP, F.drvPmpSpi_KSI]
  | .drvPmpBand => [F.drvPmpBand_LO0, F.drvPmpBand_HI0, F.drvPmpBand_LO1, F.drvPmpBand_HI1]
  | .drvPmpStat => [F.drvPmpStat_OC, F.drvPmpStat_GATE_FLT, F.drvPmpStat_ISENSE, F.drvPmpStat_LOCK_LOST, F.drvPmpStat_START_FAIL, F.drvPmpStat_RUN, F.drvPmpStat_IN_BAND, F.drvPmpStat_PROT, F.drvPmpStat_OFF_ACT, F.drvPmpStat_FLT_OFF]
  | .drvPmpMeas => [F.drvPmpMeas_CMD, F.drvPmpMeas_SPEED, F.drvPmpMeas_I_RMS, F.drvPmpMeas_VBUS]
  | .drvFanCfg => [F.drvFanCfg_EN, F.drvFanCfg_TACH_PPR, F.drvFanCfg_TACH_EN, F.drvFanCfg_POLES, F.drvFanCfg_ZONES, F.drvFanCfg_ACC_MAX]
  | .drvFanLim => [F.drvFanLim_N_RATED, F.drvFanLim_I_MAX, F.drvFanLim_SPD_MIN]
  | .drvFanBand => [F.drvFanBand_LO0, F.drvFanBand_HI0, F.drvFanBand_LO1, F.drvFanBand_HI1]
  | .drvFanTach => [F.drvFanTach_TACH_TOL, F.drvFanTach_TACH_TIME]
  | .drvFanStat => [F.drvFanStat_STALL, F.drvFanStat_STALL_ALM, F.drvFanStat_TACH_LOST, F.drvFanStat_OC, F.drvFanStat_RUN, F.drvFanStat_SENSORLESS, F.drvFanStat_RETRY_WAIT, F.drvFanStat_IN_BAND, F.drvFanStat_PROT, F.drvFanStat_AUX, F.drvFanStat_OFF_ACT, F.drvFanStat_FAILS, F.drvFanStat_RETRY_S]
  | .drvFanMeas => [F.drvFanMeas_CMD, F.drvFanMeas_SPEED, F.drvFanMeas_TACH_SPD, F.drvFanMeas_I_RMS]
  | .drvZone => [F.drvZone_SAFE, F.drvZone_PLAN, F.drvZone_DEMAND, F.drvZone_PLAN_SAFE]
  | .drvCtrl => [F.drvCtrl_AUX7]
  | .fbCfg => [F.fbCfg_EN, F.fbCfg_TERM, F.fbCfg_LISTEN, F.fbCfg_PXE, F.fbCfg_BOFF_HOLD]
  | .fbBt => [F.fbBt_NBRP, F.fbBt_NTSEG1, F.fbBt_NTSEG2, F.fbBt_NSJW, F.fbBt_DBRP, F.fbBt_DTSEG1, F.fbBt_DTSEG2, F.fbBt_DSJW, F.fbBt_TDCO, F.fbBt_TDC_EN]
  | .fbErr => [F.fbErr_TEC, F.fbErr_REC, F.fbErr_STATE, F.fbErr_WARN, F.fbErr_LEC, F.fbErr_RECOVERING, F.fbErr_FENCED_DEV, F.fbErr_BOFF_CNT]
  | .fbFifo => [F.fbFifo_LEVEL, F.fbFifo_OVF, F.fbFifo_DROPPED]
  | .fbCnt => [F.fbCnt_CANCEL_LATE, F.fbCnt_SUPERSEDED, F.fbCnt_UNMATCHED, F.fbCnt_RTR_DROP]
  | .fbBeat => [F.fbBeat_EN, F.fbBeat_BEAT_MS]
  | .fbFltId => [F.fbFltId_MATCH, F.fbFltId_IDE, F.fbFltId_IDE_CHK, F.fbFltId_ACT, F.fbFltId_OBJ]
  | .fbFltMask => [F.fbFltMask_MASK]
  | .fbPvalBind => [F.fbPvalBind_EN, F.fbPvalBind_BUS, F.fbPvalBind_NODE, F.fbPvalBind_KIND, F.fbPvalBind_SLOT, F.fbPvalBind_AGE_MS]
  | .fbPvalVal => [F.fbPvalVal_VALUE, F.fbPvalVal_STATUS, F.fbPvalVal_FAULTED, F.fbPvalVal_AGE]
  | .fbMoCfg => [F.fbMoCfg_DIR, F.fbMoCfg_IDE, F.fbMoCfg_FDF, F.fbMoCfg_BRS, F.fbMoCfg_ID]
  | .fbMoStat => [F.fbMoStat_TXS, F.fbMoStat_CANCEL_LATE, F.fbMoStat_SUPERSEDED, F.fbMoStat_NEW, F.fbMoStat_OVERWRITE, F.fbMoStat_DLC, F.fbMoStat_EPOCH]
  | .fbMoTs => [F.fbMoTs_TS]
  | .fbMoData => [F.fbMoData_DATA]
  | .pioTinCfg => [F.pioTinCfg_EN, F.pioTinCfg_TYPE, F.pioTinCfg_NTC_NOM, F.pioTinCfg_NTC_BETA]
  | .pioTinVal => [F.pioTinVal_VALUE, F.pioTinVal_STATUS, F.pioTinVal_AGE]
  | .pioAinCfg => [F.pioAinCfg_EN, F.pioAinCfg_NE43]
  | .pioAinVal => [F.pioAinVal_VALUE, F.pioAinVal_STATUS, F.pioAinVal_AGE]
  | .pioAoutCfg => [F.pioAoutCfg_MODE, F.pioAoutCfg_SAFE]
  | .pioAoutVal => [F.pioAoutVal_VALUE, F.pioAoutVal_OPEN, F.pioAoutVal_SHORT, F.pioAoutVal_SAFE_IN, F.pioAoutVal_HIZ, F.pioAoutVal_CHAN]
  | .pioDinCfg => [F.pioDinCfg_DEB_MS]
  | .pioDinVal => [F.pioDinVal_STATE, F.pioDinVal_CHANGED]
  | .pioDoutCfg => [F.pioDoutCfg_SAFE]
  | .pioDoutVal => [F.pioDoutVal_STATE, F.pioDoutVal_OC]
  | .pioLeakCfg => [F.pioLeakCfg_EN, F.pioLeakCfg_HALF, F.pioLeakCfg_LEN, F.pioLeakCfg_WET_KOHM, F.pioLeakCfg_CONFIRM]
  | .pioLeakVal => [F.pioLeakVal_VALUE, F.pioLeakVal_STATUS, F.pioLeakVal_AGE]
  | .pioThrStat => [F.pioThrStat_ASSERTED, F.pioThrStat_LINE_FLT]
  | .prtCtrl => [F.prtCtrl_REARM]
  | .prtStat => [F.prtStat_HOLD, F.prtStat_LATCHED, F.prtStat_ANY, F.prtStat_ACTIVE]
  | .prtMcCfg => [F.prtMcCfg_WARN_C, F.prtMcCfg_LOST_C, F.prtMcCfg_CRIT_C, F.prtMcCfg_INLET_C, F.prtMcCfg_AUX_SPD, F.prtMcCfg_AUX_IDLE]
  | .prtMcStat => [F.prtMcStat_STATE, F.prtMcStat_DIE_C, F.prtMcStat_INLET, F.prtMcStat_ENTRIES]
  | .prtThrChk => [F.prtThrChk_OK, F.prtThrChk_FAIL]
  | .prtTripCfg => [F.prtTripCfg_EN, F.prtTripCfg_KIND, F.prtTripCfg_IDX, F.prtTripCfg_MODE, F.prtTripCfg_FLT_ACT, F.prtTripCfg_RESP, F.prtTripCfg_QUAL_MS]
  | .prtTripLim => [F.prtTripLim_LO, F.prtTripLim_HI]
  | .prtTripHys => [F.prtTripHys_HYS]
  | .prtTripStat => [F.prtTripStat_ACTIVE, F.prtTripStat_COND, F.prtTripStat_SRC_FLT, F.prtTripStat_TRIPS, F.prtTripStat_LAST]
  | .prtRespCfg => [F.prtRespCfg_EN, F.prtRespCfg_LATCH, F.prtRespCfg_RUNG_EN, F.prtRespCfg_RUNG, F.prtRespCfg_PCAP, F.prtRespCfg_PCAP_PCT, F.prtRespCfg_HOLD_MS, F.prtRespCfg_SEV]
  | .prtRespRacks => [F.prtRespRacks_THR, F.prtRespRacks_CAPR]
  | .prtRespDrv => [F.prtRespDrv_PMASK, F.prtRespDrv_PSPD, F.prtRespDrv_FMASK, F.prtRespDrv_FSPD]
  | .prtRespOut => [F.prtRespOut_AOMASK, F.prtRespOut_DOMASK, F.prtRespOut_DOVAL]
  | .prtRespNodes => [F.prtRespNodes_ALL, F.prtRespNodes_NODE]
  | .humMap => [F.humMap_LOG, F.humMap_FUSE, F.humMap_TEST, F.humMap_SRAM_BAD]
  | .humCtrl => [F.humCtrl_RST, F.humCtrl_PRST, F.humCtrl_DRAIN, F.humCtrl_TRST]
  | .humStat => [F.humStat_IN_RESET, F.humStat_DRAINING, F.humStat_ABSORB_CNT, F.humStat_RESETS]
  | .tusStat => [F.tusStat_PHYS, F.tusStat_IN_SERVICE, F.tusStat_RETIRED, F.tusStat_IN_RESET, F.tusStat_PART, F.tusStat_ASSIGNED]
  | .tusFold => [F.tusFold_FLAGS]
  | .tusRun => [F.tusRun_MAX_SLIP, F.tusRun_END_CLK]
  | .tusCnt => [F.tusCnt_SRAM_CE, F.tusCnt_OVERDUE]
  | .slu => [F.slu_COUNT, F.slu_TARGET, F.slu_BOUND, F.slu_STATUS, F.slu_OWNER, F.slu_CLAIMED, F.slu_SLIP]
  | .stmLo => [F.stmLo_EN, F.stmLo_PRIO, F.stmLo_PORT0, F.stmLo_PORT1, F.stmLo_SRC, F.stmLo_PERIOD, F.stmLo_T_STALE]
  | .stmHi => [F.stmHi_SUPERSEDED, F.stmHi_DROPPED, F.stmHi_STALE, F.stmHi_NEVER, F.stmHi_DECIM, F.stmHi_DEC_LVL, F.stmHi_AGE]

/-- Every register, in the order of Table 20.1, written in pieces. -/
def Reg.all : List Reg :=
  [Reg.glbId, Reg.glbSerial, Reg.glbFw, Reg.glbSvn, Reg.glbStat, Reg.glbCnt, Reg.frmCfg, Reg.frmStat, Reg.frmTaiNs, Reg.frmCount, Reg.frmEpoch, Reg.frmNextEpoch, Reg.plnStageCtrl, Reg.plnStageStatus, Reg.plnArm, Reg.plnSetId] ++
  [Reg.plnSetStaged, Reg.plnPlaceReq, Reg.plnLadderCfg, Reg.plnLadderStat, Reg.plnPromoCtrl, Reg.plnPromoStat, Reg.plnRetireReq, Reg.plnRetired, Reg.plnPart, Reg.parCfg, Reg.parCtrl, Reg.parStat, Reg.parLease, Reg.parCnt, Reg.parTol, Reg.parExer] ++
  [Reg.parDomCfg, Reg.parDomStat, Reg.parDomMemb, Reg.jrnCfg, Reg.jrnStat, Reg.jrnHead, Reg.jrnOldest, Reg.jrnFill, Reg.jrnCnt, Reg.jrnChain, Reg.jrnGrant, Reg.jrnKeyId, Reg.jrnKeyCtr, Reg.obsCfg, Reg.obsTrace, Reg.obsMem] ++
  [Reg.obsUe, Reg.obsSlu, Reg.obsEmit, Reg.obsRpl, Reg.obsPart0, Reg.obsPart1, Reg.obsPart2, Reg.obsPart3, Reg.obsIng0, Reg.obsIng1, Reg.obsIng2, Reg.obsIng3, Reg.obsIng4, Reg.obsLmiss, Reg.obsRepl, Reg.telPortCfg] ++
  [Reg.telPortHi, Reg.telPortLo, Reg.telPortMac, Reg.telPortStat, Reg.telPtpCfg, Reg.telPtpStat, Reg.telPtpGm, Reg.telIngCfg, Reg.telDecStat, Reg.telSrcHi, Reg.telSrcLo, Reg.telDestCfg, Reg.telDestHi, Reg.telDestLo, Reg.telDestSeq, Reg.capCfg] ++
  [Reg.capStat, Reg.capRowBudget, Reg.capRack, Reg.capPkgLim, Reg.capPkgRamp, Reg.capPkgOut, Reg.capPkgSrc, Reg.hstCfg, Reg.hstStat, Reg.hstHbCfg, Reg.hstHb, Reg.hstRingBase, Reg.hstRingCfg, Reg.hstRingProd, Reg.hstRingCons, Reg.hstRingWb] ++
  [Reg.hstRingCnt, Reg.hstMsixAddr, Reg.hstMsixData, Reg.hstMsixPba, Reg.hstVecMod, Reg.lpeChCfg, Reg.lpeChTlim, Reg.lpeChUlim, Reg.lpeChKpi, Reg.lpeChKd, Reg.lpeChGtb, Reg.lpeChSup, Reg.lpeChStat, Reg.lpeChxProf1, Reg.lpeChxProf2, Reg.lpeChxFb] ++
  [Reg.lpeChxOut, Reg.lpeCtrl, Reg.lpeStat, Reg.lpeRplCtrl, Reg.lpeRplCfg, Reg.lpeRplAmp, Reg.lpeChs, Reg.lpeGtbl, Reg.lpeStbl, Reg.drvPmpCfg, Reg.drvPmpMotor, Reg.drvPmpMotor2, Reg.drvPmpSpi, Reg.drvPmpBand, Reg.drvPmpStat, Reg.drvPmpMeas] ++
  [Reg.drvFanCfg, Reg.drvFanLim, Reg.drvFanBand, Reg.drvFanTach, Reg.drvFanStat, Reg.drvFanMeas, Reg.drvZone, Reg.drvCtrl, Reg.fbCfg, Reg.fbBt, Reg.fbErr, Reg.fbFifo, Reg.fbCnt, Reg.fbBeat, Reg.fbFltId, Reg.fbFltMask] ++
  [Reg.fbPvalBind, Reg.fbPvalVal, Reg.fbMoCfg, Reg.fbMoStat, Reg.fbMoTs, Reg.fbMoData, Reg.pioTinCfg, Reg.pioTinVal, Reg.pioAinCfg, Reg.pioAinVal, Reg.pioAoutCfg, Reg.pioAoutVal, Reg.pioDinCfg, Reg.pioDinVal, Reg.pioDoutCfg, Reg.pioDoutVal] ++
  [Reg.pioLeakCfg, Reg.pioLeakVal, Reg.pioThrStat, Reg.prtCtrl, Reg.prtStat, Reg.prtMcCfg, Reg.prtMcStat, Reg.prtThrChk, Reg.prtTripCfg, Reg.prtTripLim, Reg.prtTripHys, Reg.prtTripStat, Reg.prtRespCfg, Reg.prtRespRacks, Reg.prtRespDrv, Reg.prtRespOut] ++
  [Reg.prtRespNodes, Reg.humMap, Reg.humCtrl, Reg.humStat, Reg.tusStat, Reg.tusFold, Reg.tusRun, Reg.tusCnt, Reg.slu, Reg.stmLo, Reg.stmHi]

end Sys2Proof.Machine
end

