-- ==== Sys2Proof/Machine/State.lean ====
section
/-!
DEFINITION. The state of the module, as plain data. Every register of BAR0 lives in `regs`, keyed by its offset: an unlisted
register holds its reset value (spec/20_registers.md, R11). The other structures hold what the spec gives the module beside
its registers, one structure per unit.
-/
namespace Sys2Proof.Machine

/-- How a command stops. -/
inductive Fault where
  /-- An operation of a track passes a limit that the plan checker holds every track to: an address outside its space
  (R121, Table 4.13), a misaligned or granule-crossing block transfer, a fifth transfer in flight (R119). Raised by the M
  and X slots. Safe: no track in force does it. -/
  | planLimit
deriving DecidableEq, Repr

/-- Why a command has no meaning. -/
inductive Refusal where
  /-- A command without a meaning yet. Safe: nothing is claimed of it. -/
  | notModelled (mnemonic : String)
  /-- An encoding or operand that the plan checker rejects (R98, R107, R115, R121, R128, R130), so that no track in force
  holds it. Raised by the tensor, vector, move, scalar and exchange meanings. Safe. -/
  | checkerRejects
deriving DecidableEq, Repr

/-- What the last command sent outside the module. -/
inductive Output where
  /-- A cap frame on an Ethernet port: port, destination, sequence number and its records (R313). -/
  | capFrame (port dest seq : Nat) (bytes : List Byte)
  /-- Any other Ethernet reply (echo reply, neighbour discovery, delay request). -/
  | ethReply (port : Nat) (bytes : List Byte)
  /-- A ring entry written to host memory (R327). -/
  | ringWrite (ring index : Nat) (bytes : List Byte)
  /-- A write of a ring's producer index to its write-back address (R327). -/
  | writeBack (ring prod : Nat)
  /-- An MSI-X message (R335). -/
  | msix (vector : Nat)
  /-- A lease pair word (R346). -/
  | leasePair (w : BitVec 80)
  /-- A renewal or standby record on P0 (R346). -/
  | p0Record (r : P0Record)
  /-- A lease validity word on the companion link (R17, R346). -/
  | leaseWord (endX : Nat) (epoch : Nat)
  /-- A state image on P0 (R355). -/
  | p0Image (img : StateImage)
  /-- The snapshot stream of a frame on P0 (R355): its units by class and number. -/
  | p0Snapshot (frame : Nat) (units : List (Nat × Nat))
  /-- Other P0 traffic: a forwarded plan set, candidate, firmware chunk or transfer, by kind and identity. -/
  | p0Forward (kind : Nat) (id : Nat) (bytes : List Byte)
  /-- A request over P0 (configuration transfer, handover request), by kind. -/
  | p0Request (kind : Nat)
  /-- A CAN frame whose start of frame goes on a bus. -/
  | canStart (bus : Nat) (fr : CanFrame)
  /-- A boundary record that the domain relay sends on a port (R149, R364). -/
  | boundary (port : Nat) (bytes : List Byte)
  /-- A message to the domain (R363). -/
  | domain (m : DomainMsg)
  /-- An answer on the management bus: completion code and data (R340, R341, R387). -/
  | mgmt (code : Nat) (data : List Byte)
  /-- Bytes written to a command's host buffer, from an offset in it (R330, R431). -/
  | bufferWrite (tag offset : Nat) (bytes : List Byte)
  /-- A PCIe completion with Unsupported Request (R324). -/
  | unsupportedRequest
  /-- A track operation's trace record leaving for ring 2 is a ring write; this is a drive's switching pattern (duties). -/
  | duty (drive : Nat) (d : List Int)
deriving DecidableEq, Repr

/-- A result in flight in a tussock (R101), applied when it lands. Masks name the bits that are written; `mma` marks a row that a TMMA
made, which the next of its chain takes before it lands (R112). -/
inductive Land where
  | v (r : Nat) (val mask : Nat)
  | s (r : Nat) (val mask : Nat)
  | p (r : Nat) (val mask : Nat)
  | a (r : Nat) (val mask : Nat)
  | aAdd (r : Nat) (d : Int)
  | aStr (r : Nat) (val : Nat)
  | tile (row : Nat) (val mask : Nat) (mma : Bool)
  | local_ (addr : Nat) (data : List Byte) (mask : Nat)
deriving DecidableEq, Repr

/-- An open counted loop (R127): level, position of its SLOOP, body length, AMASK and passes left after the one running. -/
structure LoopFrame where
  lvl : Nat
  p : Nat
  len : Nat
  amask : Nat
  left : Nat
deriving DecidableEq, Repr

/-- A wait in progress (R138): sluice, planned release P, the clock after the XWAIT's issue, and the bound B. -/
structure Wait where
  slu : Nat
  planned : Nat
  next : Nat
  bound : Nat
deriving DecidableEq, Repr

/-- A block transfer in flight (R119): destination kind 0 local SRAM, 1 hummock SRAM, 2 HBM; the hummock in which it completes; address,
data, sluice signalled and mask bit; the clock at which it completes at the earliest, and whether HBM may delay it beyond that (R82). -/
structure Xfer where
  kind : Nat
  hummock : Nat
  addr : Nat
  data : List Byte
  slu : Nat
  write : Bool
  run : Nat
  due : Nat
  hbm : Bool
deriving DecidableEq, Repr

/-- A message to a sluice's home (R132, R136, R137): a signal, an absorbed signal, or an arming with TARGET and BOUND. -/
inductive MsgKind where
  | signal
  | absorbed
  | arm (target bound : Nat)
deriving DecidableEq, Repr

/-- A message on its way to a sluice's home, and the clock of its arrival there. -/
structure Msg where
  at_ : Nat
  slu : Nat
  kind : MsgKind
deriving DecidableEq, Repr

/-- What a tussock sends towards the staging of its run (R132, R144 to R147): a lane for an output by its key, as FP32 or Q16; a CAN transmit by
its key, with DLC and data; an annotation. -/
inductive Staged where
  | emit (key : Nat) (q16 : Bool) (bits : Nat)
  | can (key dlc : Nat) (data : List Byte)
  | annot (reason : Nat) (data : Unit64)
deriving DecidableEq, Repr

/-- What is on its way to staging: the clock at which it enters, tussock, frame in which its run started. -/
structure Sending where
  at_ : Nat
  tus : Fin 256
  run : Nat
  what : Staged
deriving DecidableEq, Repr

/-- A posted receive buffer (R149): sluice, local address, length in bytes, mask bit. -/
structure RecvBuf where
  tus : Nat
  slu : Nat
  port : Nat
  addr : Nat
  len : Nat
  write : Bool
deriving DecidableEq, Repr

/-- A logical tussock (R66, R95, R105): register files, flag register and the flags raised since the last fold, local SRAM,
track and constant stores (bank in force and other bank), loop counts and open loops, position of the last issue, slip and
wait, transfers and results in flight, counts of overdue waits and corrected errors, and whether a compute reset covers it. It issues
nothing until a frame section of a partition starts on it (R24). -/
structure Tus where
  v : Tbl Nat := []
  s : Tbl Nat := []
  p : Tbl Nat := []
  a : Tbl Nat := []
  str : Tbl Nat := []
  tile : Tbl Nat := []
  flags : Nat := 0
  fold : Nat := 0
  sram : Mem := []
  track : List TrackImage := []
  trackAlt : List TrackImage := []
  cst : Mem := []
  cstAlt : Mem := []
  counts : Tbl Nat := []
  loops : List LoopFrame := []
  lastPos : Nat := 0
  lastClk : Nat := 0
  lastRep : Nat := 0
  started : Bool := false
  slip : Nat := 0
  maxSlip : Nat := 0
  wait : Option Wait := none
  stopped : Bool := true
  ended : Bool := false
  endClk : Nat := 0xFFFFFFFF
  fly : List (Nat × Land) := []
  ffly : List (Nat × Nat × Nat) := []
  xfers : List Xfer := []
  overdue : Nat := 0
  corrected : Nat := 0
  inReset : Bool := false
deriving DecidableEq, Repr

/-- A staged annotation (R147): tussock, reason and the 64-byte word. -/
structure Annot where
  tus : Nat
  reason : Nat
  data : Unit64
deriving DecidableEq, Repr

/-- A run in flight (R48): its partition and plan, frame it started in, rung and placement, whether it belongs to the
outgoing set (R161), its writes to banked windows (logical HBM addresses), the banks its promotion regions
map to (logical base, length, physical base; R220) and those its candidate writes and ring windows map to (R213, R216), and its
staging (R145 to R147): emits keyed 1024·OCLS + index, CAN transmits (DLC and data) keyed 256·bus + object,
annotations. -/
structure Run where
  part : Nat
  plan : Plan
  start : Nat
  rung : Nat
  place : Nat
  old : Bool
  writes : Tbl Byte
  banks : List (Nat × Nat × Nat)
  wbanks : List (Nat × Nat × Nat)
  emits : Tbl Nat
  can : Tbl (Nat × List Byte)
  annots : List Annot
deriving DecidableEq, Repr

/-- The fabric beside its registers: tussocks, hummock SRAMs and their writes in flight (clock, hummock, address, data),
posted receive buffers, messages to sluices and what goes to staging in flight, by sluice the clock of the count that released it,
the TAI time of t_n, the length of the frame that closed there, and the companion's part of the snapshot on its way (on a standby the
module's own snapshot whole). -/
structure Fab where
  tus : Tbl Tus := []
  hum : Tbl Mem := []
  hfly : List (Nat × Nat × Nat × List Byte) := []
  recv : List RecvBuf := []
  msgs : List Msg := []
  relAt : Tbl Nat := []
  sends : List Sending := []
  tai0 : Nat := 0
  closed : Nat := 0
  comp : Tbl Nat := []
deriving DecidableEq, Repr

/-- A carried-state region in force (R45, R153): its two banks, length, layout hash and which bank is current. -/
structure Region where
  bank0 : Nat
  bank1 : Nat
  len : Nat
  layout : Nat
  cur : Bool
  part : Nat
  old : Bool
deriving DecidableEq, Repr

/-- A journal entry (Table 18.1). SEQ, PREV and HASH are 0 until the journal sequencer chains it. Of a SIGPART, `old`, `new`
and `data` hold the 80-byte part (Table 18.3). -/
structure JEntry where
  seq : Nat := 0
  tai : Nat := 0
  frame : Nat := 0
  epoch : Nat := 0
  mod_ : Nat := 0
  origin : Nat := 0
  kind : Nat := 0
  requester : Nat := 0
  keyId : Nat := 0
  object : Nat := 0
  reason : Nat := 0
  flags : Nat := 0
  priv : Nat := 0xFF
  old : Nat := 0
  new : Nat := 0
  data : Nat := 0
  prev : Nat := 0
  hash : Nat := 0
deriving DecidableEq, Repr

/-- Entries of one source and REASON folded or counted (R421, R423): the newest of them, and how many. -/
structure Fold where
  last : JEntry
  count : Nat
deriving DecidableEq, Repr

/-- The journal sequencer beside its registers (spec/18_journal.md): the next SEQ and the last HASH; the chained entries not
yet passed by the host's CONS, oldest first; the SEQ below which entries are released to the host ring and the next to copy;
the companion controller's store, the entries crossing with the snapshot and the fabric entries that wait for them (none
waits: `none`); the last checkpoint, entries since, a checkpoint whose signature is under way and whether another is due;
folds of the main ring and of the safety area; the frame digests of folded COMMITs with their first and last frame; requests
refused since JOURNAL_FULL was entered; HASH of the newest sealed entry. -/
structure Jrn where
  next : Nat := 0
  lastHash : Nat := 0
  held : List JEntry := []
  released : Nat := 0
  copied : Nat := 0
  comp : List JEntry := []
  crossing : List JEntry := []
  waiting : Option (List JEntry) := some []
  lastCkpt : Nat := 0
  sinceCkpt : Nat := 0
  signing : Option Nat := none
  ckptDue : Bool := false
  folds : List Fold := []
  safeFolds : List Fold := []
  digests : List Nat := []
  digestFirst : Nat := 0
  digestLast : Nat := 0
  refused : Nat := 0
  headHash : Nat := 0
deriving DecidableEq, Repr

/-- The host interface beside its registers: when each MSI-X vector was last signalled and which are deferred (R335); LOST
counts since the last report (R333); completions that wait for precedence to be decided at the next edge (R329); frame of
the last heartbeat and of the last write of EN from 0 to 1 (R337); trace records that wait for PCIe, oldest first (R440, R441). -/
structure Hst where
  lastVec : Tbl Nat := []
  deferred : List Nat := []
  lostSince : Nat := 0
  completions : List (Nat × Nat × Nat) := []
  lastHb : Option Nat := none
  hbFrom : Nat := 0
  nonD0 : Bool := false
  traces : List (List Byte) := []
deriving DecidableEq, Repr

/-- A kind of promotion beside its register (spec/08_calibration.md R216 to R222): whether bank B is in force; the digest of the
sealed candidate and its source; when it became READY; when a pending demotion was accepted; the frame from which write grants on
the other bank are made again; residual-at-clamp sums of this epoch and the one before; candidates discarded (R218); the digest of
the bank that was last refused, withdrawn or taken out of force, whose seal is spent; `FRM_EPOCH` at the seal; whether the learning
plan has written the candidate bank since then (R218). -/
structure Promo where
  bankB : Bool := false
  digest : Nat := 0
  source : Nat := 0
  readyAt : Nat := 0
  demoteAt : Option Nat := none
  grantFrom : Nat := 0
  clamp : Nat := 0
  clampPrev : Nat := 0
  discards : Nat := 0
  spent : Option Nat := none
  sealEpoch : Nat := 0
  begun : Bool := false
deriving DecidableEq, Repr

/-- The plan and frame sequencers' plan state beside their registers (spec/06_plans.md): the plan sets in force, superseded (while
its runs are in flight) and staged; the staging bank in force (R157; 1 before the first swap, so that bank A is staged first); when
the staged set became ARMED; changes that wait for their epoch edge with the instant of their acceptance (R53): frame period, epoch
length, placement requests and planned retirements by partition or tussock; the placement request that stands, as PLACE + 4·REQ, by
partition; partitions held, with the instant of the retirement (R171); first frame in which an incoming plan may start a run
(R161); tussocks whose store banks change over once no outgoing run uses them (R157); promotions. -/
structure Pln where
  inForce : Option PlanSet := none
  old : Option PlanSet := none
  staged : Option PlanSet := none
  force : Nat := 1
  armedAt : Nat := 0
  period : Option (Nat × Nat) := none
  epochLen : Option (Nat × Nat) := none
  placeAt : Tbl Nat := []
  placeReq : Tbl Nat := []
  retireAt : Tbl Nat := []
  holds : Tbl Nat := []
  startFrom : Tbl Nat := []
  flips : List Nat := []
  promo : Tbl Promo := []
deriving DecidableEq, Repr

/-- The plan ladder beside its registers (R165 to R168): frames missed by partition since the last step, newest first, and whether
any counted partition has missed since then; full `FRM_COUNT` of the last step; the former U0 while a write of UP_LOG waits for the
next edge; whether a change applied at this edge bars a step up. -/
structure Lad where
  misses : Tbl (List Nat) := []
  missed : Bool := false
  last : Nat := 0
  up0 : Option Nat := none
  blocked : Bool := false
deriving DecidableEq, Repr

/-- What the frame record of the frame in progress gathers (Table 19.2), as masks of partitions: misses found before slot 60 (R72,
R82, R171), abandonments at the ladder step and by resets at this edge or in this frame; whether a ladder step was made at t_n,
a learning step skipped; overdue counts and REPL at t_n; the partitions of the last check that finished, and those that have a miss, a
hold or no placement (R209); CLAMP of the control plan's last completion and whether it is of this frame; trace records generated
in this frame; the frame sections that run: partition, whether of the outgoing set, and tussocks; flag words and completion slots by
partition. -/
structure Rec where
  missNow : Nat := 0
  abRung : Nat := 0
  abReset : Nat := 0
  stepped : Bool := false
  learnSkip : Bool := false
  overdue : Nat := 0
  repl : Nat := 0
  finished : Nat := 0
  missed : Nat := 0
  clamp : Nat := 0
  clampNew : Bool := false
  traced : Nat := 0
  secs : List (Nat × Bool × List Nat) := []
  flagW : Tbl Nat := []
  done : Tbl Nat := []
  closed : Bool := false
deriving DecidableEq, Repr

/-- The acquisition sequencer beside its registers (spec/12_plant_io.md): by snapshot entry (0 to 63 temperature, 64 to 95
4–20 mA, 96 to 127 ropes) the end of the last conversion and the last valid value; per 4–20 mA input its newest raw samples;
per rope its consecutive scans against its state; of the digital inputs when each was last accepted and which changed since the
last frame edge; the outputs of the block that has arrived and when, and those in effect. -/
structure Pio where
  tai : Tbl Nat := []
  valid : Tbl Nat := []
  raw : Tbl (List Int) := []
  scans : Tbl Nat := []
  dinAt : Tbl Nat := []
  dinDelta : Nat := 0
deriving DecidableEq, Repr

/-- A clock of the best master clock comparison heard on a port (R302). -/
structure Heard where
  gm : BitVec 64
  rank : Nat
deriving DecidableEq, Repr

/-- The ingest sequencer and the PTP ports beside their registers (spec/13_telemetry.md): the record held per stream, the
streams whose held record no snapshot has latched, the GEN of the last record each stream accepted (R312), the ingest queues,
oldest first, as stream and record (R310), consecutive checks with both queues low (R311), the class levels at the last
snapshot (Table 13.5); Sync messages in a row within 1 µs, the last accepted Sync and its interval (R303), masters heard and
path delays per port (R302), whether `FRM_TAI_NS` has been written (R58), and the ports that send nothing after a duplicate address. -/
structure Tel where
  recs : Tbl Nat := []
  fresh : Tbl Nat := []
  gens : Tbl Nat := []
  q0 : List (Nat × Nat) := []
  q1 : List (Nat × Nat) := []
  low : Nat := 0
  decLvls : Nat := 0
  within : Nat := 0
  lastSync : Option Tai := none
  interval : Nat := 0
  heard : Tbl Heard := []
  delay : Tbl Int := []
  taiWritten : Bool := false
  dad : Nat := 0
deriving DecidableEq, Repr

/-- A frame on a bus that the module sends: object 0 to 255, or 256 EMERG, 257 BEAT, 258 CFG_REQ, 259 TEST; the frame as
loaded; whether a cancel came late (R270). -/
structure OnBus where
  obj : Nat
  fr : CanFrame
  late : Bool
deriving DecidableEq, Repr

/-- A PESER_CFG command under way or waiting: its TAG, node, timeout in ms and request bytes (R330). -/
structure PeserReq where
  tag : Nat
  node : Nat
  timeout : Nat
  req : List Byte
deriving DecidableEq, Repr

/-- A field bus beside its registers (spec/11_fieldbus.md): the newest committed frame of each transmit object (DLC and data), the
objects pending, those that follow a late-cancelled frame, the frame on the bus, a pending EMERG (its node mask), BEAT and TEST
(its node), the configuration request outstanding with its start, whether it has yet to be sent, and those waiting; receive FIFO
entries (Table 11.3), oldest first; error counters as ISO 11898-1 counts them, when bus-off began, whether the
controller leaves at the end of the frame in progress, whether committed frames re-enter at the next
commit edge, and the objects that protection has let go of, which send then (R401). -/
structure Bus where
  msg : Tbl (Nat × List Byte) := []
  queue : List Nat := []
  next : List Nat := []
  onBus : Option OnBus := none
  emerg : Option Nat := none
  beat : Bool := false
  test : Option Nat := none
  cfg : Option PeserReq := none
  cfgAt : Tai := 0
  cfgSend : Bool := false
  cfgWait : List PeserReq := []
  fifo0 : List Nat := []
  fifo1 : List Nat := []
  tec : Nat := 0
  boffAt : Tai := 0
  leaving : Bool := false
  reenter : Bool := false
  resend : List Nat := []
deriving DecidableEq, Repr

/-- The bus sequencer beside its registers: the four buses; per Peser value the sample time and whether the last frame faulted it
(R281); the largest epoch seen in a STATUS frame (R349). -/
structure Can where
  bus : Tbl Bus := []
  pvalAt : Tbl Tai := []
  pvalFlt : Tbl Nat := []
  seen : Nat := 0
deriving DecidableEq, Repr

/-- A loop-engine channel beside its registers (spec/09_loop_engine.md): the mode in effect and those written to `_CFG` since its
last sample, in order; its effective state; committed target and band; arrival time of the block last taken; ripple offset; profile r, v, a
and integrals I, D in Q32; feedback, the feedback before it and output; the value applied to the actuator (none while OFF); samples
counted for following error, band, passing to NORMAL, recovery and misses; whether the fault is FB_LOST, and whether the band fault
is reported; last safe-table target from a valid input; silent frames in a row and whether they keep it ON_SAFE; the value that protection
forces; the value from which it is to be initialised; target in use, band in use, safe-table target; gain table in use. -/
structure Chan where
  mode : Nat := 0
  modes : List Nat := []
  eff : Nat := 0
  tgt : Option Int := none
  band : Option (Int × Int) := none
  taken : Option Nat := none
  off : Int := 0
  r : Int := 0
  v : Int := 0
  a : Int := 0
  i : Int := 0
  d : Int := 0
  y : Int := 0
  yPrev : Int := 0
  u : Int := 0
  applied : Option Int := none
  fe : Nat := 0
  bnd : Nat := 0
  pas : Nat := 0
  rec_ : Nat := 0
  miss : Nat := 0
  lost : Bool := false
  imp : Bool := false
  sLast : Option Int := none
  sil : Nat := 0
  want : Bool := true
  forced : Option Int := none
  init : Option Int := none
  xs : Int := 0
  lo : Int := 0
  hi : Int := 0
  safe : Int := 0
  tbl : Option Nat := none
deriving DecidableEq, Repr

/-- A ripple descriptor beside its registers (spec/08_calibration.md R207 to R211): state of R211, frame of its start, offset in
force in Q16, and the last frame of its settling. -/
structure Rip where
  st : Nat := 0
  start : Nat := 0
  off : Int := 0
  settled : Nat := 0
deriving DecidableEq, Repr

/-- The loop engine and the companion's view of the fabric beside their registers: the channels and ripples; the newest output
block, when it arrived and whether one has come since the last frame edge; silent frames in a row by output, keyed 1024·OCLS +
index (R243, R256, Table 12.6). -/
structure Lpe where
  ch : Tbl Chan := []
  rip : Tbl Rip := []
  blk : Option OutBlock := none
  blkAt : Nat := 0
  got : Bool := false
  sil : Tbl Nat := []
deriving DecidableEq, Repr

/-- A pump drive beside its registers (spec/10_drives.md): phase (0 off, 1 aligning, 2 open loop, 3 flying-start measurement, 4 closed
loop) and when its start began; internal reference in Q32 %; speed-loop integral in Q16 A and q-axis demand; PWM periods counted
to four; periods of a current-sense fault; since when lock is lost; the fault that a restart follows (R253) and whether one waits;
time of the measurement. -/
structure Pump where
  phase : Nat := 0
  startAt : Nat := 0
  ref : Int := 0
  integ : Int := 0
  iq : Int := 0
  tick : Nat := 0
  isense : Nat := 0
  lostAt : Option Nat := none
  faultAt : Option Nat := none
  restart : Bool := false
  meas : Option Nat := none
deriving DecidableEq, Repr

/-- A fan drive beside its registers: phase (0 off, 1 aligning, 2 open loop, 3 running); when its attempt began; when its wait
ends; since when it runs locked; internal reference in Q32 %; time of the measurement and the input voltage
it found; whether protection has ended its wait (R259). -/
structure Fan where
  phase : Nat := 0
  startAt : Nat := 0
  waitEnd : Nat := 0
  lockedAt : Option Nat := none
  ref : Int := 0
  meas : Option Nat := none
  vin : Nat := 0
  due : Bool := false
deriving DecidableEq, Repr

/-- The drive sequencer beside its registers. -/
structure Drv where
  pump : Tbl Pump := []
  fan : Tbl Fan := []
deriving DecidableEq, Repr

/-- The trip logic beside its registers (spec/17_protection.md): comparators whose clear condition held at the last instant; by
comparator since when the condition has held at every instant; by response the end of HOLD_MS, and the mask of responses that are
latched; pairs' last assertions; re-arms that wait for the next T_S instant; protection caps by 1024·response + package, in mW
(R396); by module-cooling state since when its condition holds, and under 8 more since when it is false by 5 K; when SHUTDOWN
cut the rails. -/
structure Prt where
  clear : Nat := 0
  since : Tbl Nat := []
  holdEnd : Tbl Nat := []
  latch : Nat := 0
  pairAt : Tbl Nat := []
  rearm : Nat := 0
  caps : Tbl Nat := []
  mcSince : Tbl Nat := []
  cut : Option Nat := none
deriving DecidableEq, Repr

/-- The frame and emit sequencers beside their registers: the standing committed outputs, keyed 1024·OCLS + index (R145); the CAN
transmits committed for the next release, keyed 256·bus + object (R146); the sealed output block that waits for its release, and the
released one on its way to the companion controller (R42). -/
structure Frm where
  outs : Tbl Nat := []
  can : Tbl (Nat × List Byte) := []
  sealed_ : Option OutBlock := none
  released : Option OutBlock := none
deriving DecidableEq, Repr

/-- A cap record that waits for its release (Table 7.7): package, cap, target, rate, binding source and flags. -/
structure CapRec where
  pkg : Nat
  cap : Nat
  target : Nat
  rate : Nat
  src : Nat
  flags : Nat
deriving DecidableEq, Repr

/-- The cap combination beside its registers (spec/07_policy.md): released cap by package, present once one was released (R190);
whether the control plan has committed a first proposal (R186); the packages for which it has committed one since they were bound
(R173); the combination that waits for its release; INFEAS and CFG_ERR
bits last reported. -/
structure Cap where
  prev : Tbl Nat := []
  first : Bool := false
  live : List Nat := []
  pend : Option (List CapRec) := none
  infeas : Nat := 0
deriving DecidableEq, Repr

/-- The pairing sequencer and the companion's lease logic beside their registers (spec/15_pairing.md): `FRM_COUNT` of the first frame
edge; the largest validity end seen (R348) and that of a release word that no renewal has followed; the largest lease epoch seen on P0
and the lease pair (R349), and in the partner's renewals; whether the module has stopped renewing in this tenure (R347); the validity
end that the companion holds; the lease word on the companion link; the newest record of the partner and the frame in which its last
renewal was seen; the last complete image, the snapshot stream held for the next shadow frame, the frame whose snapshot is served, the
frame of the last image that arrived; the writes of images that wait for the seal window; the writes accepted in this frame that travel
in its image (R345); the frame of a handover (R354); frames in a row in which
an output was beyond tolerance (R359); whether a fresh epoch is due (R351), an epoch still to be stored; whether a configuration
transfer is under way, and what it brought that waits for the swap (R391); time of the last exercise pass; whether PATHS_LOST was raised; effective states that an exercise
replaces. -/
structure Pair where
  first : Option Nat := none
  xs : Nat := 0
  releaseX : Option Nat := none
  seenEpoch : Nat := 0
  partnerEpoch : Nat := 0
  stopped : Bool := false
  compX : Nat := 0
  word : Option (Nat × Nat) := none
  rec_ : Option P0Record := none
  seenAt : Option Nat := none
  img : Option StateImage := none
  snapNext : Option (Nat × List (Nat × Unit64)) := none
  shadow : Option Nat := none
  imgSeen : Option Nat := none
  inbox : List (List MirrorWrite) := []
  writes : List MirrorWrite := []
  handover : Option Nat := none
  tol : Tbl Nat := []
  reepoch : Bool := false
  storing : Bool := false
  transfer : Bool := false
  conf : Option ConfigTransfer := none
  passAt : Option Nat := none
  lost : Bool := false
  exerEff : Tbl Nat := []
deriving DecidableEq, Repr

/-- The domain relay beside its registers (R362 to R366): ports whose link is up; when a join was asked for, whether any link has
been up since; the admitted join with its acceptance and the domain's counters at it; a leave that waits for the epoch edge;
by position the frames in a row without its records, those whose records have come in this
frame, and the LOST positions whose holder or partner has been heard since; positions admitted, with module, partner and acceptance,
that wait for the epoch edge; records arrived in this frame by port; what the last time exchange reported. -/
structure Dom where
  links : Nat := 0
  askAt : Option Nat := none
  join : Option (Nat × Nat × Nat) := none
  leaveAt : Option Nat := none
  missing : Tbl Nat := []
  got : Nat := 0
  back : Tbl Nat := []
  admits : List (Nat × Nat × Nat × Nat) := []
  cnt : Tbl Nat := []
  heard : Option DomainTime := none
deriving DecidableEq, Repr

/-- A compute reset in progress or waiting for its drain (spec/16_bringup.md R379 to R384): its hummocks as a mask, its tussocks, its
partition where it is a partition reset, whether it drains, and whether it is asserted. -/
structure ObjReset where
  hum : Nat
  tussocks : List Nat
  part : Option Nat
  kind : Nat
  drain : Bool
  active : Bool
deriving DecidableEq, Repr

/-- Resets and halts beside their registers: compute resets; whether a fabric reset is in progress, the frame sequencer has stopped (R58), CRITICAL halts
computing (R407), SHUTDOWN has cut the rails; a signed reset that waits for the journal, with its TAG and since when. -/
structure Rst where
  objs : List ObjReset := []
  fabric : Bool := false
  stopped : Bool := false
  crit : Bool := false
  wait : Option (Nat × Nat) := none
deriving DecidableEq, Repr

/-- An owner key's slot in the key store (R428). -/
structure KeySlot where
  keyId : Nat
  classes : Nat
  req : Bool
  modulus : List Byte
  mldsa : List Byte
  ctr : Nat
deriving DecidableEq, Repr

/-- A copy of the LPE store (R389): save sequence number, identifier, pairing level and the stored registers by offset. -/
structure LpeCopy where
  seq : Nat
  modId : Nat
  level : Nat
  regs : Tbl Word
deriving DecidableEq, Repr

/-- The Neruak-signed image in the boot flash of a new module (R1). Its version, length and digest are the model's
(DESIGN CHOICE, notes/assumptions/5.md). -/
def shippedImage : FwImage :=
  { format := 0x4B460001, fwVer := 0, svn := 0, pairLevel := 0, size := 2 ^ 20, digest := 0, sectionsInside := true, signature := 0 }

/-- What survives a whole-module reset: the key store and the PCIe grant (R427, R428); the boot flash (Table 16.3) with its image
slots, boot record, LPE store copies, lease epoch record and retirement log (as 9·hummock + position); the fuse minimum of SVN. -/
structure Nv where
  keys : Tbl KeySlot := []
  grant : Nat := 7
  slots : Tbl FwImage := [(0, shippedImage)]
  pref : Nat := 0
  lpe : Tbl LpeCopy := []
  epoch : Nat := 0
  log : List Nat := []
  svnMin : Nat := 0
deriving DecidableEq, Repr

/-- Start-up, staging of firmware and the management port beside their registers: when start-up and its phase began; the image in
use; bytes staged; the level of HB; the latched straps; MCTP endpoint
and dynamic address (R387); the last valid MCTP message and whether MGMT counts as lost; the sensors as last refreshed, by identifier (R341); whether a strap
difference stands; whether the module sits in its bay and whether the partner's bay is occupied (R390); the copy that a save writes. -/
structure Boot where
  began : Option Nat := none
  image : Option FwImage := none
  stagedLen : Nat := 0
  hb : Bool := false
  straps : Option Straps := none
  eid : Nat := 0
  dyn : Nat := 0
  mctpAt : Nat := 0
  mgmtLost : Bool := false
  pldm : Tbl Nat := []
  strapDiff : Bool := false
  inserted : Bool := true
  peer : Bool := false
  saving : Option LpeCopy := none
deriving DecidableEq, Repr

/-- A write accepted in the frame in progress (R425): rank of its origin (3 P0 partner, 2 PCIe host, 1 MGMT), requester, mask of the
bits it wrote and the value it left. -/
structure Accepted where
  rank : Nat
  requester : Nat
  mask : Nat
  value : Nat
deriving DecidableEq, Repr

/-- A write that is being handled: its register, the word it brings and the mask of its fields. -/
structure Wr where
  reg : Reg
  idx : List Nat
  mask : Nat
  val : Nat
deriving DecidableEq, Repr

/-- The writes accepted in the frame in progress, by offset (R425), and those that take effect at its end (R52). -/
structure Acs where
  last : Tbl (List Accepted) := []
  later : List Wr := []
deriving DecidableEq, Repr

/-- The state. -/
structure State where
  pending : List Instr
  now : Nat
  free : Nat
  out : List Output
  regs : Tbl Word
  hbm : Mem
  fab : Fab
  runs : List Run
  regions : List Region
  snap : Tbl Nat
  pln : Pln
  jrn : Jrn
  hst : Hst
  pio : Pio
  tel : Tel
  can : Can
  lpe : Lpe
  drv : Drv
  prt : Prt
  frm : Frm
  cap : Cap
  lad : Lad
  rcd : Rec
  pair : Pair
  dom : Dom
  rst : Rst
  nv : Nv
  boot : Boot
  acs : Acs
deriving DecidableEq, Repr

/-- The state after reset. -/
def State.reset : State :=
  { pending := [], now := 0, free := 0, out := [], regs := [], hbm := [], fab := {}, runs := [], regions := [], snap := [], pln := {}, jrn := {}, hst := {}, pio := {}, tel := {}, can := {}, lpe := {}, drv := {}, prt := {}, frm := {}, cap := {},
    lad := {}, rcd := {}, pair := {}, dom := {}, rst := {}, nv := {}, boot := {}, acs := {} }

end Sys2Proof.Machine
end

