-- ==== Sys2Proof/Machine/Ops.lean ====
section
/-!
DEFINITION. The named operations over registers, memories and the state's time, free values and output.
-/
namespace Sys2Proof.Machine

/-- The offset in BAR0 of a register's instance (Table 20.1): its base plus each index times its stride. -/
def Reg.off (r : Reg) (idx : List Nat) : Nat :=
  (List.zipWith (fun d i => d.1 * i) r.dims idx).foldl (· + ·) r.base

/-- The reset value of a field's instance: the value of its table, but for the loop-engine channels from 16 on, whose class
resets to G (Table 9.6), the module's own streams, whose EN reads 1 (Table 13.5), and the tolerance of class 0 (Table 15.10). -/
def Fld.resetAt (f : Fld) (idx : List Nat) : Nat :=
  match f.reg, f.lo with
  | .lpeChCfg, 0 => if 16 ≤ idx.headD 0 then 1 else f.reset
  | .stmLo, 0 => if 0xFF00 ≤ idx.headD 0 ∧ idx.headD 0 ≤ 0xFF7F then 1 else f.reset
  | .parTol, 0 => if idx.headD 0 = 0 then 0x50000 else f.reset
  | _, _ => f.reset

/-- The reset value of a register's instance. -/
def Reg.resetWord (r : Reg) (idx : List Nat) : Nat :=
  r.fields.foldl (fun w f => w + (f.resetAt idx % 2 ^ f.width) * 2 ^ f.lo) 0

/-- Reads a whole register. -/
def State.rd (s : State) (r : Reg) (idx : List Nat) : Nat :=
  match Tbl.find s.regs (r.off idx) with
  | some w => w.toNat
  | none => r.resetWord idx

/-- Sets a whole register. -/
def State.wr (s : State) (r : Reg) (idx : List Nat) (x : Nat) : State :=
  { s with regs := Tbl.put s.regs (r.off idx) (BitVec.ofNat 64 x) }

/-- Reads a field. -/
def State.get (s : State) (f : Fld) (idx : List Nat) : Nat := bits (s.rd f.reg idx) f.lo f.width

/-- Sets a field. -/
def State.set (s : State) (f : Fld) (idx : List Nat) (v : Nat) : State :=
  s.wr f.reg idx (setBits (s.rd f.reg idx) f.lo f.width v)

/-- Whether a field is not 0. -/
def State.on (s : State) (f : Fld) (idx : List Nat) : Bool := decide (s.get f idx ≠ 0)

/-- Reads a field as two's complement. -/
def State.getI (s : State) (f : Fld) (idx : List Nat) : Int := signed f.width (s.get f idx)

/-- Sets a field to a two's complement value. -/
def State.setI (s : State) (f : Fld) (idx : List Nat) (v : Int) : State := s.set f idx (unsigned f.width v)

/-- Adds to a counter field, which saturates. -/
def State.bump (s : State) (f : Fld) (idx : List Nat) (n : Nat) : State :=
  s.set f idx (min (s.get f idx + n) (2 ^ f.width - 1))

/-- Adds to a counter field, which wraps. -/
def State.bumpWrap (s : State) (f : Fld) (idx : List Nat) (n : Nat) : State := s.set f idx (s.get f idx + n)

/-- The state at a command's instant, with an empty output. -/
def State.at (s : State) (t : Tai) : State := { s with now := t, out := [] }

/-- The state with an empty output, for a command at no TAI instant of its own. -/
def State.quiet (s : State) : State := { s with out := [] }

/-- Sends something outside the module. -/
def State.emit (s : State) (o : Output) : State := { s with out := s.out ++ [o] }

/-- The next free value (notes/assumptions/1.md). -/
def State.drawn (s : State) : Nat := Config.freeValue s.free

/-- The state after a free value was used. -/
def State.draw (s : State) : State := { s with free := s.free + 1 }

/-- The frame period in nanoseconds (R36): 125 µs · 2^k. -/
def periodNs (k : Nat) : Nat := 125000 * 2 ^ k

/-- The frame period in force. -/
def State.tF (s : State) : Nat := periodNs (s.get F.frmStat_PERIOD_K [])

/-- The epoch length in force in frames (R49). -/
def State.eLen (s : State) : Nat := 2 ^ s.get F.frmStat_EPOCH_M []

/-- `FRM_COUNT`. -/
def State.frame (s : State) : Nat := s.get F.frmCount_COUNT []

/-- Whether the module is a standby (Table 15.1). -/
def State.standby (s : State) : Bool := decide (s.get F.parStat_ROLE [] = 3 ∨ s.get F.parStat_ROLE [] = 4)

/-- The frame whose work the module does: its own, or on a standby the one before (R358). -/
def State.work (s : State) : Nat := if s.standby then s.frame - 1 else s.frame

/-- A logical tussock. -/
def State.tus (s : State) (t : Nat) : Tus := Tbl.at s.fab.tus t {}

/-- Replaces a logical tussock. -/
def State.setTus (s : State) (t : Nat) (x : Tus) : State := { s with fab := { s.fab with tus := Tbl.put s.fab.tus t x } }

/-- The hummock of a logical tussock (R21). -/
def hummockOf (t : Nat) : Nat := t / 8

/-- A hummock's SRAM. -/
def State.humSram (s : State) (h : Nat) : Mem := Tbl.at s.fab.hum h []

/-- Replaces a hummock's SRAM. -/
def State.setHumSram (s : State) (h : Nat) (m : Mem) : State :=
  { s with fab := { s.fab with hum := Tbl.put s.fab.hum h m } }

/-- The run a tussock works for: the one that started in the named frame and whose placement maps the tussock (R48, R169). -/
def State.runOf (s : State) (t start : Nat) : Option Run :=
  s.runs.find? (fun r => decide (r.start = start) && ((r.plan.placements[r.place]?).any (fun p => p.tussocks.contains t)))

/-- Changes the runs that a tussock works for in the named frame. -/
def State.mapRun (s : State) (t start : Nat) (f : Run → Run) : State :=
  { s with runs := s.runs.map (fun r =>
      if r.start = start ∧ ((r.plan.placements[r.place]?).any (fun p => p.tussocks.contains t)) then f r else r) }

/-- The carried-state region that a logical address lies in: of the outgoing set for its runs, else of the set in force (R161). -/
def State.regionAt (s : State) (old : Bool) (a : Nat) : Option Region :=
  let here := fun (g : Region) => decide (g.bank0 ≤ a ∧ a < g.bank0 + g.len)
  (s.regions.find? (fun g => here g && (g.old == old))).orElse (fun _ => s.regions.find? here)

/-- The physical HBM address behind a logical one: the current bank of a carried-state region (R45), the bank in force of a
promotion region as mapped when the run started (R220), or the address itself. -/
def State.hbmMap (s : State) (old : Bool) (banks : List (Nat × Nat × Nat)) (a : Nat) : Nat :=
  match s.regionAt old a with
  | some g => if g.cur then a - g.bank0 + g.bank1 else a
  | none =>
    match banks.find? (fun b => decide (b.1 ≤ a ∧ a < b.1 + b.2.1)) with
    | some b => a - b.1 + b.2.2
    | none => a

/-- Whether an address lies in a window of a plan that holds its writes until the run completes (R45, R80). -/
def banked (p : Plan) (a : Nat) : Bool :=
  p.windows.any (fun w => (w.kind = 1 || w.kind = 2) && decide (w.base ≤ a ∧ a < w.base + w.len))

/-- Reads HBM for a run. -/
def State.hbmRead (s : State) (r : Option Run) (a n : Nat) : List Byte :=
  match r with
  | some r => Mem.bytes s.hbm (s.hbmMap r.old r.banks a) n
  | none => Mem.bytes s.hbm (s.hbmMap false [] a) n

/-- Lists written bytes by address, zero bytes among them. -/
def putBytes (m : Tbl Byte) (a : Nat) : List Byte → Tbl Byte
  | [] => m
  | b :: r => putBytes (Tbl.put m a b) (a + 1) r

/-- The plan that a tussock works for: its run's plan, else the plan in force whose placement in force maps it (R141). -/
def State.planOf (s : State) (t start : Nat) : Option Plan :=
  match s.runOf t start with
  | some r => some r.plan
  | none =>
    (s.pln.inForce.map PlanSet.plans).bind (fun l => l.find? (fun p =>
      (p.placements[s.get F.plnPart_PLACE [p.partition]]?).any (fun q => q.tussocks.contains t)))

/-- A write of the learning plan to a promotion region begins a candidate (R217, R218). -/
def State.candidateBegun (s : State) (p : Plan) (a : Nat) : State :=
  let plans := (s.pln.inForce.map PlanSet.plans).getD []
  match if p.role = .learning then (plans.flatMap Plan.promos).find? (fun e =>
      decide ((e.bankA ≤ a ∧ a < e.bankA + e.len) ∨ (e.bankB ≤ a ∧ a < e.bankB + e.len))) else none with
  | some e => { s with pln := { s.pln with promo := Tbl.put s.pln.promo (e.kind - 1) { Tbl.at s.pln.promo (e.kind - 1) {} with begun := true } } }
  | none => s

/-- Writes HBM for the run of a tussock: to the run's buffer in banked windows, else at once; what an abandoned run
still writes to a banked window is dropped (R44). -/
def State.hbmWrite (s : State) (t start a : Nat) (d : List Byte) : State :=
  match s.runOf t start with
  | some r =>
    if banked r.plan a then s.mapRun t start (fun r => { r with writes := putBytes r.writes a d })
    else { s with hbm := Mem.setBytes s.hbm (s.hbmMap r.old r.wbanks a) d }.candidateBegun r.plan a
  | none => if (s.planOf t start).any (fun p => banked p a) then s else { s with hbm := Mem.setBytes s.hbm (s.hbmMap false [] a) d }

/-- A 64-byte unit of the frame snapshot, as a number: class, unit index (Table 5.7). A stream that has no record reads as
never written and stale (R309); the module's own streams are delivered as written. -/
def State.snapUnit (s : State) (cls unit : Nat) : Nat :=
  Tbl.at s.snap (cls * 0x20000 + unit) (if cls = 1 ∧ ¬ (0xFF00 ≤ unit ∧ unit ≤ 0xFF7F) then 0x800000 else 0)

/-- The placement that a tussock's run has, else that of the plan in force whose placement in force maps the tussock (R169, R170). -/
def State.placementOf (s : State) (t start : Nat) : Option Placement :=
  match s.runOf t start with
  | some r => r.plan.placements[r.place]?
  | none => (s.planOf t start).bind (fun p => p.placements[s.get F.plnPart_PLACE [p.partition]]?)

/-- The route that RTE selects for a tussock's transfer, where its entry and its path are valid (R154). -/
def State.routeOf (s : State) (t start : Nat) (rte : Nat) : Option Route :=
  let base := match s.placementOf t start with | some q => q.routeBase t | none => 0
  (routeEntry (s.tus t).cst base rte).bind (fun r => (r.links (hummockOf t)).map (fun _ => r))

/-- Fabric clocks from t_n to an instant, at the rung in force (R54). -/
def State.clockAt (s : State) (t : Tai) : Nat := clocksIn (s.get F.plnLadderStat_RUNG []) (t - s.fab.tai0)

/-- The home of a sluice, by the claims of runs in flight and of the set in force (R134). -/
def State.homeOfSluice (s : State) (slu : Nat) : Nat :=
  ((s.runs.map Run.plan ++ (s.pln.inForce.map PlanSet.plans).getD []).findSome? (fun p => homeOf p slu)).getD 0

/-- Whether a sluice is released (R137): COUNT ≥ TARGET, and MET or ABSORBED. -/
def State.released (s : State) (slu : Nat) : Bool :=
  decide (s.get F.slu_TARGET [slu] ≤ s.get F.slu_COUNT [slu]) && (decide (s.get F.slu_STATUS [slu] = 2) || decide (s.get F.slu_STATUS [slu] = 4))

/-- Notes the clock of the count that released a sluice (R137). -/
def State.noteRelease (s : State) (slu clk : Nat) : State :=
  if s.released slu ∧ (Tbl.find s.fab.relAt slu).isNone then { s with fab := { s.fab with relAt := Tbl.put s.fab.relAt slu clk } } else s

/-- An absorbed signal (R136): counted, and ABSORBED from PENDING or MET. -/
def State.absorbSignal (s : State) (slu : Nat) : State :=
  let st := s.get F.slu_STATUS [slu]
  let s := s.bump F.slu_COUNT [slu] 1
  if st = 1 ∨ st = 2 then s.set F.slu_STATUS [slu] 4 else s

/-- Puts a message to a sluice's home in flight. -/
def State.carry (s : State) (m : Msg) : State := { s with fab := { s.fab with msgs := s.fab.msgs ++ [m] } }

/-- The clock at which what leaves a hummock at a clock reaches a sluice's home (R132, R137): 2 + h clocks later. -/
def State.reaches (s : State) (clk hum slu : Nat) : Nat := clk + 2 + meshHops hum (s.homeOfSluice slu)

/-- Puts a signal to a sluice in flight from a hummock at a clock (R137). -/
def State.signal (s : State) (clk hum slu : Nat) : State := s.carry ⟨s.reaches clk hum slu, slu, .signal⟩

end Sys2Proof.Machine
end

