-- ==== Sys2Proof/Machine/Flags.lean ====
section
/-!
DEFINITION. The flag register of a tussock (Table 3.9) and the clocks at which flags are raised and cleared (R93, R120).
-/
namespace Sys2Proof.Machine

/-- Enters a clear and a raise of flag bits at a clock into a timeline kept in clock order; two entries at one clock merge. -/
def flagEntry (clk clear raise : Nat) : List (Nat × Nat × Nat) → List (Nat × Nat × Nat)
  | [] => [(clk, clear, raise)]
  | e :: r =>
    if clk < e.1 then (clk, clear, raise) :: e :: r
    else if clk = e.1 then (clk, e.2.1 ||| clear, e.2.2 ||| raise) :: r
    else e :: flagEntry clk clear raise r

/-- Raises flags when an operation's result lands (R120). -/
def Tus.raise (t : Tus) (clk fl : Nat) : Tus := if fl = 0 then t else { t with ffly := flagEntry clk 0 fl t.ffly }

/-- Clears flags at a clock (MFCLR). -/
def Tus.clearFlags (t : Tus) (clk mask : Nat) : Tus := { t with ffly := flagEntry clk mask 0 t.ffly }

/-- One clock's clears and raises: a bit raised in the clock that clears it stays set, and a clear never takes a flag from
the fold (R120). -/
def Tus.flagStep (t : Tus) (e : Nat × Nat × Nat) : Tus :=
  { t with flags := (t.flags ^^^ (t.flags &&& e.2.1)) ||| e.2.2, fold := t.fold ||| e.2.2 }

/-- Applies every entry of clocks before `clk`. -/
def Tus.flagsTo (t : Tus) (clk : Nat) : Tus :=
  let due := t.ffly.filter (fun e => decide (e.1 < clk))
  { (due.foldl Tus.flagStep t) with ffly := t.ffly.filter (fun e => decide (clk ≤ e.1)) }

/-- Applies every entry in flight. -/
def Tus.flagsAll (t : Tus) : Tus := { (t.ffly.foldl Tus.flagStep t) with ffly := [] }

/-- The fold of a tussock at slot 60 (R93): the flags raised in the frame, which are then cleared. -/
def Tus.takeFold (t : Tus) : Nat × Tus :=
  let t := t.flagsAll
  (t.fold, { t with flags := 0, fold := 0 })

/-- Combines flag sets. -/
def flagsOr (l : List Nat) : Nat := l.foldl (· ||| ·) 0

end Sys2Proof.Machine
end

