-- ==== Sys2Proof/Machine/Staging.lean ====
section
/-!
DEFINITION. Output staging (spec/03_fabric.md R91, spec/05_isa_control.md R132, R144 to R147): how what a tussock sent enters the staging of
its run, 24 or 32 clocks after its issue.
-/
namespace Sys2Proof.Machine

/-- The range of an output as it stands, in its own format (R144, Table 5.8): mW for caps, Q16 units for the others. The spec gives no
range for an analog output whose MODE is OFF: the whole of Q16 (DESIGN CHOICE, notes/assumptions/136.md). -/
def State.outRange (s : State) (ocls i : Nat) : Int × Int :=
  if ocls = 0 then (1000 * s.get F.capPkgLim_CAP_MIN [i], 1000 * s.get F.capPkgLim_CAP_MAX [i])
  else if ocls = 4 then
    match s.get F.pioAoutCfg_MODE [i] with
    | 1 => (0, 10 * 65536)
    | 2 => (4 * 65536, 20 * 65536)
    | _ => (-(2 ^ 31), 2 ^ 31 - 1)
  else if ocls = 6 then (0, 100 * 65536)
  else (-(2 ^ 31), 2 ^ 31 - 1)

/-- The finite values of an output's own format: 32-bit unsigned mW for caps, Q16 for the others. -/
def formatRange (ocls : Nat) : Int × Int := if ocls = 0 then (0, 2 ^ 32 - 1) else (-(2 ^ 31), 2 ^ 31 - 1)

/-- A value in an output's format, limited to its range: the encoding, and whether it saturated. -/
def State.limited (s : State) (ocls i : Nat) (x : Int) : Nat × Bool :=
  let v := clampI (s.outRange ocls i).1 (s.outRange ocls i).2 x
  (unsigned 32 v, decide (v ≠ x))

/-- A lane's value in the output's own format (R91, R144): the encoding, whether it was replaced and whether it saturated. An infinity
becomes the largest finite value of the format, which saturates where the output's range does not reach it. -/
def State.emitValue (s : State) (ocls i : Nat) (n : Num) : Nat × Bool × Bool :=
  if ocls = 5 then (match n with | .nan => 0 | .inf _ => 1 | .fin _ m _ _ => b2n (m ≠ 0), n.isNan || (match n with | .inf _ => true | _ => false), false)
  else
    match n with
    | .nan => ((s.limited ocls i 0).1, true, (s.limited ocls i 0).2)
    | .inf g =>
      let x := if g then (formatRange ocls).1 else (formatRange ocls).2
      ((s.limited ocls i x).1, true, (s.limited ocls i x).2)
    | .fin g m e _ =>
      let k := if ocls = 0 then 1000 else 65536
      let q := (roundMag .rne (m * k) e false 0).1
      let x : Int := if g then -(q : Int) else q
      ((s.limited ocls i x).1, false, (s.limited ocls i x).2)

/-- One lane of an emit enters the staging of its run at its clock, later emits replacing earlier ones (R144, R145). Its rounding and its
saturation raise no INX: Table 3.9 names results (DESIGN CHOICE, notes/assumptions/137.md). -/
def State.enterEmit (s : State) (x : Sending) (key : Nat) (n : Num) : State :=
  let v := s.emitValue (key / 1024) (key % 1024) n
  let s := s.mapRun x.tus x.run (fun r => { r with emits := Tbl.put r.emits key v.1 })
  let s := if v.2.1 then s.bump F.obsRepl_REPL [key / 1024, key % 1024] 1 else s
  let s := if v.2.2 then s.bump F.obsRepl_SAT [key / 1024, key % 1024] 1 else s
  s.setTus x.tus ((s.tus x.tus).raise x.at_ ((if v.2.1 then flNan else 0) + (if v.2.2 then flSat else 0)))

/-- What was sent enters the staging of its run (R144 to R147); of an abandoned run nothing is left to enter (R44). -/
def State.enter (s : State) (x : Sending) : State :=
  match x.what with
  | .emit key q16 b => s.enterEmit x key (decodeNum (if q16 then Fmt.q16 else Fmt.fp32) b)
  | .can key dlc d => s.mapRun x.tus x.run (fun r => { r with can := Tbl.put r.can key (dlc, d) })
  | .annot reason d => s.mapRun x.tus x.run (fun r => { r with annots := r.annots ++ [⟨x.tus.val, reason, d⟩] })

/-- What a test selects of what is on its way enters staging, in order. -/
def State.enterAll (s : State) (sel : Sending → Bool) : State :=
  (s.fab.sends.filter sel).foldl State.enter { s with fab := { s.fab with sends := s.fab.sends.filter (fun x => !sel x) } }

/-- Puts something on its way to staging. -/
def State.sends (s : State) (x : Sending) : State := { s with fab := { s.fab with sends := s.fab.sends ++ [x] } }

end Sys2Proof.Machine
end

