-- ==== Sys2Proof/Machine/Operands.lean ====
section
/-!
DEFINITION. How an operation of a track reads its operands and lands its results (R99 to R104), and the address forms of the
M and X slots (R121, Table 4.13).
-/
namespace Sys2Proof.Machine

/-- `old` with the bits of `mask` taken from `val`. -/
def merge (old val mask : Nat) : Nat := old ^^^ ((old ^^^ val) &&& mask)

/-- The low n bits set. -/
def ones (n : Nat) : Nat := 2 ^ n - 1

/-- A predicate register; P0 reads as all ones (Table 4.4). -/
def Tus.pred (t : Tus) (r : Nat) : Nat := if r = 0 then ones 64 else Tbl.at t.p r 0

/-- A vector register. -/
def Tus.vreg (t : Tus) (r : Nat) : Nat := Tbl.at t.v r 0
/-- A scalar register. -/
def Tus.sreg (t : Tus) (r : Nat) : Nat := Tbl.at t.s r 0
/-- An address register. -/
def Tus.areg (t : Tus) (r : Nat) : Nat := Tbl.at t.a r 0
/-- The stride of an address register, 24-bit signed, in bytes. -/
def Tus.stride (t : Tus) (r : Nat) : Int := signed 24 (Tbl.at t.str r 0)
/-- A row of a tile, 512 bits, at index 16 · tile + row (R108). -/
def Tus.row (t : Tus) (i : Nat) : Nat := Tbl.at t.tile i 0

/-- Adds a signed number to a 48-bit address register. -/
def Tus.addA (t : Tus) (r : Nat) (d : Int) : Tus := { t with a := Tbl.put t.a r (unsigned 48 ((t.areg r : Int) + d)) }

/-- Writes the bytes of the 8-byte chunks that `mask` names. -/
def storeChunks (m : Mem) (a : Nat) (d : List Byte) (mask : Nat) : Mem :=
  match d with
  | [] => m
  | b0 :: b1 :: b2 :: b3 :: b4 :: b5 :: b6 :: b7 :: r =>
    let m := if mask % 2 = 1 then Mem.setBytes m a [b0, b1, b2, b3, b4, b5, b6, b7] else m
    storeChunks m (a + 8) r (mask / 2)
  | d => if mask % 2 = 1 then Mem.setBytes m a d else m

/-- A result lands (R101). A write of P0 does not exist. -/
def Tus.apply (t : Tus) : Land → Tus
  | .v r x m => { t with v := Tbl.put t.v r (merge (t.vreg r) x m) }
  | .s r x m => { t with s := Tbl.put t.s r (merge (t.sreg r) x m) }
  | .p r x m => if r = 0 then t else { t with p := Tbl.put t.p r (merge (t.pred r) x m) }
  | .a r x m => { t with a := Tbl.put t.a r (merge (t.areg r) x m) }
  | .aAdd r d => t.addA r d
  | .aStr r x => { t with str := Tbl.put t.str r x }
  | .tile i x m _ => { t with tile := Tbl.put t.tile i (merge (t.row i) x m) }
  | .local_ a d m => { t with sram := storeChunks t.sram a d m }

/-- Lands a list of results in order. -/
def applyDue (l : List (Nat × Land)) (t : Tus) : Tus := l.foldl (fun (t : Tus) (e : Nat × Land) => t.apply e.2) t

/-- Enters a result in flight, kept in landing order. -/
def flyEntry (clk : Nat) (l : Land) : List (Nat × Land) → List (Nat × Land)
  | [] => [(clk, l)]
  | e :: r => if clk < e.1 then (clk, l) :: e :: r else e :: flyEntry clk l r

/-- Puts a result in flight. -/
def Tus.land (t : Tus) (clk : Nat) (l : Land) : Tus := { t with fly := flyEntry clk l t.fly }

/-- Lands every result due at or before `clk` and every flag due before it (R101, R120). -/
def Tus.landTo (t : Tus) (clk : Nat) : Tus :=
  let due := t.fly.filter (fun e => decide (e.1 ≤ clk))
  let t' := applyDue due t
  { t' with fly := t.fly.filter (fun e => decide (clk < e.1)) }.flagsTo clk

/-- Lands everything in flight. -/
def Tus.landAll (t : Tus) : Tus := { (applyDue t.fly t) with fly := [] }.flagsAll

/-- A tile row as the next TMMA of its chain finds it: the newest result of a TMMA in flight, else the landed one (R101, R112). -/
def Tus.chainRow (t : Tus) (i : Nat) : Nat :=
  t.fly.foldl (fun (x : Nat) (e : Nat × Land) => match e.2 with | .tile j y m true => if j = i then merge x y m else x | _ => x) (t.row i)

/-- Whether an operation belongs to the bundle issue that the tussock made last. -/
def Tus.sameIssue (t : Tus) (c : Iss) : Bool :=
  t.started && decide (t.lastClk = c.clk ∧ t.lastPos = c.pos ∧ t.lastRep = c.rep)

/-- Whether an operation may issue: its bundle has the repeat, the tussock has not stopped for the frame, and neither waits nor has ended
its section, unless the operation belongs to the same bundle issue (R99, R100, R139, R141). -/
def Tus.issues (t : Tus) (c : Iss) : Bool := !t.stopped && decide (c.rep ≤ c.rpt.toNat) && ((t.wait.isNone && !t.ended) || t.sameIssue c)

/-- Adds n strides to every address register that AMASK names (R127). -/
def Tus.strides (t : Tus) (amask n : Nat) : Tus :=
  (bitList amask 16).foldl (fun (t : Tus) r => t.addA r ((n : Int) * t.stride r)) t

/-- What the issue of a bundle at `pos` after one at `last` does to the open loops, innermost first (R127): a step back, or
to the same bundle when `again`, within a body ends a pass; a bundle outside a body ends its loop. Every pass that ends adds
the strides of AMASK. -/
def Tus.loopStep (t : Tus) (pos last : Nat) (again : Bool) : List LoopFrame → Tus × List LoopFrame
  | [] => (t, [])
  | f :: r =>
    if f.p < pos ∧ pos ≤ f.p + f.len then
      if f.p < last ∧ (pos < last ∨ (pos = last ∧ again)) then (t.strides f.amask 1, { f with left := f.left - 1 } :: r)
      else (t, f :: r)
    else
      let t := t.strides f.amask (f.left + 1)
      Tus.loopStep t pos last again r

/-- A bundle issue begins: due results land, loops are followed, and the issue is noted. -/
def Tus.begin_ (t : Tus) (c : Iss) : Tus :=
  let t := t.landTo c.clk
  if t.sameIssue c then t
  else
    let again := decide (c.rep ≤ t.lastRep)
    let (t, l) := if t.started then t.loopStep c.pos t.lastPos again t.loops else (t, t.loops)
    { t with loops := l, lastPos := c.pos, lastClk := c.clk, lastRep := c.rep, started := true }

/-- The bundle mask M (R103). -/
def Tus.mask (t : Tus) (c : Iss) : Nat := if c.pinv then ones 64 ^^^ t.pred c.psel.toNat else t.pred c.psel.toNat

/-- Hummock SRAM writes due at or before a clock become visible (Table 3.2). -/
def State.landHum (s : State) (clk : Nat) : State :=
  let due := s.fab.hfly.filter (fun e => decide (e.1 ≤ clk))
  let s := due.foldl (fun (s : State) (e : Nat × Nat × Nat × List Byte) => s.setHumSram e.2.1 (Mem.setBytes (s.humSram e.2.1) e.2.2.1 e.2.2.2)) s
  { s with fab := { s.fab with hfly := s.fab.hfly.filter (fun e => decide (clk < e.1)) } }

/-- What a tussock sent before a clock enters staging by then (Table 5.5). -/
def State.landSends (s : State) (c : Iss) : State := s.enterAll (fun x => decide (x.tus = c.tus ∧ x.at_ ≤ c.clk))

/-- The frame every meaning of a track operation has: an encoding that the checker rejects is refused; a tussock that does
not issue leaves the state as it is; else the issue begins and the effect follows, from the tussock and the mask M. The
effect is `none` where it passes a limit of `Fault.planLimit`. -/
def onIssue (ok : Bool) (c : Iss) (s : State) (eff : State → Tus → Nat → Option State) : Host.Outcome State Fault Refusal :=
  if ¬ ok then .refused .checkerRejects
  else if ¬ (s.tus c.tus).issues c then .next s.quiet
  else
    let s := (s.quiet.landHum c.clk).landSends c
    let t := (s.tus c.tus).begin_ c
    match eff (s.setTus c.tus t) t (t.mask c) with
    | some s' => .next s'
    | none => .fault .planLimit

/-- `onIssue` for an effect on the tussock alone. -/
def onTus (ok : Bool) (c : Iss) (s : State) (eff : Tus → Nat → Tus) : Host.Outcome State Fault Refusal :=
  onIssue ok c s (fun s t m => some (s.setTus c.tus (eff t m)))

/-- The address spaces of Table 4.13. -/
inductive Space where
  | local_ (off : Nat)
  | hum (off : Nat)
  | other (h off : Nat)
  | hbm (a : Nat)
  | const (off : Nat)
deriving DecidableEq, Repr

/-- Decodes an address whose access takes `n` bytes: `none` outside the space's range (R121). -/
def decodeAddr (a n : Nat) : Option Space :=
  let off := bits a 0 45
  match bits a 45 3 with
  | 0 => if off + n ≤ 0x180000 then some (.local_ off) else none
  | 1 => if off + n ≤ 0x400000 then some (.hum off) else none
  | 2 => if off < 2 ^ 27 ∧ bits off 0 22 + n ≤ 0x400000 then some (.other (bits off 22 5) (bits off 0 22)) else none
  | 3 => if off + n ≤ 0x3000000000 then some (.hbm off) else none
  | 4 => if off + n ≤ 0x10000 then some (.const off) else none
  | _ => none

/-- An address plus a signed offset, 48 bits. -/
def addAddr (a : Nat) (d : Int) : Nat := unsigned 48 ((a : Int) + d)

/-- 512-bit value of 64 bytes. -/
def wordOf (l : List Byte) : Nat := ofLeBytes l

/-- The post-increment of an address register by its stride, seen from the next clock on (R102). -/
def Tus.postInc (t : Tus) (c : Iss) (on : Bool) (r : Nat) : Tus :=
  if on then t.land (c.clk + 1) (.aAdd r (t.stride r)) else t

/-- The role-independent plan settings a tussock's operations take from their run: `INF_MODE` (R90). -/
def State.infMode (s : State) (c : Iss) : Bool := ((s.runOf c.tus c.run).map (fun r => r.plan.infMode)).getD false

end Sys2Proof.Machine
end

