-- ==== Sys2Proof/Machine/Claims.lean ====
section
/-!
DEFINITION. What the operations of a track may use: what the plan that their tussock works for claims (spec/05_isa_control.md R134, R141, R143,
R144, R146, R149, spec/06_plans.md R155). The checker rejects every other use, so that no track in force holds one.
-/
namespace Sys2Proof.Machine

/-- The outputs of an emit, as 1024·OCLS + index (R130, R144). -/
def emitKeys : Instr → List Nat
  | .xemit c ocls _ _ index cnt => (List.range (cnt.toNat + 1)).map (fun j => 1024 * ocls.toNat + index.toNat + c.rep * (cnt.toNat + 1) + j)
  | _ => []

/-- Whether a plan claims an output. -/
def planClaims (p : Plan) (ocls i : Nat) : Bool := p.outputs.any (fun o => decide (o.1 = ocls ∧ o.2.1 ≤ i ∧ i < o.2.1 + o.2.2))

/-- Whether a plan claims a CAN object. -/
def planClaimsObj (p : Plan) (b m : Nat) : Bool := p.canObjs.any (fun o => decide (o.1 = b ∧ o.2.1 ≤ m ∧ m < o.2.1 + o.2.2))

/-- Whether a plan claims a sluice, and it is not its completion sluice, which the frame sequencer arms (R134, R141). -/
def planSluice (p : Plan) (slu : Nat) : Bool := (homeOf p slu).isSome && decide (slu ≠ p.completion)

/-- Whether a plan claims a stream. -/
def planStream (p : Plan) (n : Nat) : Bool := p.streams.any (fun r => decide (r.1 ≤ n ∧ n < r.1 + r.2))

/-- Whether an operation uses only what a plan claims: sluices, streams, outputs, CAN objects configured for transmit, and, in the domain
role, ports. -/
def planUse (p : Plan) (transmits : Nat → Nat → Bool) (i : Instr) : Bool :=
  match i with
  | .xarm _ n _ _ | .xsig _ n | .xwait _ n _ => planSluice p n.toNat
  | .mxrd _ b | .mxwr _ b | .mhrd _ b | .mhwr _ b => planSluice p b.slu.toNat
  | .xing c n cls _ index cnt =>
    planSluice p n.toNat && (decide (cls.toNat ≠ 1) ||
      (List.range (cnt.toNat + 1)).all (fun j => planStream p (index.toNat + c.rep * (cnt.toNat + 1) + j)))
  | .xemit .. => (emitKeys i).all (fun k => planClaims p (k / 1024) (k % 1024))
  | .xcanq _ _ bus obj _ => planClaimsObj p bus.toNat obj.toNat && transmits bus.toNat obj.toNat
  | .xsnd _ n _ pmask _ => decide (p.role = .domain) && planSluice p n.toNat && decide (pmask.toNat &&& p.ports = pmask.toNat)
  | .xrcv _ n _ port _ => decide (p.role = .domain) && planSluice p n.toNat && bitAt p.ports port.toNat
  | _ => true

/-- Whether a CAN object is configured for transmit (R146). -/
def State.transmits (s : State) (bus obj : Nat) : Bool := decide (s.get F.fbMoCfg_DIR [bus, obj] = 1)

/-- Whether the plan that an issue works for claims what the operation uses. -/
def State.useMay (s : State) (c : Iss) (i : Instr) : Bool := (s.planOf c.tus c.run).all (fun p => planUse p s.transmits i)

/-- Whether an ingest lies in the frame section in which its run starts, and not before its class can be read (R142, R143). -/
def State.ingestMay (s : State) (c : Iss) (cls : Nat) : Bool :=
  decide (c.run = s.work) && (decide (cls ≤ 1) || decide (clocksIn (s.get F.plnLadderStat_RUNG []) 1000 ≤ c.clk))

end Sys2Proof.Machine
end

