-- ==== Sys2Proof/Machine/Sluice.lean ====
section
/-!
DEFINITION. Sluices: arming, signals, waits, slip and bounds (spec/05_isa_control.md R134 to R141).
-/
namespace Sys2Proof.Machine

/-- Codes of STATUS (Table 5.6). -/
def sluIdle : Nat := 0
def sluPending : Nat := 1
def sluMet : Nat := 2
def sluOverdue : Nat := 3
def sluAbsorbed : Nat := 4

/-- Arms a sluice (R132, R136): COUNT 0, TARGET and BOUND set, PENDING, SLIP 0. -/
def State.arm (s : State) (slu target bound : Nat) : State :=
  let s : State := { s with fab := { s.fab with relAt := Tbl.del s.fab.relAt slu } }
  ((((s.set F.slu_COUNT [slu] 0).set F.slu_TARGET [slu] target).set F.slu_BOUND [slu] bound).set F.slu_STATUS [slu]
    sluPending).set F.slu_SLIP [slu] 0

/-- An arming reaches its home; any other message changes nothing here. -/
def State.takeArm (s : State) (m : Msg) : State :=
  match m.kind with
  | .arm target bound => s.arm m.slu target bound
  | _ => s

/-- Whether a message is an arming. -/
def Msg.arms (m : Msg) : Bool := match m.kind with | .arm _ _ => true | _ => false

/-- The armings in flight that a test selects take effect, in order (R132). -/
def State.landArms (s : State) (sel : Msg → Bool) : State :=
  (s.fab.msgs.filter (fun m => m.arms && sel m)).foldl State.takeArm
    { s with fab := { s.fab with msgs := s.fab.msgs.filter (fun m => !(m.arms && sel m)) } }

/-- The armings of a sluice that have reached its home by a clock. -/
def State.landArm (s : State) (slu clk : Nat) : State := s.landArms (fun m => decide (m.slu = slu ∧ m.at_ ≤ clk))

/-- A signal reaches a sluice's home (R136). -/
def State.count (s : State) (slu : Nat) : State :=
  let st := s.get F.slu_STATUS [slu]
  let s := s.bump F.slu_COUNT [slu] 1
  if st = sluPending then
    if s.get F.slu_TARGET [slu] ≤ s.get F.slu_COUNT [slu] then s.set F.slu_STATUS [slu] sluMet else s
  else if st = sluAbsorbed then s
  else s.bump F.obsSlu_STRAY [] 1

/-- The clock at which the release of a sluice reaches a tussock (R137): 1 + h after the count that released it; 0 for one that no count of this
frame released. -/
def State.releaseAt (s : State) (tus slu : Nat) : Nat :=
  match Tbl.find s.fab.relAt slu with
  | some k => k + 1 + meshHops (s.homeOfSluice slu) (hummockOf tus)
  | none => 0

/-- When the bundle after a wait issues if the release reaches the tussock at clock a (R138): r = max(P, a, c_w + σ0 + 1). -/
def Wait.resumes (w : Wait) (a : Nat) : Nat := max w.planned (max a w.next)

/-- A wait's slip is recorded in SLIP, in units of 16 clocks rounded up (Table 5.6, R138, R139). -/
def State.noteSlip (s : State) (slu slip : Nat) : State := s.set F.slu_SLIP [slu] (max (s.get F.slu_SLIP [slu]) (min 0xFF ((slip + 15) / 16)))

/-- A wait ends at its bound, clock P + B (R139): the sluice becomes OVERDUE, the event is counted for its partition and tussock, the wait's
slip B is recorded, and the tussock issues nothing more in the frame. -/
def State.waitOverdue (s : State) (tus : Nat) (w : Wait) : State :=
  let t := s.tus tus
  let s := s.setTus tus { t with wait := none, stopped := true, overdue := min (t.overdue + 1) 0xFFFFFFFF }
  ((s.set F.slu_STATUS [w.slu] sluOverdue).noteSlip w.slu w.bound).bump F.obsPart0_OVERDUE [s.get F.slu_OWNER [w.slu]] 1

/-- A release reaches a waiting tussock at clock a (R138): the next bundle issues at r with slip r − P, unless r exceeds P + B (R139). -/
def State.release (s : State) (tus : Nat) (w : Wait) (a : Nat) : State :=
  let r := w.resumes a
  if w.planned + w.bound < r then s.waitOverdue tus w
  else
    let slip := r - w.planned
    let t := s.tus tus
    (s.setTus tus { t with wait := none, slip := slip, maxSlip := max t.maxSlip slip }).noteSlip w.slu slip

/-- The first message in flight to a sluice that a kind names and that has reached its home by a clock. -/
def State.arrived (s : State) (kind : MsgKind) (slu clk : Nat) : Option Msg :=
  s.fab.msgs.find? (fun m => decide (m.kind = kind ∧ m.slu = slu ∧ m.at_ ≤ clk))

/-- A message leaves the network, and the armings that came before it have taken effect. -/
def State.take (s : State) (m : Msg) : State := { s with fab := { s.fab with msgs := s.fab.msgs.erase m } }.landArm m.slu m.at_

/-- SLUICE_SIGNAL (R136, R137): a signal in flight that has reached its home by the clock is counted there. -/
def execSluiceSignal (x : SluiceClk) (s : State) : Host.Outcome State Fault Refusal :=
  let s := s.quiet
  .next (match s.arrived .signal x.slu x.clk with
    | some m => ((s.take m).count x.slu).noteRelease x.slu m.at_
    | none => s)

/-- ABSORBED_SIGNAL (R136): the same for an absorbed one. -/
def execAbsorbedSignal (x : SluiceClk) (s : State) : Host.Outcome State Fault Refusal :=
  let s := s.quiet
  .next (match s.arrived .absorbed x.slu x.clk with
    | some m => ((s.take m).absorbSignal x.slu).noteRelease x.slu m.at_
    | none => s)

/-- SLUICE_RELEASE (R138): no effect on a tussock that does not wait, or that no release has reached by the clock. -/
def execSluiceRelease (tus : Fin 256) (clk : Nat) (s : State) : Host.Outcome State Fault Refusal :=
  let s := s.quiet
  match (s.tus tus).wait with
  | some w =>
    .next (if s.released w.slu ∧ s.releaseAt tus w.slu ≤ clk then s.release tus w (s.releaseAt tus w.slu) else s)
  | none => .next s

/-- WAIT_OVERDUE (R139): at clock P + B, where no release has reached the tussock by then. -/
def execWaitOverdue (x : TusClk) (s : State) : Host.Outcome State Fault Refusal :=
  let s := s.quiet
  match (s.tus x.tus).wait with
  | some w =>
    .next (if x.clk < w.planned + w.bound ∨ (s.released w.slu ∧ w.resumes (s.releaseAt x.tus w.slu) ≤ w.planned + w.bound) then s else s.waitOverdue x.tus w)
  | none => .next s

/-- XARM (R132), never masked: it reaches the home 2 + h clocks after its issue; BOUND is in units of 16 clocks. -/
def execXarm (c : Iss) (slu : BitVec 13) (target : BitVec 16) (bound : BitVec 11) (s : State) :
    Host.Outcome State Fault Refusal :=
  onIssue (xarmOk c target && s.useMay c (.xarm c slu target bound)) c s (fun s _ _ =>
    some (s.carry ⟨s.reaches c.clk (hummockOf c.tus) slu.toNat, slu.toNat, .arm target.toNat (16 * bound.toNat)⟩))

/-- XSIG (R137), never masked: one signal a repeat. -/
def execXsig (c : Iss) (slu : BitVec 13) (s : State) : Host.Outcome State Fault Refusal :=
  onIssue (s.useMay c (.xsig c slu)) c s (fun s _ _ => some (s.signal c.clk (hummockOf c.tus) slu.toNat))

/-- XWAIT (R138), never masked: with σ0 the slip in force, P = c_w + 1 + H for the planned clock c_w = clock − σ0. A sluice
already released ends the wait at once. -/
def execXwait (c : Iss) (slu : BitVec 13) (hold : BitVec 16) (s : State) : Host.Outcome State Fault Refusal :=
  onIssue (singleOk c && s.useMay c (.xwait c slu hold)) c s (fun s t _ =>
    let s := s.landArm slu.toNat c.clk
    let w : Wait := ⟨slu.toNat, c.clk - t.slip + 1 + hold.toNat, c.clk + 1, s.get F.slu_BOUND [slu.toNat]⟩
    some (if s.released slu.toNat then s.release c.tus w (s.releaseAt c.tus slu.toNat) else s.setTus c.tus { t with wait := some w }))

/-- XEND (R141), never masked: signals the partition's completion sluice and ends the frame section. -/
def execXend (c : Iss) (s : State) : Host.Outcome State Fault Refusal :=
  onIssue (singleOk c) c s (fun s t _ =>
    let s := s.setTus c.tus { t with ended := true, endClk := c.clk }
    some (match s.planOf c.tus c.run with
      | some p => s.signal c.clk (hummockOf c.tus) p.completion
      | none => s))

end Sys2Proof.Machine
end

