-- ==== Sys2Proof/Machine/Tensor.lean ====
section
/-!
DEFINITION. The T slot (spec/04_isa_compute.md R108 to R112, spec/03_fabric.md R67, R86).
-/
namespace Sys2Proof.Machine

/-- Element i of width w of a register (R108). -/
def elem (x w i : Nat) : Nat := bits x (w * i) w

/-- Assembles elements of width w, element 0 lowest. -/
def ofElems (w : Nat) : List Nat → Nat
  | [] => 0
  | e :: r => e % 2 ^ w + 2 ^ w * ofElems w r

/-- The accumulator a TMMA's operand format feeds (Table 4.6). -/
def tmmaAcc (f : Nat) : Fmt :=
  if f = 0 then Fmt.fp64 else if f = 9 then Fmt.q32 else if f = 7 ∨ f = 8 then Fmt.int32 else Fmt.fp32

/-- K_op of Table 4.6. -/
def tmmaK (f : Nat) : Nat :=
  match f with
  | 2 => 2
  | 3 => 2
  | 4 => 4
  | 5 => 4
  | 6 => 8
  | 7 => 4
  | 8 => 2
  | _ => 1

/-- Products that the tensor unit adds in one clock (Table 3.1). -/
def tmmaPerClock (f : Nat) : Nat := if f = 8 then 1 else tmmaK f

/-- An operand register, or the even–odd pair of FP64, at this repeat (R102). -/
def tmmaOperand (t : Tus) (c : Iss) (a : TArg) (v : Nat) : Nat :=
  if a.fmta.toNat = 0 then
    let r := if a.av then v + 2 * c.rep else v
    t.vreg r + 2 ^ 512 * t.vreg (r + 1)
  else t.vreg (if a.av then v + c.rep else v)

/-- An element of A or B as a number: code, register contents, index, and the BS4 scale. -/
def tmmaElem (code x i scale : Nat) : Num :=
  if code = 6 then decodeBs4 (elem x 4 i) scale
  else match Fmt.ofCode code with
    | some f => decodeNum f (elem x f.w i)
    | none => .nan

/-- Splits a list into pieces of n. -/
def chunks {α : Type} (n : Nat) : Nat → List α → List (List α)
  | 0, _ => []
  | fuel + 1, l => if l.isEmpty then [] else l.take n :: chunks n fuel (l.drop n)

/-- Accumulates products onto an accumulator element, rounding or saturating once per clock (R67): bits and flags. -/
def accumulate (f : Fmt) (inf : Bool) (acc : Nat) (clocks : List (List Num)) : Nat × Nat :=
  clocks.foldl (fun x ps =>
    let r := encodeNum f inf .rne (ps.foldl Num.add (decodeNum f x.1))
    (r.1, x.2 ||| r.2)) (acc, 0)

/-- The accumulator element c of row r of a tile, or of an even–odd tile pair for the 64-bit kinds (R86, R108). -/
def tileElem (rd : Nat → Nat) (pr : Bool) (tile r c : Nat) : Nat :=
  let lo := elem (rd (16 * tile + r)) 32 c
  if pr then lo + 2 ^ 32 * elem (rd (16 * (tile + 1) + r)) 32 c else lo

/-- Puts a row of a tile, or of a pair, in flight; `mma` says whether a TMMA made it. -/
def Tus.landRow (t : Tus) (clk : Nat) (pr mma : Bool) (tile r : Nat) (es : List Nat) : Tus :=
  let t := t.land clk (.tile (16 * tile + r) (ofElems 32 (es.map (fun e => bits e 0 32))) (ones 512) mma)
  if pr then t.land clk (.tile (16 * (tile + 1) + r) (ofElems 32 (es.map (fun e => bits e 32 32))) (ones 512) mma) else t

/-- The flags a TMMA may raise (R112). -/
def tmmaFlags (f : Fmt) (fl : Nat) : Nat := if f.isFloat then fl &&& (flNan + flOvf + flUnf + flInx) else fl &&& flSat

/-- One row of a TMMA: its elements with their flags. -/
def tmmaRow (t : Tus) (c : Iss) (a : TArg) (inf : Bool) (r : Nat) : List (Nat × Nat) :=
  let fa := a.fmta.toNat
  let k := tmmaK fa
  let acc := tmmaAcc fa
  let x := tmmaOperand t c a a.va.toNat
  let y := tmmaOperand t c a a.vb.toNat
  let sc := t.vreg a.vs.toNat
  (List.range 16).map (fun col =>
    let old := if a.z ∧ c.rep = 0 then 0 else tileElem t.chainRow (decide (acc.w = 64)) a.td.toNat r col
    let ps := (List.range k).map (fun i =>
      (tmmaElem fa x (r * k + i) (elem sc 8 r)).mul (tmmaElem a.fmtb.toNat y (16 * i + col) (elem sc 8 (16 + col))))
    accumulate acc inf old (chunks (tmmaPerClock fa) k ps))

/-- T ← (Z ? 0 : T) + A·B (TMMA, R67, R108, R109, R112). -/
def tmma (t : Tus) (m : Nat) (c : Iss) (a : TArg) (inf : Bool) : Tus :=
  let acc := tmmaAcc a.fmta.toNat
  (bitList m 16).foldl (fun (t' : Tus) r =>
    let es := tmmaRow t c a inf r
    (t'.landRow (c.clk + 8) (decide (acc.w = 64)) true a.td.toNat r (es.map Prod.fst)).raise (c.clk + 8)
      (tmmaFlags acc (flagsOr (es.map Prod.snd)))) t

/-- TD ← 0 in the rows of the mask (TZERO). -/
def tzero (t : Tus) (m : Nat) (c : Iss) (a : TArg) : Tus :=
  (bitList m 16).foldl (fun (t' : Tus) r => t'.land (c.clk + 1) (.tile (16 * a.td.toNat + r) 0 (ones 512) false)) t

/-- The accumulator kind of TADD and TMOV. -/
def accFmt (f : Nat) : Fmt :=
  if f = 0 then Fmt.fp64 else if f = 1 then Fmt.fp32 else if f = 0xA then Fmt.int32 else Fmt.q32

/-- TD ← TD + TS in the rows of the mask (TADD). -/
def tadd (t : Tus) (m : Nat) (c : Iss) (a : TArg) (inf : Bool) : Tus :=
  let f := accFmt a.fmta.toNat
  let pr := decide (f.w = 64)
  (bitList m 16).foldl (fun (t' : Tus) r =>
    let es := (List.range 16).map (fun col =>
      encodeNum f inf .rne ((decodeNum f (tileElem t.row pr a.td.toNat r col)).add (decodeNum f (tileElem t.row pr a.ts.toNat r col))))
    (t'.landRow (c.clk + 4) pr false a.td.toNat r (es.map Prod.fst)).raise (c.clk + 4) (flagsOr (es.map Prod.snd))) t

/-- TD ← TS in the rows of the mask (TMOV). -/
def tmov (t : Tus) (m : Nat) (c : Iss) (a : TArg) : Tus :=
  let pr := decide ((accFmt a.fmta.toNat).w = 64)
  (bitList m 16).foldl (fun (t' : Tus) r =>
    t'.landRow (c.clk + 2) pr false a.td.toNat r ((List.range 16).map (fun col => tileElem t.row pr a.ts.toNat r col))) t

/-- TMMA (R111). -/
def execTmma (c : Iss) (a : TArg) (s : State) : Host.Outcome State Fault Refusal :=
  onTus (tmmaOk c a) c s (fun t m => tmma t m c a (s.infMode c))

/-- TZERO (R111). -/
def execTzero (c : Iss) (a : TArg) (s : State) : Host.Outcome State Fault Refusal :=
  onTus (tzeroOk a) c s (fun t m => tzero t m c a)

/-- TADD (R111). -/
def execTadd (c : Iss) (a : TArg) (s : State) : Host.Outcome State Fault Refusal :=
  onTus (taccOk a) c s (fun t m => tadd t m c a (s.infMode c))

/-- TMOV (R111). -/
def execTmov (c : Iss) (a : TArg) (s : State) : Host.Outcome State Fault Refusal :=
  onTus (taccOk a) c s (fun t m => tmov t m c a)

end Sys2Proof.Machine
end

