-- ==== Sys2Proof/Machine/Vector.lean ====
section
/-!
DEFINITION. The V slot (spec/04_isa_compute.md R113 to R116; arithmetic by spec/03_fabric.md R68, R85, R88 to R90).
-/
namespace Sys2Proof.Machine

/-- A register field at this repeat (R102). -/
def regAt (r : Nat) (adv : Bool) (rep : Nat) : Nat := if adv then r + rep else r

/-- The lane type of a V-slot operation; the checker accepts no other code. -/
def vfmt (a : VArg) : Fmt := (Fmt.ofCode a.fmt.toNat).getD Fmt.fp32

/-- Source registers of an operation. -/
def vA (t : Tus) (c : Iss) (a : VArg) : Nat := t.vreg (regAt a.va.toNat (advA a) c.rep)
def vB (t : Tus) (c : Iss) (a : VArg) : Nat := t.vreg (regAt a.vb.toNat (advB a) c.rep)
def vC (t : Tus) (c : Iss) (a : VArg) : Nat := t.vreg (regAt a.vc.toNat (advC a) c.rep)
/-- The destination register. -/
def vD (c : Iss) (a : VArg) : Nat := regAt a.vd.toNat (advD a) c.rep

/-- The bit mask of the enabled lanes of width w among n (Table 4.3). -/
def laneMask (w n m : Nat) : Nat := ofElems w ((List.range n).map (fun i => if bitAt m i then ones w else 0))

/-- The flags of the enabled lanes (R104). -/
def laneFlags (m : Nat) (res : List (Nat × Nat)) : Nat :=
  flagsOr (res.zipIdx.map (fun e => if bitAt m e.2 then e.1.2 else 0))

/-- Lands lane results, with their flags, in a register. -/
def Tus.landLanes (t : Tus) (clk vd w m : Nat) (res : List (Nat × Nat)) : Tus :=
  (t.land clk (.v vd (ofElems w (res.map Prod.fst)) (laneMask w res.length m))).raise clk (laneFlags m res)

/-- Latency, with the FP64 figure where it differs (Table 4.10). -/
def vlat (a : VArg) (lat lat64 : Nat) : Nat := if a.fmt.toNat = 0 then lat64 else lat

/-- A lane-wise operation: per lane, the numbers in a, b and c of the lane give the lane's bits and flags. -/
def vlanes (t : Tus) (m : Nat) (c : Iss) (a : VArg) (lat : Nat) (op : Nat → Num → Num → Num → Nat × Nat) : Tus :=
  let f := vfmt a
  let x := vA t c a
  let y := vB t c a
  let z := vC t c a
  t.landLanes (c.clk + lat) (vD c a) f.w m ((List.range f.lanes).map (fun i =>
    op i (decodeNum f (elem x f.w i)) (decodeNum f (elem y f.w i)) (decodeNum f (elem z f.w i))))

/-- Division (R90): bits and flags of x / y in a format. The spec lists neither infinity / infinity, which gives NaN and NAN here, nor
finite / infinity, which gives 0 with the quotient's sign (DESIGN CHOICE, notes/assumptions/132.md). -/
def divide (f : Fmt) (inf : Bool) (x y : Num) : Nat × Nat :=
  match x, y with
  | .nan, _ => encodeNum f inf .rne .nan
  | _, .nan => encodeNum f inf .rne .nan
  | .inf _, .inf _ => encodeNum f inf .rne .nan
  | .inf s, .fin s' m' _ _ =>
    if m' = 0 then (b2n (xor s s') * 2 ^ (f.w - 1) + (if inf && f.hasInf then f.infEnc else f.maxEnc), flDz)
    else encodeNum f inf .rne (.inf (xor s s'))
  | x, .inf s => encodeNum f inf .rne (.fin (xor x.neg? s) 0 0 false)
  | .fin s m e _, .fin s' m' e' _ =>
    if m' = 0 then
      if f.isFloat then
        if m = 0 then (f.nanEnc, flNan)
        else (b2n (xor s s') * 2 ^ (f.w - 1) + (if inf && f.hasInf then f.infEnc else f.maxEnc), flDz)
      else if m = 0 then (0, flDz)
      else (unsigned f.w (if s then -(2 ^ (f.w - 1) : Int) else 2 ^ (f.w - 1) - 1), flDz)
    else if m = 0 then encodeNum f inf .rne (.fin (xor s s') 0 0 false)
    else encodeNum f inf .rne (Num.quot (xor s s') m e m' e')

/-- Square root (R90). -/
def sqrtNum : Num → Num
  | .nan => .nan
  | .inf s => if s then .nan else .inf false
  | .fin s m e _ => if m = 0 then .fin s 0 0 false else if s then .nan else Num.root m e

/-- Reciprocal square root: 1/0 for 0, NaN for a negative number. -/
def rsqrt (f : Fmt) (inf : Bool) (x : Num) : Nat × Nat :=
  match x with
  | .fin s m e _ =>
    if m = 0 then divide f inf .one x
    else if s then encodeNum f inf .rne .nan
    else
      match Num.root m e with
      | .fin _ m' e' _ => encodeNum f inf .rne (match Num.quot false 1 0 m' e' with | .fin s q g _ => .fin s q g true | n => n)
      | n => encodeNum f inf .rne n
  | .inf s => encodeNum f inf .rne (if s then .nan else .zero)
  | .nan => encodeNum f inf .rne .nan

/-- log2: NaN for a negative number (R90); for 0 the spec states no result and the bits are free. -/
def log2Num (f : Fmt) (inf : Bool) (fr : Nat) (x : Num) : Nat × Nat :=
  match x with
  | .nan => encodeNum f inf .rne .nan
  | .inf s => encodeNum f inf .rne (if s then .nan else .inf false)
  | .fin s m e _ =>
    if m = 0 then (fr % 2 ^ f.w, fr / 2 ^ f.w % 64) else if s then encodeNum f inf .rne .nan else encodeNum f inf .rne (Num.log2 m e)

/-- The result of VRCP to VSIG: correctly rounded in BF16 and FP16; in FP32 up to two units in the last place beside the
correctly rounded result, by a free value (R68), with the INX and UNF of the value delivered (R90). -/
def within2 (f : Fmt) (fr : Nat) (r : Nat × Nat) : Nat × Nat :=
  let mag := bits r.1 0 31
  if f.w ≠ 32 ∨ f.maxEnc < mag ∨ r.2 &&& (flDz + flOvf) ≠ 0 then r
  else
    let d : Int := (fr % 5 : Nat) - 2
    let mag' := (clampI 0 f.maxEnc ((mag : Int) + d)).toNat
    (r.1 - mag + mag', if mag' = mag then r.2 else (r.2 - (r.2 &&& (flInx + flUnf))) ||| (flInx + if mag' < 2 ^ 23 then flUnf else 0))

/-- Encodes with nearest-even rounding. -/
def enc (f : Fmt) (inf : Bool) (n : Num) : Nat × Nat := encodeNum f inf .rne n

/-- Multiplies a number by 2^k. -/
def Num.scale (n : Num) (k : Int) : Num :=
  match n with
  | .fin s m e st => .fin s m (e + k) st
  | n => n

/-- One arithmetic lane operation with its check and latency. -/
def vop (ok : Bool) (c : Iss) (a : VArg) (lat : Nat) (op : Fmt → Bool → Num → Num → Num → Nat × Nat) (s : State) :
    Host.Outcome State Fault Refusal :=
  onTus ok c s (fun t m => vlanes t m c a lat (fun _ => op (vfmt a) (s.infMode c)))

/-- One function operation (VRCP to VSIG), which uses one free value per lane. -/
def vfun (c : Iss) (a : VArg) (op : Fmt → Bool → Nat → Num → Nat × Nat) (s : State) : Host.Outcome State Fault Refusal :=
  onIssue (vfunOk c a) c s (fun s t m =>
    let fr (i : Nat) := Config.freeValue (s.free + i)
    let t := vlanes t m c a 8 (fun i x _ _ =>
      let r := op (vfmt a) (s.infMode c) (fr i / 8) x
      within2 (vfmt a) (fr i % 8) r)
    some { (s.setTus c.tus t) with free := s.free + 64 })

/-- A bitwise operation on the enabled lanes, without flags. -/
def vbit (ok : Bool) (c : Iss) (a : VArg) (op : Nat → Nat → Nat) (s : State) : Host.Outcome State Fault Refusal :=
  onTus ok c s (fun t m =>
    let f := vfmt a
    t.land (c.clk + 1) (.v (vD c a) (op (vA t c a) (vB t c a)) (laneMask f.w f.lanes m)))

/-- VCVT between lane types (R116). -/
def vcvtLanes (t : Tus) (m : Nat) (c : Iss) (a : VArg) (inf : Bool) (fr : Nat → Nat) : Tus :=
  let f := vfmt a
  let g := (Fmt.ofCode (a.fn.toNat / 8)).getD Fmt.fp32
  let part := a.fn.toNat % 8
  let n := 512 / max f.w g.w
  let x := vA t c a
  let rnd (i : Nat) := if a.rm then Rnd.sr (fr i) else Rnd.rne
  let base := if f.w < g.w then part * n else 0
  let res := (List.range n).map (fun i => encodeNum g inf (rnd i) (decodeNum f (elem x f.w (base + i))))
  let lo := if g.w < f.w then part * n * g.w else 0
  (t.land (c.clk + 3) (.v (vD c a) (ofElems g.w (res.map Prod.fst) * 2 ^ lo) (laneMask g.w n m * 2 ^ lo))).raise (c.clk + 3)
    (laneFlags m res)

/-- VCVT to BS4 (R85, R116): the block's scale is of all 32 values; the scale byte is written unless every lane is masked. -/
def vcvtToBs4 (t : Tus) (m : Nat) (c : Iss) (a : VArg) (fr : Nat → Nat) : Tus :=
  let f := vfmt a
  let part := a.fn.toNat % 8
  let x := vA t c a
  let ns := (List.range 32).map (fun i => decodeNum f (elem x 16 i))
  let (sc, fl, low) := bs4Scale ns
  let zero := ns.all Num.isZero
  let res := ns.zipIdx.map (fun e =>
    if zero then (0, 0)
    else
      let r := encodeBs4 (if a.rm then .sr (fr e.2) else .rne) sc low e.1
      if e.1.isNan then (fr e.2 % 16, r.2) else r)
  let some_ := decide (m % 2 ^ 32 ≠ 0)
  let t := t.land (c.clk + 4) (.v (vD c a) (ofElems 4 (res.map Prod.fst) * 2 ^ (128 * part)) (laneMask 4 32 m * 2 ^ (128 * part)))
  let t := if some_ then t.land (c.clk + 4) (.v (regAt a.vb.toNat (advB a) c.rep) (sc * 2 ^ (8 * part)) (0xFF * 2 ^ (8 * part))) else t
  t.raise (c.clk + 4) (laneFlags m res ||| (if some_ then fl else 0))

/-- VCVT from BS4 (R84, R116). -/
def vcvtFromBs4 (t : Tus) (m : Nat) (c : Iss) (a : VArg) (inf : Bool) : Tus :=
  let g := (Fmt.ofCode (a.fn.toNat / 8)).getD Fmt.bf16
  let part := a.fn.toNat % 8
  let x := vA t c a
  let sc := elem (vB t c a) 8 part
  t.landLanes (c.clk + 4) (vD c a) 16 m ((List.range 32).map (fun i => encodeNum g inf .rne (decodeBs4 (elem x 4 (32 * part + i)) sc)))

/-- Pairwise tree over a list (R115): neighbours first. -/
def pairUp (op : Nat × Nat → Nat × Nat → Nat × Nat) : List (Nat × Nat) → List (Nat × Nat)
  | x :: y :: r => op x y :: pairUp op r
  | l => l

/-- Repeats `pairUp` until one element is left. -/
def pairTree (op : Nat × Nat → Nat × Nat → Nat × Nat) : Nat → List (Nat × Nat) → Nat × Nat
  | 0, l => l.headD (0, 0)
  | fuel + 1, l => if l.length ≤ 1 then l.headD (0, 0) else pairTree op fuel (pairUp op l)

/-- VRED: each node of the tree is a result in the lane type. -/
def vred (t : Tus) (m : Nat) (c : Iss) (a : VArg) (inf : Bool) : Tus :=
  let f := vfmt a
  let x := vA t c a
  let op (p q : Nat × Nat) : Nat × Nat :=
    let u := decodeNum f p.1
    let v := decodeNum f q.1
    let r := enc f inf (match a.fn.toNat % 4 with | 0 => u.add v | 1 => u.minimum v | _ => u.maximum v)
    (r.1, r.2 ||| p.2 ||| q.2)
  let r := pairTree op 7 ((List.range f.lanes).map (fun i => (elem x f.w i, 0)))
  if bitAt m 0 then (t.land (c.clk + 6) (.v (vD c a) r.1 (ones 512))).raise (c.clk + 6) r.2 else t

/-- The lane that VPERM puts at lane i (R115): the source's bits, free where m names no lane of a. -/
def permLane (w n pattern mm x y i fr : Nat) : Nat :=
  match pattern with
  | 0 => elem x w (n - 1 - i)
  | 1 => elem x w ((i + mm) % n)
  | 2 => elem (if i % 2 = 0 then x else y) w (i / 2)
  | 3 => elem (if i % 2 = 0 then x else y) w (n / 2 + i / 2)
  | _ => if mm < n then elem x w mm else fr % 2 ^ w

/-- VTRD and VTWR: the tile and row named by FN; the row advances with AVM[7]. -/
def vtile (a : VArg) : Nat := a.fn.toNat / 16
def vrow (c : Iss) (a : VArg) : Nat := regAt (a.fn.toNat % 16) (advC a) c.rep

/-- VTRD: a tile row, or the row of a tile pair into a V pair. Of 16 elements of a pair M[15:8] mask those of the odd V register, as M[15:0] does
for VTWR (DESIGN CHOICE, notes/assumptions/138.md). -/
def vtrd (t : Tus) (m : Nat) (c : Iss) (a : VArg) : Tus :=
  let r := vrow c a
  if pairCode a.fmt.toNat then
    let vd := if advD a then a.vd.toNat + 2 * c.rep else a.vd.toNat
    let es := (List.range 16).map (fun col => tileElem t.row true (vtile a) r col)
    let t := t.land (c.clk + 2) (.v vd (ofElems 64 (es.take 8)) (laneMask 64 8 m))
    t.land (c.clk + 2) (.v (vd + 1) (ofElems 64 (es.drop 8)) (laneMask 64 8 (m / 256)))
  else t.land (c.clk + 2) (.v (vD c a) (t.row (16 * vtile a + r)) (laneMask 32 16 m))

/-- VTWR: writes the enabled elements of a tile row, or of the row of a tile pair. -/
def vtwr (t : Tus) (m : Nat) (c : Iss) (a : VArg) : Tus :=
  let r := vrow c a
  let i := 16 * vtile a + r
  let k := laneMask 32 16 m
  if pairCode a.fmt.toNat then
    let va := if advA a then a.va.toNat + 2 * c.rep else a.va.toNat
    let es := (List.range 16).map (fun col => if col < 8 then elem (t.vreg va) 64 col else elem (t.vreg (va + 1)) 64 (col - 8))
    let t' := t.land (c.clk + 2) (.tile i (ofElems 32 (es.map (fun e => bits e 0 32))) k false)
    t'.land (c.clk + 2) (.tile (i + 16) (ofElems 32 (es.map (fun e => bits e 32 32))) k false)
  else t.land (c.clk + 2) (.tile i (vA t c a) k false)

/-- VADD (R114). -/
def execVadd (c : Iss) (a : VArg) (s : State) : Host.Outcome State Fault Refusal :=
  vop (varithOk c a 2) c a (vlat a 3 4) (fun f inf x y _ => enc f inf (x.add y)) s

/-- VSUB (R114). -/
def execVsub (c : Iss) (a : VArg) (s : State) : Host.Outcome State Fault Refusal :=
  vop (varithOk c a 2) c a (vlat a 3 4) (fun f inf x y _ => enc f inf (x.add y.opp)) s

/-- VMUL (R114). -/
def execVmul (c : Iss) (a : VArg) (s : State) : Host.Outcome State Fault Refusal :=
  vop (varithOk c a 2) c a (vlat a 4 6) (fun f inf x y _ => enc f inf (x.mul y)) s

/-- VFMA: one rounding (R114). -/
def execVfma (c : Iss) (a : VArg) (s : State) : Host.Outcome State Fault Refusal :=
  vop (varithOk c a 3) c a (vlat a 4 6) (fun f inf x y z => enc f inf ((x.mul y).add z)) s

/-- VMIN (R114). -/
def execVmin (c : Iss) (a : VArg) (s : State) : Host.Outcome State Fault Refusal :=
  vop (varithOk c a 2) c a 3 (fun f inf x y _ => enc f inf (x.minimum y)) s

/-- VMAX (R114). -/
def execVmax (c : Iss) (a : VArg) (s : State) : Host.Outcome State Fault Refusal :=
  vop (varithOk c a 2) c a 3 (fun f inf x y _ => enc f inf (x.maximum y)) s

/-- VABS (R114). -/
def execVabs (c : Iss) (a : VArg) (s : State) : Host.Outcome State Fault Refusal :=
  vop (varithOk c a 1) c a 3 (fun f inf x _ _ => enc f inf x.mag) s

/-- VNEG (R114). -/
def execVneg (c : Iss) (a : VArg) (s : State) : Host.Outcome State Fault Refusal :=
  vop (varithOk c a 1) c a 3 (fun f inf x _ _ => enc f inf x.opp) s

/-- VCLMP: min(max(a, b), c) (R114). -/
def execVclmp (c : Iss) (a : VArg) (s : State) : Host.Outcome State Fault Refusal :=
  vop (varithOk c a 3) c a 3 (fun f inf x y z => enc f inf ((x.maximum y).minimum z)) s

/-- VDIV (R114). -/
def execVdiv (c : Iss) (a : VArg) (s : State) : Host.Outcome State Fault Refusal :=
  vop (vdivOk c a 2) c a (vlat a 14 22) (fun f inf x y _ => divide f inf x y) s

/-- VSQRT (R114). -/
def execVsqrt (c : Iss) (a : VArg) (s : State) : Host.Outcome State Fault Refusal :=
  vop (vdivOk c a 1) c a (vlat a 14 22) (fun f inf x _ _ => enc f inf (sqrtNum x)) s

/-- VRCP (R114). -/
def execVrcp (c : Iss) (a : VArg) (s : State) : Host.Outcome State Fault Refusal :=
  vfun c a (fun f inf _ x => divide f inf .one x) s

/-- VRSQ (R114). -/
def execVrsq (c : Iss) (a : VArg) (s : State) : Host.Outcome State Fault Refusal :=
  vfun c a (fun f inf _ x => rsqrt f inf x) s

/-- VEXP2 (R114). -/
def execVexp2 (c : Iss) (a : VArg) (s : State) : Host.Outcome State Fault Refusal :=
  vfun c a (fun f inf _ x => enc f inf x.exp2) s

/-- VLOG2 (R114). -/
def execVlog2 (c : Iss) (a : VArg) (s : State) : Host.Outcome State Fault Refusal :=
  vfun c a (fun f inf fr x => log2Num f inf fr x) s

/-- VTANH (R114). -/
def execVtanh (c : Iss) (a : VArg) (s : State) : Host.Outcome State Fault Refusal :=
  vfun c a (fun f inf _ x => enc f inf x.tanh) s

/-- VSIG (R114). -/
def execVsig (c : Iss) (a : VArg) (s : State) : Host.Outcome State Fault Refusal :=
  vfun c a (fun f inf _ x => enc f inf x.sigmoid) s

/-- VCVT (R116); each converted element may use a free value as its noise bits (R89). -/
def execVcvt (c : Iss) (a : VArg) (s : State) : Host.Outcome State Fault Refusal :=
  onIssue (vcvtOk c a) c s (fun s t m =>
    let fr (i : Nat) := Config.freeValue (s.free + i)
    let t := if a.fmt.toNat = 6 then vcvtFromBs4 t m c a (s.infMode c)
      else if a.fn.toNat / 8 = 6 then vcvtToBs4 t m c a fr
      else vcvtLanes t m c a (s.infMode c) fr
    some { (s.setTus c.tus t) with free := s.free + 64 })

/-- VCMP: the enabled lanes' bits of the predicate (R115). -/
def execVcmp (c : Iss) (a : VArg) (s : State) : Host.Outcome State Fault Refusal :=
  onTus (vcmpOk c a) c s (fun t m =>
    let f := vfmt a
    let x := vA t c a
    let y := vB t c a
    let r := (List.range f.lanes).map (fun i =>
      b2n (Num.cond (a.fn.toNat % 8) (decodeNum f (elem x f.w i)) (decodeNum f (elem y f.w i))))
    t.land (c.clk + 2) (.p (a.fn.toNat / 16 % 8) (ofElems 1 r) (m &&& ones f.lanes)))

/-- VSEL (R114). -/
def execVsel (c : Iss) (a : VArg) (s : State) : Host.Outcome State Fault Refusal :=
  onTus (varithOk c a 2) c s (fun t m =>
    let f := vfmt a
    let sel := laneMask f.w f.lanes (t.pred (a.fn.toNat / 16 % 8))
    t.land (c.clk + 1) (.v (vD c a) (merge (vB t c a) (vA t c a) sel) (laneMask f.w f.lanes m)))

/-- VAND (R114). -/
def execVand (c : Iss) (a : VArg) (s : State) : Host.Outcome State Fault Refusal := vbit (vbitOk c a 2) c a (· &&& ·) s

/-- VOR (R114). -/
def execVor (c : Iss) (a : VArg) (s : State) : Host.Outcome State Fault Refusal := vbit (vbitOk c a 2) c a (· ||| ·) s

/-- VXOR (R114). -/
def execVxor (c : Iss) (a : VArg) (s : State) : Host.Outcome State Fault Refusal := vbit (vbitOk c a 2) c a (· ^^^ ·) s

/-- VSHL: a · 2^n, saturating (R114). -/
def execVshl (c : Iss) (a : VArg) (s : State) : Host.Outcome State Fault Refusal :=
  vop (vbitOk c a 1) c a 1 (fun f inf x _ _ => enc f inf (x.scale ((a.fn.toNat % 64 : Nat) : Int))) s

/-- VSHR: a / 2^n, rounded as R88 (R114). -/
def execVshr (c : Iss) (a : VArg) (s : State) : Host.Outcome State Fault Refusal :=
  vop (vbitOk c a 1) c a 1 (fun f inf x _ _ => enc f inf (x.scale (-((a.fn.toNat % 64 : Nat) : Int)))) s

/-- VBC: the low w bits of an S register in every lane (R115). -/
def execVbc (c : Iss) (a : VArg) (s : State) : Host.Outcome State Fault Refusal :=
  onTus (vbcOk c a) c s (fun t m =>
    let f := vfmt a
    let x := bits (t.sreg (a.fn.toNat % 32)) 0 f.w
    t.land (c.clk + 2) (.v (vD c a) (ofElems f.w ((List.range f.lanes).map (fun _ => x))) (laneMask f.w f.lanes m)))

/-- VRED (R115). -/
def execVred (c : Iss) (a : VArg) (s : State) : Host.Outcome State Fault Refusal :=
  onTus (vredOk c a) c s (fun t m => vred t m c a (s.infMode c))

/-- VPERM (R115); a lane number beyond the register's lanes names no lane, and what is broadcast is free. -/
def execVperm (c : Iss) (a : VArg) (s : State) : Host.Outcome State Fault Refusal :=
  onIssue (vpermOk c a) c s (fun s t m =>
    let f := vfmt a
    let x := vA t c a
    let y := vB t c a
    let es := (List.range f.lanes).map (fun i => permLane f.w f.lanes (a.fn.toNat / 16 % 8) (a.fn.toNat % 16) x y i s.drawn)
    some (s.setTus c.tus (t.land (c.clk + 2) (.v (vD c a) (ofElems f.w es) (laneMask f.w f.lanes m)))).draw)

/-- VTRD (R115). -/
def execVtrd (c : Iss) (a : VArg) (s : State) : Host.Outcome State Fault Refusal :=
  onTus (vtileOk c a a.vd.toNat (advD a)) c s (fun t m => vtrd t m c a)

/-- VTWR (R115). -/
def execVtwr (c : Iss) (a : VArg) (s : State) : Host.Outcome State Fault Refusal :=
  onTus (vtileOk c a a.va.toNat (advA a)) c s (fun t m => vtwr t m c a)

/-- PLOG: AND, OR, XOR, AND-NOT of predicates (Table 4.10). -/
def plogOp (k x y : Nat) : Nat :=
  match k % 4 with
  | 0 => x &&& y
  | 1 => x ||| y
  | 2 => x ^^^ y
  | _ => x &&& (ones 64 ^^^ y)

/-- PLOG (R114). -/
def execPlog (c : Iss) (a : VArg) (s : State) : Host.Outcome State Fault Refusal :=
  onTus (plogOk a) c s (fun t m =>
    if bitAt m 0 then
      t.land (c.clk + 1) (.p (a.vd.toNat % 8) (plogOp a.fn.toNat (t.pred (a.va.toNat % 8)) (t.pred (a.vb.toNat % 8))) (ones 64))
    else t)

/-- PSET (R114). -/
def execPset (c : Iss) (a : VArg) (s : State) : Host.Outcome State Fault Refusal :=
  onTus (psetOk a) c s (fun t m => if bitAt m 0 then t.land (c.clk + 1) (.p (a.vd.toNat % 8) (ones a.fn.toNat) (ones 64)) else t)

end Sys2Proof.Machine
end

