-- ==== Sys2Proof/Machine/Exchange.lean ====
section
/-!
DEFINITION. The X slot beside sluices: ingest, emit, CAN transmits, annotations, clock reads and the domain exchange
(spec/05_isa_control.md R131, R132, R142 to R149).
-/
namespace Sys2Proof.Machine

/-- Units of 64 bytes per entry of a snapshot class (Table 5.7). -/
def classUnits (cls : Nat) : Nat := if cls = 5 then 2 else 1

/-- The local SRAM offset that AL names for n bytes. -/
def Tus.alOff (t : Tus) (al n : Nat) : Option Nat :=
  match decodeAddr (t.areg al) n with
  | some (.local_ off) => some off
  | _ => none

/-- XING (R142, R143): unit j lands 40 + j clocks after issue, so that a read in its clock has the old word (R69); the sluice is signalled
when the last has landed. -/
def execXing (c : Iss) (slu : BitVec 13) (cls : BitVec 3) (al : BitVec 4) (index : BitVec 16) (cnt : BitVec 4) (s : State) :
    Host.Outcome State Fault Refusal :=
  onIssue (xingOk c cls index cnt && s.ingestMay c cls.toNat && s.useMay c (.xing c slu cls al index cnt)) c s (fun s t m =>
    let u := classUnits cls.toNat
    let n := (cnt.toNat + 1) * u
    let first := (index.toNat + c.rep * (cnt.toNat + 1)) * u
    match t.alOff al.toNat (64 * n) with
    | none => none
    | some off =>
      let t := if bitAt m 0 then
          (List.range n).foldl (fun (t : Tus) j =>
            t.land (c.clk + 41 + j) (.local_ (off + 64 * j) (leBytes 64 (s.snapUnit cls.toNat (first + j))) 0xFF)) t
        else t
      some ((s.setTus c.tus (t.postInc c true al.toNat)).signal (c.clk + 39 + n) (hummockOf c.tus) slu.toNat))

/-- XEMIT (R130, R144, Table 5.3): lane j goes to output INDEX + i·(CNT + 1) + j unless M[j] is 0, and enters staging 24 clocks after its issue. -/
def execXemit (c : Iss) (ocls : BitVec 4) (fmt : BitVec 4) (vr : BitVec 6) (index : BitVec 14) (cnt : BitVec 4) (s : State) :
    Host.Outcome State Fault Refusal :=
  onIssue (xemitOk c ocls fmt vr index cnt && s.useMay c (.xemit c ocls fmt vr index cnt)) c s (fun s t m =>
    let x := t.vreg (vr.toNat + c.rep)
    some (((List.range (cnt.toNat + 1)).filter (fun j => bitAt m j)).foldl (fun (s : State) j =>
      s.sends ⟨c.clk + 24, c.tus, c.run,
        .emit (1024 * ocls.toNat + (index.toNat + c.rep * (cnt.toNat + 1) + j)) (decide (fmt.toNat = 9)) (elem x 32 j)⟩) s))

/-- Data bytes that a DLC gives under ISO 11898-1 (R146). -/
def dlcLen (dlc : Nat) : Nat :=
  if dlc ≤ 8 then dlc
  else match dlc with
    | 9 => 12
    | 10 => 16
    | 11 => 20
    | 12 => 24
    | 13 => 32
    | 14 => 48
    | _ => 64

/-- XCANQ (R146): the data is taken at issue and enters staging 32 clocks later; a later transmit to the object replaces an earlier one in the
run. -/
def execXcanq (c : Iss) (al : BitVec 4) (bus : BitVec 2) (obj : BitVec 8) (dlc : BitVec 4) (s : State) :
    Host.Outcome State Fault Refusal :=
  onIssue (s.useMay c (.xcanq c al bus obj dlc)) c s (fun s t m =>
    match t.alOff al.toNat 64 with
    | none => none
    | some off =>
      let d := Mem.bytes t.sram off (dlcLen dlc.toNat)
      let s := if bitAt m 0 then s.sends ⟨c.clk + 32, c.tus, c.run, .can (256 * bus.toNat + obj.toNat) dlc.toNat d⟩ else s
      some (s.setTus c.tus (t.postInc c true al.toNat)))

/-- XJRN (R147): sends an annotation, which enters staging 32 clocks later, or counts it as refused while JOURNAL_FULL is in force. -/
def execXjrn (c : Iss) (al : BitVec 4) (reason : BitVec 12) (s : State) : Host.Outcome State Fault Refusal :=
  onIssue true c s (fun s t m =>
    match t.alOff al.toNat 64 with
    | none => none
    | some off =>
      let s :=
        if ¬ bitAt m 0 then s
        else if s.on F.jrnStat_JOURNAL_FULL [] then
          match s.planOf c.tus c.run with
          | some p => s.bump F.obsPart3_ANNOT_REF [p.partition] 1
          | none => s
        else
          s.sends ⟨c.clk + 32, c.tus, c.run, .annot reason.toNat (BitVec.ofNat 512 (Mem.num t.sram off 64))⟩
      some (s.setTus c.tus (t.postInc c true al.toNat)))

/-- The value XCLK reads (R148). -/
def State.clockValue (s : State) (c : Iss) (sel : Nat) : Nat :=
  let r := s.runOf c.tus c.run
  match sel with
  | 0 => s.frame
  | 1 => s.fab.tai0
  | 2 => s.get F.frmEpoch_EPOCH []
  | 3 => s.get F.parLease_EPOCH []
  | 4 => s.get F.plnLadderStat_RUNG []
  | 5 => c.run
  | 6 => c.clk
  | _ =>
    match s.planOf c.tus c.run with
    | some p => p.partition + 16 * ((r.map Run.place).getD (s.get F.plnPart_PLACE [p.partition]))
    | none => 0

/-- XCLK (R148). -/
def execXclk (c : Iss) (sd : BitVec 5) (sel : BitVec 3) (s : State) : Host.Outcome State Fault Refusal :=
  onTus true c s (fun t m =>
    if bitAt m 0 then t.land (c.clk + 2) (.s sd.toNat (s.clockValue c sel.toNat) (ones 64)) else t)

/-- Populated positions of the member's row ring (across = true) or column ring (R362). -/
def State.ringSize_ (s : State) (across : Bool) : Nat :=
  let own := s.get F.parDomCfg_POS []
  ((List.range 16).filter (fun p => decide (p = own) || (s.on F.parDomMemb_PRESENT [p] &&
    (if across then decide (p / 4 = own / 4) else decide (p % 4 = own % 4))))).length

/-- Sets bits of byte 3 of a boundary record (R364). -/
def recordFlag (d : List Byte) (f : Nat) : List Byte := d.take 3 ++ leBytes 1 (((d.getD 3 0).toNat) ||| f) ++ d.drop 4

/-- The relay sends a record on a port, 0 to 3 for P1 to P4 (R362, R364, R365): as an EMPTY record where the ring is too short for the
hop, and the other way round, flagged ROUTED_AROUND, while the port's link is down. -/
def State.relaySend (s : State) (port hops : Nat) (d : List Byte) : State :=
  let size := s.ringSize_ (decide (port % 2 = 1))
  let need := if port = 1 ∨ port = 2 then hops + 1 else 4
  let d := if size < need then recordFlag (d.take 64 ++ List.replicate (d.length - 64) 0) 1 else d
  if bitAt s.dom.links port then s.emit (.boundary port d) else s.emit (.boundary ((port + 2) % 4) (recordFlag d 4))

/-- The header that the relay puts over the first 64 bytes of the member's record (R364). -/
def State.recordHeader (s : State) (clk : Nat) : List Byte :=
  let ns := 5 * clk / (2 * (4 - s.get F.plnLadderStat_RUNG []))
  leBytes 2 (s.get F.glbId_MODID []) ++ leBytes 1 (s.get F.parDomCfg_POS []) ++ leBytes 1 0 ++ leBytes 4 (s.get F.parLease_EPOCH []) ++ leBytes 8 s.frame ++
  leBytes 8 (s.fab.tai0 + ns) ++ leBytes 40 0

/-- XSND (R149): LEN + 1 chunks to the domain relay for each port of PMASK; the sluice is signalled even when masked. -/
def execXsnd (c : Iss) (slu : BitVec 13) (al : BitVec 4) (pmask : BitVec 4) (len : BitVec 8) (s : State) :
    Host.Outcome State Fault Refusal :=
  onIssue (s.useMay c (.xsnd c slu al pmask len)) c s (fun s t m =>
    let n := 256 * (len.toNat + 1)
    match t.alOff al.toNat n with
    | none => none
    | some off =>
      let d := Mem.bytes t.sram off n
      let d := s.recordHeader c.clk ++ d.drop 64
      let act := decide (s.get F.parStat_ROLE [] = 1 ∨ s.get F.parStat_ROLE [] = 2)
      let s := if bitAt m 0 ∧ act then (bitList pmask.toNat 4).foldl (fun (s : State) k => s.relaySend k 1 d) s else s
      some ((s.setTus c.tus (t.postInc c true al.toNat)).signal (c.clk + 4 * (len.toNat + 1)) (hummockOf c.tus) slu.toNat))

/-- XRCV (R149): posts a receive buffer for the next boundary record on a port; masked, the record is not written. -/
def execXrcv (c : Iss) (slu : BitVec 13) (al : BitVec 4) (port : BitVec 2) (len : BitVec 8) (s : State) :
    Host.Outcome State Fault Refusal :=
  onIssue (s.useMay c (.xrcv c slu al port len)) c s (fun s t m =>
    let n := 256 * (len.toNat + 1)
    match t.alOff al.toNat n with
    | none => none
    | some off =>
      let s := { s with fab := { s.fab with recv := s.fab.recv ++ [({ tus := c.tus.val, slu := slu.toNat, port := port.toNat, addr := off, len := n, write := bitAt m 0 } : RecvBuf)] } }
      some (s.setTus c.tus (t.postInc c true al.toNat)))

end Sys2Proof.Machine
end

