-- ==== Sys2Proof/Machine/Journal.lean ====
section
/-!
DEFINITION. The change journal (spec/18_journal.md R412 to R424): composing entries, chaining them, their areas and stages,
checkpoints and seals.
-/
namespace Sys2Proof.Machine

/-- SHA-512 of bytes as a number. -/
def digest (l : List Byte) : Nat := (Config.sha512 l).toNat

/-- Kinds of Table 18.3. -/
def kChange : Nat := 1
def kRefused : Nat := 2
def kCollide : Nat := 3
def kSuperseded : Nat := 4
def kEvent : Nat := 5
def kAnnot : Nat := 6
def kCommit : Nat := 7
def kCheckpoint : Nat := 8
def kSigpart : Nat := 9
def kGenesis : Nat := 10
def kSummary : Nat := 11

/-- FLAGS bits of Table 18.1. -/
def jSafety : Nat := 1
def jDeferred : Nat := 2
def jCoalesced : Nat := 4
def jSigned : Nat := 8

/-- Entries of the main ring and of the safety area (Table 18.4). -/
def mainCapacity : Nat := 33292288
def safeCapacity : Nat := 262144

/-- Bytes 0 to 191 of an entry (Table 18.1). -/
def JEntry.body (e : JEntry) : List Byte :=
  leBytes 8 e.seq ++ leBytes 8 e.tai ++ leBytes 8 e.frame ++ leBytes 4 e.epoch ++ leBytes 2 e.mod_ ++ leBytes 1 e.origin ++
  leBytes 1 e.kind ++ leBytes 4 e.requester ++ leBytes 4 e.keyId ++ leBytes 4 e.object ++ leBytes 2 e.reason ++
  leBytes 1 e.flags ++ leBytes 1 e.priv ++ leBytes 8 e.old ++ leBytes 8 e.new ++ leBytes 64 e.data ++ leBytes 64 e.prev

/-- The 256 bytes of an entry. -/
def JEntry.bytes (e : JEntry) : List Byte := e.body ++ leBytes 64 e.hash

/-- Whether an entry is of the safety class (R418). -/
def JEntry.safety (e : JEntry) : Bool := bitAt e.flags 0

/-- Whether two entries come from one source with one REASON (R419, R421). -/
def JEntry.alike (a b : JEntry) : Bool := decide (a.origin = b.origin ∧ a.requester = b.requester ∧ a.reason = b.reason)

/-- An entry with the fields every entry takes from the module (Table 18.1). -/
def State.entry (s : State) (origin requester kind reason object : Nat) : JEntry :=
  { tai := s.now, frame := if s.on F.frmStat_RUNNING [] then s.frame else 2 ^ 64 - 1, epoch := s.get F.parLease_EPOCH [],
    mod_ := s.get F.glbId_MODID [], origin := origin, kind := kind, requester := requester, object := object, reason := reason }

/-- Adds to a list of folds: one fold per source and REASON. -/
def foldInto (e : JEntry) (n : Nat) : List Fold → List Fold
  | [] => [⟨e, n⟩]
  | f :: r => if f.last.alike e then ⟨e, f.count + n⟩ :: r else f :: foldInto e n r

/-- Counts an entry as folded or counted. -/
def State.coalesced (s : State) (n : Nat) : State := s.bump F.jrnCnt_COALESCED [] n

/-- Links an entry into the chain and stores it in its area (R415, R417). -/
def State.link (s : State) (e : JEntry) : State :=
  let e := { e with seq := s.jrn.next, prev := s.jrn.lastHash }
  let e := { e with hash := digest e.body }
  let s := { s with jrn := { s.jrn with next := e.seq + 1, lastHash := e.hash, held := s.jrn.held ++ [e], sinceCkpt := s.jrn.sinceCkpt + 1 } }
  if e.safety then s.bumpWrap F.jrnFill_SAFE [] 1 else s.bumpWrap F.jrnFill_MAIN [] 1

/-- Free entries of the areas. -/
def State.mainFree (s : State) : Nat := mainCapacity - s.get F.jrnFill_MAIN []
def State.safeFree (s : State) : Nat := safeCapacity - s.get F.jrnFill_SAFE []

/-- Appends a CHECKPOINT (R415); while the previous one's signature is still being appended, and in HOLD, it falls due
(R421). -/
def State.checkpoint (s : State) : State :=
  if s.on F.jrnStat_HOLD [] ∨ s.jrn.signing.isSome then { s with jrn := { s.jrn with ckptDue := true } }
  else
    let e := { s.entry 0 3 kCheckpoint 0xE000 0xF0000000 with
      data := s.get F.jrnChain_CHAIN_ID [] + 2 ^ 64 * s.jrn.lastCkpt + 2 ^ 128 * s.get F.frmEpoch_EPOCH [] }
    let n := s.jrn.next
    let s := s.link e
    { s with jrn := { s.jrn with lastCkpt := n, sinceCkpt := 0, signing := some n, ckptDue := false } }

/-- Chains an entry under the stage in force (R421, R423): a safety entry goes to the safety area, folded while it is nearly
full and counted when it is full; any other goes to the main ring, folded in COALESCE and counted in HOLD, but for
checkpoints and their signatures. -/
def State.chain (s : State) (e : JEntry) : State :=
  let s :=
    if e.safety then
      if s.on F.jrnStat_SAFE_HOLD [] ∨ s.safeFree = 0 then
        { s with jrn := { s.jrn with safeFolds := foldInto e 1 s.jrn.safeFolds } }.coalesced 1
      else if s.on F.jrnStat_SAFE_COALESCE [] ∧ s.jrn.held.any (fun h => h.safety && h.alike e && decide (h.frame = e.frame)) then
        { s with jrn := { s.jrn with safeFolds := foldInto e 1 s.jrn.safeFolds } }.coalesced 1
      else s.link e
    else if e.kind = kCheckpoint ∨ e.kind = kSigpart ∨ e.kind = kSummary ∨ e.kind = kGenesis then s.link e
    else if s.on F.jrnStat_HOLD [] ∨ s.on F.jrnStat_COALESCE [] then
      { s with jrn := { s.jrn with folds := foldInto e 1 s.jrn.folds } }.coalesced 1
    else s.link e
  if 65536 ≤ s.jrn.sinceCkpt then s.checkpoint else s

/-- An entry that a fabric sequencer makes: it waits while companion entries are crossing (R419). -/
def State.journal (s : State) (e : JEntry) : State :=
  match s.jrn.waiting with
  | some l => { s with jrn := { s.jrn with waiting := some (l ++ [e]) } }
  | none => s.chain e

/-- Folds an entry into one of the same frame, source and REASON in a list, with COALESCED set and the count in DATA; `none`
where there is none. -/
def foldSame (e : JEntry) : List JEntry → Option (List JEntry)
  | [] => none
  | h :: r =>
    if h.alike e ∧ h.frame = e.frame then
      let n := if bitAt h.flags 2 then bits h.data 0 32 + 1 else 2
      some ({ h with flags := h.flags ||| jCoalesced, data := n } :: r)
    else (foldSame e r).map (fun l => h :: l)

/-- Whether the fabric die takes companion entries: frames run and have not stopped (R419). -/
def State.fabricTakes (s : State) : Bool := s.on F.frmStat_RUNNING [] && !s.rst.stopped

/-- An entry composed in the companion controller, held in its store until it crosses (R419): DEFERRED while the die cannot
take it; folded per frame when fewer than 512 of 8,192 places are free, of which 2,048 are the safety class's. -/
def State.journalC (s : State) (e : JEntry) : State :=
  let e := if s.fabricTakes then e else { e with flags := e.flags ||| jDeferred }
  let put : State := { s with jrn := { s.jrn with comp := s.jrn.comp ++ [e] } }
  let n := s.jrn.comp.length
  let plain := (s.jrn.comp.filter (fun h => !h.safety)).length
  if 8192 - n < 512 ∨ (e.safety = false ∧ 6144 - plain < 512) then
    match foldSame e s.jrn.comp with
    | some l => { s with jrn := { s.jrn with comp := l } }.coalesced 1
    | none => if n < 8192 ∧ (e.safety ∨ plain < 6144) then put else s.coalesced 1
  else put

/-- Sorts entries by TAI, keeping the order of equal ones. -/
def insertByTai (e : JEntry) : List JEntry → List JEntry
  | [] => [e]
  | h :: r => if e.tai < h.tai then e :: h :: r else h :: insertByTai e r

/-- At a frame edge the companion's entries begin to cross, and fabric entries wait for them (R419). -/
def State.crossJournal (s : State) : State :=
  let s := (s.jrn.crossing.foldl State.chain s)
  let s := ((s.jrn.waiting.getD []).foldl State.chain { s with jrn := { s.jrn with crossing := [], waiting := none } })
  { s with jrn := { s.jrn with crossing := s.jrn.comp, comp := [], waiting := some [] } }

/-- The crossing ends: the companion's entries are chained in TAI order, ahead of those that wait; a checkpoint that is due follows
(R415, R419). -/
def State.crossed (s : State) : State :=
  let l := s.jrn.crossing.foldl (fun l e => insertByTai e l) []
  let w := s.jrn.waiting.getD []
  let s := { s with jrn := { s.jrn with crossing := [], waiting := none } }
  let s := w.foldl State.chain (l.foldl State.chain s)
  if s.jrn.ckptDue then s.checkpoint else s

/-- A SUMMARY entry for a fold (Table 18.3). -/
def summaryOf (f : Fold) : JEntry := { f.last with kind := kSummary, flags := f.last.flags &&& jSafety, data := f.count, old := 0, new := 0 }

/-- Writes the folded safety entries: one entry per source and frame with COALESCED set while the area still takes entries,
one SUMMARY per source when space returns (R423). -/
def State.flushSafe (s : State) (summary : Bool) : State :=
  let l := s.jrn.safeFolds
  let s := { s with jrn := { s.jrn with safeFolds := [] } }
  l.foldl (fun (s : State) f => s.link (if summary then summaryOf f else { f.last with flags := f.last.flags ||| jCoalesced, data := f.count })) s

/-- The running digest of folded frames: SHA-512 over their digests in frame order (R421). -/
def digestsOf (l : List Nat) : Nat := digest (l.flatMap (fun d => leBytes 64 d))

/-- Writes the folds of the main ring: one SUMMARY per source and REASON, and for folded COMMITs one entry of the given kind
with the first and last frame and the digest (R421). -/
def State.flushMain (s : State) (kind : Nat) : State :=
  let l := s.jrn.folds
  let ds := s.jrn.digests
  let c := { s.entry 0 3 kind 0xE700 0xF0000000 with old := s.jrn.digestFirst, new := s.jrn.digestLast, data := digestsOf ds }
  let s := { s with jrn := { s.jrn with folds := [], digests := [] } }
  let s := l.foldl (fun (s : State) f => s.link (summaryOf f)) s
  if ds.isEmpty then s else s.link c

/-- A checkpoint falls due at an epoch edge, after the entries of step 3 (R415). -/
def State.checkpointDue (s : State) : State := { s with jrn := { s.jrn with ckptDue := true } }

/-- Closes the journal block of a frame with its COMMIT (R420); in COALESCE and HOLD the frame's digest is kept instead
(R421). Folded safety entries of the frame are written first (R423). -/
def State.commitJournal (s : State) (finished missed rung len dig : Nat) : State :=
  let s := if s.on F.jrnStat_SAFE_HOLD [] then s else s.flushSafe false
  let e := { s.entry 0 3 kCommit 0xE000 0xF0000001 with
    old := finished + 2 ^ 8 * missed + 2 ^ 16 * rung, new := len, data := dig }
  if s.on F.jrnStat_HOLD [] ∨ s.on F.jrnStat_COALESCE [] then
    let s := { s with jrn := { s.jrn with
      digestFirst := if s.jrn.digests.isEmpty then s.frame else s.jrn.digestFirst, digestLast := s.frame,
      digests := s.jrn.digests ++ [dig] } }
    { s with jrn := { s.jrn with released := s.jrn.next, headHash := s.jrn.lastHash } }.set F.jrnHead_SEQ [] (s.jrn.next - 1)
  else
    let s := s.journal e
    { s with jrn := { s.jrn with released := s.jrn.next, headHash := s.jrn.lastHash } }.set F.jrnHead_SEQ [] (s.jrn.next - 1)

/-- At an epoch edge in COALESCE: the epoch's one COMMIT and its SUMMARY entries (R421). -/
def State.epochFolds (s : State) : State :=
  if s.on F.jrnStat_COALESCE [] ∧ ¬ s.on F.jrnStat_HOLD [] then s.flushMain kCommit else s

/-- Opens a chain with its GENESIS entry (R424): CHAIN_ID is drawn from a noise source, so it is free. -/
def State.genesis (s : State) (cause : Nat) : State :=
  let id := s.drawn % 2 ^ 64
  let s := s.draw.set F.jrnChain_CHAIN_ID [] id
  let e := { s.entry 0 3 kGenesis 0xE000 0xF0000000 with data := id + 2 ^ 64 * s.get F.glbFw_FW_VER [] + 2 ^ 128 * cause }
  { s with jrn := { s.jrn with next := 0, lastHash := 0, held := [], released := 0, copied := 0, sinceCkpt := 0, lastCkpt := 0 } }.link e

/-- JOURNAL_STAGE_CHANGE (R421, Table 18.5): the stages entered and left at the free space there is. Leaving JOURNAL_FULL
writes a SUMMARY of the requests refused. -/
def State.stageChange (s : State) : State :=
  let free := s.mainFree
  let hold := s.on F.jrnStat_HOLD []
  let coal := s.on F.jrnStat_COALESCE []
  let full := s.on F.jrnStat_JOURNAL_FULL []
  let hold' := if hold then decide (free < 65536) else decide (free < 1)
  let coal' := if coal then decide (free < 524288) else decide (free < 262144)
  let full' := if full then decide (free < 2097152) else decide (free < 1048576)
  let s := ((s.set F.jrnStat_HOLD [] (b2n hold')).set F.jrnStat_COALESCE [] (b2n coal')).set F.jrnStat_JOURNAL_FULL [] (b2n full')
  let s := if hold ∧ ¬ hold' then s.flushMain kSummary else s
  let s := if hold ∧ ¬ hold' ∧ s.jrn.ckptDue then s.checkpoint else s
  let s := if coal ∧ ¬ coal' then s.flushMain kSummary else s
  let refused := s.jrn.refused
  if full ∧ ¬ full' then
    let s := { s with jrn := { s.jrn with refused := 0 } }
    s.journal { s.entry 0 3 kSummary 0xE700 0x00040008 with data := refused }
  else s

/-- Counts a request refused under JOURNAL_FULL (R422). -/
def State.fullRefused (s : State) : State :=
  { s with jrn := { s.jrn with refused := s.jrn.refused + 1 } }.bump F.jrnCnt_FULL_REFUSED [] 1

/-- SAFETY_AREA_FOLD (R423): folding starts below 4,096 free entries and counting at none; when space returns, one SUMMARY per
source is written. -/
def State.safetyFold (s : State) : State :=
  let hold := s.on F.jrnStat_SAFE_HOLD []
  let s := (s.set F.jrnStat_SAFE_COALESCE [] (b2n (decide (s.safeFree < 4096)))).set F.jrnStat_SAFE_HOLD []
    (b2n (decide (s.safeFree = 0)))
  if hold ∧ s.safeFree ≠ 0 then s.flushSafe true else s

/-- The parts of a signature as SIGPART entries (R415): 80 bytes each, unused bytes zero. -/
def State.sigparts (s : State) (ckpt alg n : Nat) (sig : List Byte) : State :=
  (List.range n).foldl (fun (s : State) i =>
    let part := (sig.drop (80 * i)).take 80
    s.chain { s.entry 0 8 kSigpart 0xE000 (ckpt % 2 ^ 32) with
      keyId := 0xFFFFFFFE, requester := i + 2 ^ 16 * n + 2 ^ 24 * alg,
      old := ofLeBytes (part.take 8), new := ofLeBytes ((part.drop 8).take 8), data := ofLeBytes (part.drop 16) }) s

/-- CHECKPOINT_SIGNED (R415): the signature of the checkpoint is appended, RSA always and ML-DSA where JRN_CFG asks; then a
checkpoint that fell due is made. -/
def State.checkpointSigned (s : State) : State :=
  match s.jrn.signing with
  | none => s
  | some n =>
    let h := ((s.jrn.held.find? (fun e => decide (e.seq = n))).map JEntry.hash).getD s.jrn.lastHash
    let s := s.sigparts n 1 7 (Config.deviceRsa (BitVec.ofNat 512 h))
    let s := if s.on F.jrnCfg_MLDSA_CKPT [] then s.sigparts n 2 58 (Config.deviceMldsa (BitVec.ofNat 512 h)) else s
    let s := { s with jrn := { s.jrn with signing := none } }
    if s.jrn.ckptDue then s.checkpoint else s

/-- Entries pass out of the journal region as the host's CONS passes them (R334). -/
def State.passJournal (s : State) (n : Nat) : State :=
  let gone := s.jrn.held.take n
  let safe := (gone.filter JEntry.safety).length
  let rest := s.jrn.held.drop n
  let s := { s with jrn := { s.jrn with held := rest } }
  let s := s.set F.jrnFill_SAFE [] (s.get F.jrnFill_SAFE [] - safe)
  let s := s.set F.jrnFill_MAIN [] (s.get F.jrnFill_MAIN [] - (gone.length - safe))
  s.set F.jrnOldest_SEQ [] ((rest.head?.map JEntry.seq).getD s.jrn.next)

/-- CHECKPOINT_SIGNED (R415). -/
def execCheckpointSigned (t : Tai) (s : State) : Host.Outcome State Fault Refusal := .next (s.at t).checkpointSigned

/-- JOURNAL_STAGE_CHANGE (R421). -/
def execJournalStageChange (t : Tai) (s : State) : Host.Outcome State Fault Refusal := .next (s.at t).stageChange

/-- SAFETY_AREA_FOLD (R423). -/
def execSafetyAreaFold (t : Tai) (s : State) : Host.Outcome State Fault Refusal := .next (s.at t).safetyFold

end Sys2Proof.Machine
end

