-- ==== Sys2Proof/Machine/Host.lean ====
section
/-!
DEFINITION. The host interface: rings, events, completions, MSI-X, heartbeat and the PCIe function (spec/14_host.md R322 to
R338), and the events that units journal and raise.
-/
namespace Sys2Proof.Machine

/-- Entries of a ring. -/
def State.ringSize (s : State) (i : Nat) : Nat := 2 ^ s.get F.hstRingCfg_LOG2 [i]

/-- PROD − CONS, modulo 2^32 (R327). -/
def State.ringUsed (s : State) (i : Nat) : Nat := (s.get F.hstRingProd_PROD [i] + 2 ^ 32 - s.get F.hstRingCons_CONS [i]) % 2 ^ 32

/-- Free entries of a ring. -/
def State.ringFree (s : State) (i : Nat) : Nat := s.ringSize i - s.ringUsed i

/-- Sends an MSI-X message, or marks it pending while its vector is masked. -/
def State.message (s : State) (v : Nat) : State :=
  if s.on F.hstMsixData_MASK [v] then s.set F.hstMsixPba_PENDING [] (s.get F.hstMsixPba_PENDING [] ||| 2 ^ v)
  else s.emit (.msix v)

/-- Signals a vector, at most once in its moderation interval; vector 1 ignores moderation (R335). -/
def State.signalVec (s : State) (v : Nat) : State :=
  let m := 1000 * s.get F.hstVecMod_MIN_US [v]
  let last := Tbl.find s.hst.lastVec v
  if v ≠ 1 ∧ m ≠ 0 ∧ last.any (fun l => decide (s.now < l + m)) then
    { s with hst := { s.hst with deferred := if s.hst.deferred.contains v then s.hst.deferred else s.hst.deferred ++ [v] } }
  else { s with hst := { s.hst with lastVec := Tbl.put s.hst.lastVec v s.now } }.message v

/-- Writes one entry of a module-produced ring and advances PROD. -/
def State.push (s : State) (i : Nat) (b : List Byte) : State :=
  (s.emit (.ringWrite i (s.get F.hstRingProd_PROD [i] % s.ringSize i) b)).bumpWrap F.hstRingProd_PROD [i] 1

/-- Writes PROD back and signals the ring's vector when enough entries are unread (R327, R335). -/
def State.publish (s : State) (i vec : Nat) : State :=
  let s := s.emit (.writeBack i (s.get F.hstRingProd_PROD [i]))
  if s.get F.hstRingCfg_THRESH [i] ≤ s.ringUsed i then s.signalVec vec else s

/-- The bytes of an event entry (Table 14.8). -/
def State.eventBytes (s : State) (type sev tag code data : Nat) : List Byte :=
  leBytes 1 type ++ leBytes 1 sev ++ leBytes 2 tag ++ leBytes 4 code ++ leBytes 8 s.frame ++ leBytes 8 s.now ++ leBytes 8 data

/-- The LOST event that precedes the next one when space has returned (R333). -/
def State.lostReport (s : State) : State :=
  if s.hst.lostSince ≠ 0 ∧ s.on F.hstRingCfg_EN [1] ∧ s.ringFree 1 ≠ 0 then
    let n := s.hst.lostSince
    ({ s with hst := { s.hst with lostSince := 0 } }.push 1 (s.eventBytes 4 1 8 0xA700 n)).publish 1 0
  else s

/-- Writes an event to the event ring (R332), or counts it as lost while the ring is full (R333). A disabled ring takes
none. -/
def State.hostEvent (s : State) (type sev tag code data : Nat) : State :=
  if ¬ s.on F.hstRingCfg_EN [1] then s
  else
    let s := s.lostReport
    if s.ringFree 1 = 0 then
      { s with hst := { s.hst with lostSince := s.hst.lostSince + 1 } }.bump F.hstRingCnt_LOST [1] 1
    else (s.push 1 (s.eventBytes type sev tag code data)).publish 1 (if sev = 2 then 1 else 0)

/-- Completion status codes (Table 14.6). -/
def cOk : Nat := 0
def cUnknown : Nat := 1
def cFormat : Nat := 2
def cRefused : Nat := 3
def cPrivilege : Nat := 4
def cCollide : Nat := 5
def cJournalFull : Nat := 6
def cDmaErr : Nat := 7
def cTimeout : Nat := 8
def cNotActive : Nat := 9
def cBusy : Nat := 10

/-- Writes a completion to the event ring (R329). -/
def State.complete (s : State) (tag code data : Nat) : State := s.hostEvent 1 0 tag code data

/-- Completes a set of writes once precedence has been decided, at the next frame edge; at once before the first edge (R329). -/
def State.completeAtEdge (s : State) (tag code data : Nat) : State :=
  if s.on F.frmStat_RUNNING [] then { s with hst := { s.hst with completions := s.hst.completions ++ [(tag, code, data)] } }
  else s.complete tag code data

/-- The completions that waited for a frame edge. -/
def State.flushCompletions (s : State) : State :=
  let l := s.hst.completions
  l.foldl (fun (s : State) c => s.complete c.1 c.2.1 c.2.2) { s with hst := { s.hst with completions := [] } }

/-- A state change or event that a unit makes: the unit by the numbers of Table 18.2 (0 to 8 fabric sequencers in the order of
Table 1.5, 9 to 12 the companion's, 0x10 loop engine, 0x11 trip logic, 0x12 lease and ACT logic) with an index; the REASON's
class, action and item (R413); OBJECT, OLD, NEW and DATA; whether it is of the safety class (R418); and, where it is raised
on the host event ring, its TYPE, SEV and event data (R332). -/
structure Note where
  who : Nat
  idx : Nat := 0
  cls : Nat
  act : Nat := 0
  item : Nat := 0
  obj : Nat
  old : Nat := 0
  new : Nat := 0
  data : Nat := 0
  safety : Bool := false
  raised : Option (Nat × Nat × Nat) := none
deriving DecidableEq, Repr

/-- REASON of a note (R413). -/
def Note.reason (e : Note) : Nat := 4096 * e.cls + 256 * e.act + e.item

/-- Journals an event and raises it where it is to be raised. -/
def State.note (s : State) (e : Note) : State :=
  let origin := if e.who < 9 then 0 else 1
  let j := { s.entry origin (e.who + 256 * e.idx) kEvent e.reason e.obj with
    old := e.old, new := e.new, data := e.data, flags := if e.safety then jSafety else 0 }
  let s := if e.who < 9 then s.journal j else s.journalC j
  match e.raised with
  | some (type, sev, d) => s.hostEvent type sev (e.obj / 65536) e.reason d
  | none => s

/-- Alarm and state types and severities of Table 14.8. -/
def evAlarm : Nat := 2
def evState : Nat := 3
def evCollide : Nat := 5
def evRefused : Nat := 6

/-- RING_CONS (R327): the host frees entries of a module-produced ring; a value out of order is discarded and counted. CONS of
ring 0 is RO (Table 14.13). -/
def execRingCons (t : Tai) (i : Fin 4) (cons : Nat) (s : State) : Host.Outcome State Fault Refusal :=
  let s := s.at t
  let prod := s.get F.hstRingProd_PROD [i]
  let old := s.get F.hstRingCons_CONS [i]
  let d := (cons + 2 ^ 32 - old) % 2 ^ 32
  if i.val = 0 then .next s
  else if 2 ^ 32 ≤ cons ∨ (prod + 2 ^ 32 - old) % 2 ^ 32 < d then .next (s.bump F.hstStat_BAD_WR [] 1)
  else
    let s := s.set F.hstRingCons_CONS [i] cons
    .next (if i.val = 3 then s.passJournal d else s)

/-- RING_DMA_FAIL (R327): the ring is disabled, the failure counted and journalled. -/
def execRingDmaFail (t : Tai) (i : Fin 4) (s : State) : Host.Outcome State Fault Refusal :=
  let s := s.at t
  if ¬ s.on F.hstRingCfg_EN [i] then .next s
  else
    let s := (s.set F.hstRingCfg_EN [i] 0).bump F.hstRingCnt_DMA_ERR [i] 1
    .next (s.note { who := 7, idx := i, cls := 0xA, item := i, obj := Reg.off .hstRingCfg [i], raised := some (evAlarm, 1, i.val) })

/-- EVENT_LOST_REPORT (R333). -/
def execEventLostReport (t : Tai) (s : State) : Host.Outcome State Fault Refusal := .next (s.at t).lostReport

/-- Whether released journal entries wait for ring 3, which takes them. -/
def State.journalDue (s : State) : Bool := s.on F.hstRingCfg_EN [3] && decide (s.ringFree 3 ≠ 0 ∧ s.jrn.copied < s.jrn.released)

/-- One trace record that has waited goes to ring 2, or is dropped and counted where the ring is full (R440). -/
def State.pushTrace (s : State) (b : List Byte) : State := if s.ringFree 2 = 0 then s.bump F.hstRingCnt_LOST [2] 1 else s.push 2 b

/-- The trace records that wait are sent with the capacity that events, which leave at once, and journal entries leave: while none of
those is due (R441; notes/assumptions/151.md). -/
def State.sendTraces (s : State) : State :=
  if s.hst.traces.isEmpty ∨ s.journalDue ∨ ¬ s.on F.hstRingCfg_EN [2] then s
  else (s.hst.traces.foldl State.pushTrace { s with hst := { s.hst with traces := [] } }).publish 2 2

/-- JOURNAL_COPY (R334, R441): released entries go to ring 3 in SEQ order while it has space; the batch is one cause of vector 3. -/
def execJournalCopy (t : Tai) (s : State) : Host.Outcome State Fault Refusal :=
  let s := s.at t
  if ¬ s.on F.hstRingCfg_EN [3] then .next s
  else
    let l := (s.jrn.held.filter (fun e => decide (s.jrn.copied ≤ e.seq ∧ e.seq < s.jrn.released))).take (s.ringFree 3)
    if l.isEmpty then .next s
    else
      let s := l.foldl (fun (s : State) e => s.push 3 e.bytes) s
      .next ({ s with jrn := { s.jrn with copied := s.jrn.copied + l.length } }.publish 3 3).sendTraces

/-- VECTOR_MODERATION_EXPIRY (R335). -/
def execVectorModerationExpiry (t : Tai) (vec : Fin 8) (s : State) : Host.Outcome State Fault Refusal :=
  let s := s.at t
  let due := (Tbl.at s.hst.lastVec vec 0) + 1000 * s.get F.hstVecMod_MIN_US [vec]
  if s.hst.deferred.contains vec.val ∧ due ≤ t then
    .next ({ s with hst := { s.hst with deferred := s.hst.deferred.filter (fun v => decide (v ≠ vec.val)),
                                         lastVec := Tbl.put s.hst.lastVec vec t } }.message vec)
  else .next s

/-- NOP (R328). -/
def execNop (t : Tai) (tag : BitVec 16) (s : State) : Host.Outcome State Fault Refusal :=
  .next ((s.at t).complete tag.toNat cOk 0)

/-- BAR0_BAD_READ (R324): Unsupported Request for a read that is misaligned or of a length other than 4 or 8. -/
def execBar0BadRead (t : Tai) (off len : Nat) (s : State) : Host.Outcome State Fault Refusal :=
  let s := s.at t
  .next (if (len = 4 ∨ len = 8) ∧ off % len = 0 then s else s.emit .unsupportedRequest)

/-- HST_HB (R327, R337): the heartbeat value is held and the host is known alive; it is not journalled. -/
def execHstHb (t : Tai) (v : BitVec 32) (s : State) : Host.Outcome State Fault Refusal :=
  let s := (s.at t).set F.hstHb_LAST [] v.toNat
  .next { s with hst := { s.hst with lastHb := some s.frame } }

/-- Whether a condition of R322 holds: no link, or the function not in D0. -/
def State.hostCut (s : State) : Bool := !s.on F.hstStat_LINK [] || s.hst.nonD0

/-- Declares the host silent: flag, count, journal, vector 5 and a STATE event (R337). -/
def State.hostSilent (s : State) : State :=
  if s.on F.hstStat_HOST_SILENT [] then s
  else
    let s : State := { s with hst := { s.hst with lastHb := none } }
    let s := ((s.set F.hstStat_HOST_SILENT [] 1).bump F.hstHb_SILENT_CNT [] 1).signalVec 5
    s.note { who := 7, cls := 0xA, obj := Reg.off .hstStat [], raised := some (evState, 1, s.get F.hstHb_SILENT_CNT []) }

/-- Whether the heartbeat timed out at the edge that opens frame m (R337): none was accepted in frames m − TIMEOUT_F to
m − 1, and EN has been 1 that long. -/
def State.heartbeatLost (s : State) : Bool :=
  let limit := s.get F.hstHbCfg_TIMEOUT_F []
  s.on F.hstHbCfg_EN [] &&
  (match s.hst.lastHb with | some h => decide (h + limit < s.frame) | none => true) && decide (s.hst.hbFrom + limit < s.frame)

/-- HOST_SILENCE (R337): takes effect where the host is silent by timeout or by R322. -/
def execHostSilence (t : Tai) (s : State) : Host.Outcome State Fault Refusal :=
  let s := s.at t
  .next (if s.hostCut ∨ s.heartbeatLost then s.hostSilent else s)

/-- The host's silence at a frame edge: it ends after a heartbeat, or with EN = 0 whenever no R322 condition holds (R337). -/
def State.hostEdge (s : State) : State :=
  if ¬ s.on F.hstStat_HOST_SILENT [] ∨ s.hostCut then s
  else if ¬ s.on F.hstHbCfg_EN [] ∨ (s.hst.lastHb.isSome ∧ ¬ s.heartbeatLost) then
    (s.set F.hstStat_HOST_SILENT [] 0).note { who := 7, cls := 0xA, act := 1, obj := Reg.off .hstStat [] }
  else s

/-- PCIE_FUNCTION_RESET (R322): MSI-X state and ring state return to reset, and the host is cut off. -/
def execPcieFunctionReset (t : Tai) (s : State) : Host.Outcome State Fault Refusal :=
  let s := s.at t
  let s := (List.range 4).foldl (fun (s : State) i =>
    (((s.wr .hstRingBase [i] 0).wr .hstRingCfg [i] (Reg.resetWord .hstRingCfg [i])).wr .hstRingProd [i] 0).wr .hstRingCons [i] 0) s
  let s := (List.range 4).foldl (fun (s : State) i => (s.wr .hstRingWb [i] 0).wr .hstRingCnt [i] 0) s
  let s := (List.range 8).foldl (fun (s : State) v =>
    (s.wr .hstMsixAddr [v] 0).wr .hstMsixData [v] (Reg.resetWord .hstMsixData [v])) s
  let s := s.wr .hstMsixPba [] 0
  let s := (((s.set F.hstStat_LINK [] 0).set F.hstStat_WIDTH [] 0).set F.hstStat_SPEED [] 0).set F.hstStat_FLIT [] 0
  .next { s with hst := { s.hst with deferred := [], lastVec := [], lostSince := 0, completions := [], traces := [] } }

/-- PCIE_LINK_UP (R321, R337). -/
def execPcieLinkUp (t : Tai) (width : BitVec 2) (speed : BitVec 3) (flit : Bool) (s : State) :
    Host.Outcome State Fault Refusal :=
  let s := s.at t
  .next ((((s.set F.hstStat_LINK [] 1).set F.hstStat_WIDTH [] width.toNat).set F.hstStat_SPEED [] speed.toNat).set
    F.hstStat_FLIT [] (b2n flit))

/-- The bytes of a trace record (Table 19.3): TYPE, partition, bytes 2 to 7, `FRM_COUNT`, and the body, in 64 bytes. -/
def State.traceBytes (s : State) (r : TraceRec) : List Byte :=
  let b := leBytes 1 r.type ++ leBytes 1 r.part ++ ((r.head.map (fun x => BitVec.ofNat 8 x)) ++ List.replicate 6 0).take 6 ++
    leBytes 8 s.frame ++ r.body.map (fun x => BitVec.ofNat 8 x)
  (b ++ List.replicate 64 0).take 64

end Sys2Proof.Machine
end

