-- ==== Sys2Proof/Machine/Can.lean ====
section
/-!
DEFINITION. The CAN FD buses and the Peser profile (spec/11_fieldbus.md R265 to R285; PESER_CFG of spec/14_host.md R330, R331).
-/
namespace Sys2Proof.Machine

/-- A bus. -/
def State.bus (s : State) (b : Nat) : Bus := Tbl.at s.can.bus b {}

/-- Replaces a bus. -/
def State.setBus (s : State) (b : Nat) (x : Bus) : State := { s with can := { s.can with bus := Tbl.put s.can.bus b x } }

/-- Internal buffers beside the 256 objects (R275). -/
def objEmerg : Nat := 256
def objBeat : Nat := 257
def objCfg : Nat := 258
def objTest : Nat := 259

/-- A base identifier of the Peser profile (R274). -/
def peserId (prio node type : Nat) : Nat := 512 * prio + 16 * node + type

/-- The key by which identifiers arbitrate: the base identifier first, then base ahead of extended, then the extension. -/
def arbKey (id : Nat) (ide : Bool) : Nat := if ide then (id / 2 ^ 18) * 2 ^ 19 + 2 ^ 18 + id % 2 ^ 18 else (id % 2 ^ 11) * 2 ^ 19

/-- The node mask that holding responses name on a bus, and whether any does (R399): bit 0 names every node. -/
def State.emergMask (s : State) (b : Nat) : Nat :=
  ((bitList (s.get F.prtStat_HOLD []) 8).foldl (fun (m : Nat) j => m ||| bits (s.rd .prtRespNodes [j, b]) 0 32) 0)

/-- Whether a mask names a node. -/
def named (mask node : Nat) : Bool := bitAt mask 0 || (decide (node ≠ 0) && bitAt mask node)

/-- The node of a transmit object's identifier (R274, R399). -/
def State.objNode (s : State) (b m : Nat) : Nat := bits (s.get F.fbMoCfg_ID [b, m]) 4 5

/-- Whether protection keeps a transmit object silent (R399). -/
def State.objHeld (s : State) (b m : Nat) : Bool := named (s.emergMask b) (s.objNode b m)

/-- Whether the controller is on its bus: error active or passive (Table 11.9). -/
def State.busLive (s : State) (b : Nat) : Bool := s.on F.fbCfg_EN [b] && decide (s.get F.fbErr_STATE [b] ≤ 1)

/-- The bytes 0–3 that every frame the module sends carries (R268): the lease epoch in force at its loading. -/
def stamp (epoch : Nat) (d : List Byte) : List Byte := leBytes 4 epoch ++ d.drop 4

/-- Smallest DLC whose data length holds n bytes. -/
def dlcFor (n : Nat) : Nat := ((List.range 16).find? (fun d => decide (n ≤ dlcLen d))).getD 15

/-- Data padded with zeros to what a DLC gives. -/
def padTo (dlc : Nat) (d : List Byte) : List Byte := (d ++ List.replicate 64 0).take (dlcLen dlc)

/-- An internal frame: base format, CAN FD with BRS (R274). -/
def innerFrame (id : Nat) (d : List Byte) : CanFrame :=
  { id := id, ide := false, fdf := true, brs := true, esi := false, rtr := false, dlc := dlcFor d.length, data := padTo (dlcFor d.length) d }

/-- The frame that an object loads now (R268, R278, R399, R330, R275). -/
def State.loadFrame (s : State) (b obj : Nat) : CanFrame :=
  let e := s.get F.parLease_EPOCH []
  let x := s.bus b
  if obj = objEmerg then innerFrame (peserId 0 0 0) (leBytes 4 e ++ leBytes 4 (x.emerg.getD 0))
  else if obj = objBeat then
    innerFrame (peserId 3 0 0xF) (leBytes 4 e ++ leBytes 4 s.frame ++ leBytes 2 (s.get F.glbId_MODID []) ++ leBytes 6 0)
  else if obj = objCfg then innerFrame (peserId 3 ((x.cfg.map PeserReq.node).getD 0) 0xC) (stamp e ((x.cfg.map PeserReq.req).getD []))
  else if obj = objTest then innerFrame (peserId 3 (x.test.getD 0) 0xE) (leBytes 4 e ++ leBytes 4 0)
  else
    let m := Tbl.at x.msg obj (0, [])
    { id := s.get F.fbMoCfg_ID [b, obj], ide := s.on F.fbMoCfg_IDE [b, obj], fdf := s.on F.fbMoCfg_FDF [b, obj],
      brs := s.on F.fbMoCfg_BRS [b, obj] && s.on F.fbMoCfg_FDF [b, obj], esi := decide (s.get F.fbErr_STATE [b] = 1), rtr := false,
      dlc := m.1, data := stamp e (padTo m.1 m.2) }

/-- `_DATA` of an object (Table 11.15). -/
def State.setMoData (s : State) (b m : Nat) (d : List Byte) : State :=
  (List.range 8).foldl (fun (s : State) k => s.set F.fbMoData_DATA [b, m, k] (ofLeBytes ((d.drop (8 * k)).take 8))) s

/-- Journals an event of a bus (R271, R279, R282). -/
def busNote (b act item obj old new : Nat) (raised : Option (Nat × Nat × Nat)) : Note :=
  { who := 11, idx := b, cls := 7, act := act, item := item, obj := obj, old := old, new := new, raised := raised }

/-- The frames the module may send on a bus now: any while it asserts ACT, TEST during a drive exercise (R280), none in bus
monitoring. -/
def State.maySend (s : State) (b obj : Nat) : Bool :=
  !s.on F.fbCfg_LISTEN [b] && (s.on F.parStat_ACT [] || (s.on F.parExer_BUSY [] && decide (obj = objTest)))

/-- A commit to a transmit object (R268, R270, R271, R280, R283, R284, R399). -/
def State.canCommit (s : State) (b m dlc : Nat) (d : List Byte) : State :=
  if s.get F.fbMoCfg_DIR [b, m] ≠ 1 then s
  else
    let x := s.bus b
    let s := (s.setBus b { x with msg := Tbl.put x.msg m (dlc, d) })
    let x := s.bus b
    let kept := (s.setMoData b m (padTo dlc d)).set F.fbMoStat_DLC [b, m] dlc
    if ¬ s.on F.parStat_ACT [] ∨ ¬ s.busLive b ∨ x.leaving then kept
    else if s.objHeld b m then kept.bump F.obsEmit_SUPPRESSED [] 1
    else if x.queue.contains m then
      let s := (s.set F.fbMoStat_SUPERSEDED [b, m] 1).bump F.fbCnt_SUPERSEDED [b] 1
      s.note (busNote b 0 4 (Reg.off .fbMoStat [b, m]) 0 0 none)
    else if x.onBus.any (fun o => decide (o.obj = m)) then
      let late := x.onBus.any OnBus.late
      let s := s.setBus b { x with onBus := x.onBus.map (fun o => { o with late := true }),
                                   next := if x.next.contains m then x.next else x.next ++ [m] }
      if late then s
      else ((s.set F.fbMoStat_CANCEL_LATE [b, m] 1).bump F.fbCnt_CANCEL_LATE [b] 1).note
        (busNote b 0 3 (Reg.off .fbMoStat [b, m]) 0 0 none)
    else (s.setBus b { x with queue := x.queue ++ [m] }).set F.fbMoStat_TXS [b, m] 1

/-- Registers a cancel of an object's frame (R270, Table 11.2). -/
def State.canCancel (s : State) (b m : Nat) : State :=
  let x := s.bus b
  if x.queue.contains m then
    let s := s.setBus b { x with queue := x.queue.filter (fun k => decide (k ≠ m)) }
    if m < 256 then s.set F.fbMoStat_TXS [b, m] 4 else s
  else if x.onBus.any (fun o => decide (o.obj = m) && !o.late) then
    let s := s.setBus b { x with onBus := x.onBus.map (fun o => { o with late := true }) }
    if m < 256 then
      ((s.set F.fbMoStat_CANCEL_LATE [b, m] 1).bump F.fbCnt_CANCEL_LATE [b] 1).note (busNote b 0 3 (Reg.off .fbMoStat [b, m]) 0 0 none)
    else s
  else s

/-- Every pending frame of a bus is cancelled, as when ACT falls (R270, R280). -/
def State.canCancelAll (s : State) (b : Nat) : State :=
  let x := s.bus b
  let s := x.queue.foldl (fun (s : State) m => s.canCancel b m) s
  let s := match x.onBus with | some o => s.canCancel b o.obj | none => s
  s.setBus b { s.bus b with next := [], emerg := none, beat := false, test := none, cfgSend := false }

/-- Every pending frame of a bus is discarded with TXS bus-off (R283, R284). -/
def State.canDiscard (s : State) (b : Nat) : State :=
  let x := s.bus b
  let l := x.queue ++ x.next ++ (match x.onBus with | some o => [o.obj] | none => [])
  let s := l.foldl (fun (s : State) m => if m < 256 then s.set F.fbMoStat_TXS [b, m] 5 else s) s
  s.setBus b { x with queue := [], next := [], onBus := none, emerg := none, beat := false, test := none, cfgSend := false, leaving := false }

/-- The controller leaves its bus (R284). -/
def State.busLeave (s : State) (b : Nat) : State :=
  let s := s.canDiscard b
  (s.set F.fbErr_STATE [b] 3).set F.fbErr_RECOVERING [b] 0

/-- A write of EN = 0 (R284): at once when no frame is in progress, else at its end. -/
def State.busDisable (s : State) (b : Nat) : State :=
  let x := s.bus b
  if x.onBus.isSome then s.setBus b { x with leaving := true } else s.busLeave b

/-- What may be offered at bus idle, in order of R269: EMERG, then BEAT, then the pending frame that would win arbitration. -/
def State.offer (s : State) (b : Nat) : Option Nat :=
  let x := s.bus b
  let may := fun m => s.maySend b m
  if x.emerg.isSome && may objEmerg then some objEmerg
  else if x.beat && may objBeat then some objBeat
  else
    let l := (x.queue ++ (if x.cfgSend then [objCfg] else []) ++ (if x.test.isSome then [objTest] else [])).filter may
    let key := fun m => let f := s.loadFrame b m; arbKey f.id f.ide
    l.foldl (fun (best : Option Nat) m =>
      match best with
      | none => some m
      | some k => if key m < key k then some m else some k) none

/-- CAN_BUS_IDLE (R268, R269): one frame is offered, loaded and stamped, and its start of frame begins. -/
def execCanBusIdle (t : Tai) (b : Fin 4) (s : State) : Host.Outcome State Fault Refusal :=
  let s := s.at t
  let x := s.bus b
  if ¬ s.busLive b ∨ x.onBus.isSome ∨ 255 < x.tec then .next s
  else match s.offer b with
    | none => .next s
    | some m =>
      let fr := s.loadFrame b m
      let s := s.setBus b { x with onBus := some ⟨m, fr, false⟩, queue := x.queue.filter (fun k => decide (k ≠ m)),
                                   emerg := if m = objEmerg then none else x.emerg,
                                   beat := if m = objBeat then false else x.beat,
                                   cfgSend := if m = objCfg then false else x.cfgSend,
                                   test := if m = objTest then none else x.test }
      let s := s.emit (.canStart b fr)
      .next (if m < 256 then ((s.set F.fbMoStat_TXS [b, m] 2).set F.fbMoStat_EPOCH [b, m] (s.get F.parLease_EPOCH [])).set
        F.fbMoStat_DLC [b, m] fr.dlc else s)

/-- The error counters and the state they give (R282, ISO 11898-1): TEC above 127 or REC above 127 is error passive. -/
def State.busErrors (s : State) (b tec rec : Nat) : State :=
  let s := s.setBus b { s.bus b with tec := tec }
  let old := s.get F.fbErr_STATE [b]
  let new := if old ≤ 1 then (if 127 < tec ∨ 127 < rec then 1 else 0) else old
  let s := ((s.set F.fbErr_TEC [b] (min tec 255)).set F.fbErr_REC [b] (min rec 255)).set F.fbErr_WARN [b]
    (b2n (decide (96 ≤ tec ∨ 96 ≤ rec)))
  let s := s.set F.fbErr_STATE [b] new
  if old = new then s
  else s.note (busNote b 0 new (Reg.off .fbErr [b]) old new (some (if new = 0 then evState else evAlarm, if new = 0 then 0 else 1, b)))

/-- What follows when a frame of object m has left the bus: a frame that waited behind a late cancel enters the queue (R271), and
a controller that is leaving leaves (R284). -/
def State.frameOff (s : State) (b m : Nat) : State :=
  let x := s.bus b
  if x.leaving then s.busLeave b
  else if x.next.contains m then
    (s.setBus b { x with next := x.next.filter (fun k => decide (k ≠ m)), queue := x.queue ++ [m] }).set F.fbMoStat_TXS [b, m] 1
  else s

/-- A frame goes back to its queue (R269). -/
def State.requeue (s : State) (b : Nat) (o : OnBus) : State :=
  let x := { s.bus b with onBus := none }
  if o.obj = objEmerg then s.setBus b { x with emerg := some ((x.emerg.getD 0) ||| ofLeBytes ((o.fr.data.drop 4).take 4)) }
  else if o.obj = objBeat then s.setBus b { x with beat := true }
  else if o.obj = objCfg then s.setBus b { x with cfgSend := true }
  else if o.obj = objTest then s.setBus b { x with test := some (bits o.fr.id 4 5) }
  else (s.setBus b { x with queue := x.queue ++ [o.obj] }).set F.fbMoStat_TXS [b, o.obj] 1

/-- CAN_FRAME_SENT (R270, Table 11.2, Table 11.15). -/
def execCanFrameSent (t : Tai) (b : Fin 4) (s : State) : Host.Outcome State Fault Refusal :=
  let s := s.at t
  let x := s.bus b
  match x.onBus with
  | none => .next s
  | some o =>
    let s := s.setBus b { x with onBus := none }
    let s := if o.obj < 256 then
        ((s.set F.fbMoStat_TXS [b, o.obj] 3).set F.fbMoTs_TS [b, o.obj] t).setMoData b o.obj (padTo 15 o.fr.data) else s
    let s := s.busErrors b (x.tec - 1) (s.get F.fbErr_REC [b])
    .next (s.frameOff b o.obj)

/-- A frame that did not get through (R269, R270): withdrawn after a late cancel, else offered again. -/
def State.frameLost (s : State) (b : Nat) (o : OnBus) : State :=
  let x := s.bus b
  if o.late ∨ x.leaving then
    let s := s.setBus b { x with onBus := none }
    let s := if o.obj < 256 then s.set F.fbMoStat_TXS [b, o.obj] (if o.late then 4 else 5) else s
    s.frameOff b o.obj
  else s.requeue b o

/-- CAN_ARBITRATION_LOST (R269, R270). -/
def execCanArbitrationLost (t : Tai) (b : Fin 4) (s : State) : Host.Outcome State Fault Refusal :=
  let s := s.at t
  match (s.bus b).onBus with
  | none => .next s
  | some o => .next (s.frameLost b o)

/-- CAN_ERROR_FRAME (R269, R282): the module's frame is destroyed and its transmit error counter rises by 8, or a receiver's error
raises the receive error counter by 1. -/
def execCanErrorFrame (t : Tai) (b : Fin 4) (lec : Fin 7) (s : State) : Host.Outcome State Fault Refusal :=
  let s := s.at t
  if ¬ s.busLive b then .next s
  else
    let s := s.set F.fbErr_LEC [b] lec
    let x := s.bus b
    match x.onBus with
    | none => .next (s.busErrors b x.tec (min (s.get F.fbErr_REC [b] + 1) 255))
    | some o => .next ((s.frameLost b o).busErrors b (x.tec + 8) (s.get F.fbErr_REC [b]))

/-- CAN_CANCEL (R270). -/
def execCanCancel (t : Tai) (b : Fin 4) (m : Fin 256) (s : State) : Host.Outcome State Fault Refusal := .next ((s.at t).canCancel b m)

/-- The filter that decides a received frame's fate (R272): the first enabled one that matches. -/
def State.filterFor (s : State) (b : Nat) (fr : CanFrame) : Option Nat :=
  (List.range 64).find? (fun i =>
    s.on F.fbFltId_ACT [b, i] &&
    decide ((fr.id ^^^ s.get F.fbFltId_MATCH [b, i]) &&& s.get F.fbFltMask_MASK [b, i] = 0) &&
    (!s.on F.fbFltId_IDE_CHK [b, i] || s.on F.fbFltId_IDE [b, i] == fr.ide))

/-- The Peser value bound to a bus, node, kind and slot, lowest index first. -/
def State.pvalsOf (s : State) (b node kind slot : Nat) : List Nat :=
  (List.range 256).filter (fun k => s.on F.fbPvalBind_EN [k] && decide (s.get F.fbPvalBind_BUS [k] = b ∧
    s.get F.fbPvalBind_NODE [k] = node ∧ s.get F.fbPvalBind_KIND [k] = kind ∧ s.get F.fbPvalBind_SLOT [k] = slot))

/-- Takes a measured value (R281): the raw value, its STATUS, whether the frame faults it and its sample time. -/
def State.takePval (s : State) (k : Nat) (v : Option Int) (st : Nat) (flt : Bool) (at_ : Tai) : State :=
  let s := match v with | some x => s.setI F.fbPvalVal_VALUE [k] x | none => s
  let s := { s with can := { s.can with pvalAt := Tbl.put s.can.pvalAt k at_, pvalFlt := Tbl.put s.can.pvalFlt k (b2n flt) } }
  s.set F.fbPvalVal_STATUS [k] st

/-- Age of a Peser value in ms, from its sample time, saturating (R281). -/
def State.pvalAge (s : State) (k : Nat) : Nat :=
  match Tbl.find s.can.pvalAt k with
  | some a => min 0xFFFF ((s.now - a) / 1000000)
  | none => 0xFFFF

/-- Whether a Peser value is faulted (R281). -/
def State.pvalFaulted (s : State) (k : Nat) : Bool :=
  !s.on F.fbPvalBind_EN [k] ||
  (match Tbl.find s.can.pvalAt k with
   | none => true
   | some a => decide (s.get F.fbPvalBind_AGE_MS [k] * 1000000 < s.now - a)) ||
  decide (Tbl.at s.can.pvalFlt k 1 = 1) || !s.busLive (s.get F.fbPvalBind_BUS [k])

/-- A Peser frame that updates measured values (R281, Table 11.4): the values it updated, by slot. -/
def State.peserValues (s : State) (b : Nat) (fr : CanFrame) : State × List Nat :=
  let prio := bits fr.id 9 2
  let node := bits fr.id 4 5
  let type := bits fr.id 0 4
  let d := fr.data
  let first := fun (k slot : Nat) => (s.pvalsOf b node k slot).headD 0xFFFF
  if fr.ide ∨ node = 0 then (s, [])
  else if prio = 2 ∧ type = 8 then
    let n := d.length / 4 - 1
    let st := ofLeBytes ((d.drop (4 * n)).take 1)
    let age := ofLeBytes ((d.drop (4 * n + 2)).take 2)
    let s' := (List.range (min n 3)).foldl (fun (s : State) i =>
      (s.pvalsOf b node 0 i).foldl (fun (s : State) k =>
        s.takePval k (some (signed 32 (ofLeBytes ((d.drop (4 * i)).take 4)))) st (bitAt st 0 || bitAt st 1) (s.now - 1000000 * age)) s) s
    (s', (List.range (min n 3)).map (first 0))
  else if prio = 0 ∧ type = 9 then
    let st := (d.headD 0).toNat
    let loc := ofLeBytes ((d.drop 2).take 2)
    let v : Option Int := if st = 0 then some (-65536) else if st = 1 then some (rneDiv (loc * 65536 : Nat) 10) else none
    let s' := (List.range 4).foldl (fun (s : State) i =>
      (s.pvalsOf b node 1 i).foldl (fun (s : State) k => s.takePval k v st (decide (2 ≤ st)) s.now) s) s
    (s', (List.range 3).map (first 1))
  else (s, [])

/-- A STATUS frame (R279, R349): the epochs it names are seen, and one above the module's own sets FENCED_DEV. -/
def State.peserStatus (s : State) (b : Nat) (fr : CanFrame) : State :=
  if fr.ide ∨ bits fr.id 9 2 ≠ 3 ∨ bits fr.id 0 4 ≠ 0xA ∨ bits fr.id 4 5 = 0 then s
  else
    let e := max (ofLeBytes (fr.data.take 4)) (ofLeBytes ((fr.data.drop 4).take 4))
    let s := { s with can := { s.can with seen := max s.can.seen e } }
    if e ≤ s.get F.parLease_EPOCH [] ∨ s.on F.fbErr_FENCED_DEV [b] then s
    else (s.set F.fbErr_FENCED_DEV [b] 1).note (busNote b 0 23 (Reg.off .fbErr [b]) 0 e (some (evAlarm, 1, bits fr.id 4 5)))

/-- Begins the next configuration request of a bus (R330). -/
def State.nextCfg (s : State) (b : Nat) : State :=
  let x := s.bus b
  match x.cfgWait with
  | r :: l => s.setBus b { x with cfg := some r, cfgAt := s.now, cfgSend := true, cfgWait := l }
  | [] => s.setBus b { x with cfg := none, cfgSend := false }

/-- A CFG_RSP from the device asked (R330). -/
def State.peserResponse (s : State) (b : Nat) (fr : CanFrame) : State :=
  match (s.bus b).cfg with
  | some r =>
    if ¬ fr.ide ∧ fr.id = peserId 3 r.node 0xD ∧ ¬ (s.bus b).cfgSend then
      ((s.emit (.bufferWrite r.tag 64 (padTo 15 fr.data))).complete r.tag cOk 0).nextCfg b
    else s
  | none => s

/-- The 128 bytes of a FIFO entry (Table 11.3), as a number. -/
def fifoEntry (fr : CanFrame) (filter : Nat) (ts : Tai) (pvals : List Nat) : Nat :=
  ofLeBytes (leBytes 4 (fr.id + 2 ^ 29 * b2n fr.ide + 2 ^ 30 * b2n fr.fdf + 2 ^ 31) ++ leBytes 1 fr.dlc ++ leBytes 1 fr.data.length ++
    leBytes 1 (b2n fr.brs + 2 * b2n fr.esi) ++ leBytes 1 filter ++ leBytes 8 ts ++
    (List.range 3).flatMap (fun i => leBytes 2 (pvals.getD i 0xFFFF)) ++ leBytes 42 0 ++ padTo 15 fr.data)

/-- Puts a frame into a FIFO, or drops it when the FIFO is full (R273). -/
def State.toFifo (s : State) (b j e : Nat) : State :=
  let x := s.bus b
  let l := if j = 0 then x.fifo0 else x.fifo1
  if 64 ≤ l.length then (s.set F.fbFifo_OVF [b, j] 1).bump F.fbFifo_DROPPED [b, j] 1
  else (s.setBus b (if j = 0 then { x with fifo0 := l ++ [e] } else { x with fifo1 := l ++ [e] })).set F.fbFifo_LEVEL [b, j] (l.length + 1)

/-- Stores a frame in a receive object (R272). -/
def State.toObject (s : State) (b m : Nat) (fr : CanFrame) : State :=
  let s := if s.on F.fbMoStat_NEW [b, m] then s.set F.fbMoStat_OVERWRITE [b, m] 1 else s
  (((s.set F.fbMoStat_NEW [b, m] 1).set F.fbMoStat_DLC [b, m] fr.dlc).set F.fbMoTs_TS [b, m] s.now).setMoData b m (padTo 15 fr.data)

/-- CAN_FRAME_RECEIVED (R272, R273, R279, R281, R282, R330). -/
def execCanFrameReceived (t : Tai) (b : Fin 4) (fr : CanFrame) (s : State) : Host.Outcome State Fault Refusal :=
  let s := s.at t
  if ¬ s.busLive b then .next s
  else
    let rec_ := s.get F.fbErr_REC [b]
    let s := s.busErrors b (s.bus b).tec (if 127 < rec_ then 120 else rec_ - 1)
    if fr.rtr then .next (s.bump F.fbCnt_RTR_DROP [b] 1)
    else
      let s := (s.peserStatus b fr).peserResponse b fr
      match s.filterFor b fr with
      | none => .next (s.bump F.fbCnt_UNMATCHED [b] 1)
      | some i =>
        let act := s.get F.fbFltId_ACT [b, i]
        if act = 4 then .next s
        else
          let (s, pv) := s.peserValues b fr
          if act = 3 then .next (s.toObject b (s.get F.fbFltId_OBJ [b, i]) fr)
          else .next (s.toFifo b (act - 1) (fifoEntry fr i t pv))

/-- Queues a BEAT, and with it EMERG again while a response holds (R278, R399). -/
def State.queueBeat (s : State) (b : Nat) : State :=
  let x := s.bus b
  let m := s.emergMask b
  s.setBus b { x with beat := true, emerg := if m = 0 then x.emerg else some m }

/-- BEAT (R278): due where a multiple of BEAT_MS lies after the commit edge before this one. -/
def execBeat (t : Tai) (s : State) : Host.Outcome State Fault Refusal :=
  let s := s.at t
  let edge := t - 400
  .next ((List.range 4).foldl (fun (s : State) b =>
    let p := 1000000 * s.get F.fbBeat_BEAT_MS [b]
    if s.busLive b ∧ s.on F.fbBeat_EN [b] ∧ s.on F.parStat_ACT [] ∧ edge < (edge / p) * p + s.tF then s.queueBeat b else s) s)

/-- BUS_OFF (R283): a transmit error counter above 255. -/
def execBusOff (t : Tai) (b : Fin 4) (s : State) : Host.Outcome State Fault Refusal :=
  let s := s.at t
  if ¬ s.busLive b ∨ (s.bus b).tec ≤ 255 then .next s
  else
    let old := s.get F.fbErr_STATE [b]
    let s := s.canDiscard b
    let s := s.setBus b { s.bus b with boffAt := t }
    let s := (s.set F.fbErr_STATE [b] 2).bump F.fbErr_BOFF_CNT [b] 1
    .next (s.note (busNote b 0 2 (Reg.off .fbErr [b]) old 2 (some (evAlarm, 1, b.val))))

/-- BOFF_HOLD_EXPIRY (R283). -/
def execBoffHoldExpiry (t : Tai) (b : Fin 4) (s : State) : Host.Outcome State Fault Refusal :=
  let s := s.at t
  if s.get F.fbErr_STATE [b] = 2 ∧ s.on F.fbCfg_EN [b] ∧ (s.bus b).boffAt + 1000000 * s.get F.fbCfg_BOFF_HOLD [b] ≤ t then
    .next (s.set F.fbErr_RECOVERING [b] 1)
  else .next s

/-- The controller is error active again with cleared counters; committed frames re-enter at the next commit edge (R283, R284). -/
def State.busJoin (s : State) (b : Nat) : State :=
  let old := s.get F.fbErr_STATE [b]
  let s := s.setBus b { s.bus b with tec := 0, reenter := true, leaving := false }
  let s := ((((s.set F.fbErr_STATE [b] 0).set F.fbErr_RECOVERING [b] 0).set F.fbErr_TEC [b] 0).set F.fbErr_REC [b] 0).set F.fbErr_WARN [b] 0
  s.note (busNote b 1 0 (Reg.off .fbErr [b]) old 0 (some (evState, 0, b)))

/-- BUS_OFF_RECOVERY_END (R283). -/
def execBusOffRecoveryEnd (t : Tai) (b : Fin 4) (s : State) : Host.Outcome State Fault Refusal :=
  let s := s.at t
  .next (if s.on F.fbErr_RECOVERING [b] then s.busJoin b else s)

/-- CAN_REJOIN (R284, Table 11.7): after 11 recessive bits with EN = 1. -/
def execCanRejoin (t : Tai) (b : Fin 4) (s : State) : Host.Outcome State Fault Refusal :=
  let s := s.at t
  .next (if s.on F.fbCfg_EN [b] ∧ s.get F.fbErr_STATE [b] = 3 then s.busJoin b else s)

/-- An object's newest committed frame enters the queue again, where nothing keeps it out (R283, R284, R353, R401). -/
def State.canAgain (s : State) (b m : Nat) : State :=
  let y := s.bus b
  if ¬ s.on F.parStat_ACT [] ∨ s.get F.fbMoCfg_DIR [b, m] ≠ 1 ∨ s.objHeld b m ∨ y.queue.contains m ∨ (Tbl.find y.msg m).isNone ∨
      y.onBus.any (fun o => decide (o.obj = m)) then s
  else (s.setBus b { y with queue := y.queue ++ [m] }).set F.fbMoStat_TXS [b, m] 1

/-- The re-entry of committed frames at a commit edge (R283, R284, R353). -/
def State.canReenter (s : State) (b : Nat) : State :=
  let x := s.bus b
  x.msg.foldl (fun (s : State) e => s.canAgain b e.1) (s.setBus b { x with reenter := false, resend := [] })

/-- At a commit edge: re-entry of every bus that has rejoined, and of the objects that protection has let go of (R283, R284, R401). -/
def State.canReenterAll (s : State) : State :=
  (List.range 4).foldl (fun (s : State) b =>
    let x := s.bus b
    if ¬ s.busLive b then s
    else if x.reenter then s.canReenter b
    else x.resend.foldl (fun (s : State) m => s.canAgain b m) (s.setBus b { x with resend := [] })) s

/-- PESER_CFG (R330, R331). -/
def execPeserCfg (t : Tai) (tag : BitVec 16) (b : Fin 4) (node timeoutMs : Nat) (req : List Byte) (s : State) :
    Host.Outcome State Fault Refusal :=
  let s := s.at t
  let tag := tag.toNat
  if req.length < 8 ∨ 64 < req.length ∨ node = 0 ∨ 31 < node ∨ 255 < timeoutMs then .next (s.complete tag cFormat 0)
  else if ¬ bitAt (s.get F.jrnGrant_PCIE []) 0 then .next (s.complete tag cPrivilege 0)
  else if s.on F.jrnStat_JOURNAL_FULL [] then .next (s.fullRefused.complete tag cJournalFull 0)
  else if ¬ s.on F.parStat_ACT [] then .next (s.complete tag cNotActive 0)
  else if req.getD 4 0 = 2 ∧ ofLeBytes ((req.drop 8).take 2) < 3 * s.get F.fbBeat_BEAT_MS [b] then .next (s.complete tag cRefused 0)
  else
    let x := s.bus b
    let r : PeserReq := { tag := tag, node := node, timeout := if timeoutMs = 0 then 100 else timeoutMs, req := req }
    let s := s.setBus b { x with cfgWait := x.cfgWait ++ [r] }
    .next (if x.cfg.isSome then s else s.nextCfg b)

/-- PESER_CFG_TIMEOUT (R330). -/
def execPeserCfgTimeout (t : Tai) (b : Fin 4) (s : State) : Host.Outcome State Fault Refusal :=
  let s := s.at t
  match (s.bus b).cfg with
  | some r => .next (if (s.bus b).cfgAt + 1000000 * r.timeout ≤ t then (s.complete r.tag cTimeout 0).nextCfg b else s)
  | none => .next s

/-- Whether an offset is that of an object's `_STAT` (Table 11.6). -/
def isMoStat (off : Nat) : Bool := decide (0x160000 ≤ off ∧ off < 0x1A0000 ∧ 0x8000 ≤ off % 0x10000 ∧ off % 0x80 = 8)

/-- Receive objects are no longer new once a snapshot was taken (Table 11.15). -/
def State.clearNew (s : State) : State :=
  { s with regs := s.regs.map (fun e => if isMoStat e.1 then (e.1, e.2 &&& BitVec.ofNat 64 0xFFFFFFFFFFFFFFDF) else e) }

/-- The FIFOs at a snapshot edge (R273): their entries become snapshot class 5, by unit, and they are emptied. -/
def State.takeFifos (s : State) : State × Tbl Nat :=
  (List.range 8).foldl (fun (p : State × Tbl Nat) q =>
    let b := q / 2
    let j := q % 2
    let x := p.1.bus b
    let l := if j = 0 then x.fifo0 else x.fifo1
    let units := (List.range l.length).foldl (fun (u : Tbl Nat) i =>
      let e := l.getD i 0
      let n := 2 * (128 * b + 64 * j + i)
      Tbl.put (Tbl.put u n (e % 2 ^ 512)) (n + 1) (e / 2 ^ 512)) p.2
    if l.isEmpty then (p.1, units)
    else ((p.1.setBus b (if j = 0 then { x with fifo0 := [] } else { x with fifo1 := [] })).set F.fbFifo_LEVEL [b, j] 0, units)) (s, [])

end Sys2Proof.Machine
end

