-- ==== Sys2Proof/WellFormed.lean ====
section
/-!
DEFINITION. Which commands are well formed: an operation of a track whose encoding the plan checker accepts at its repeat
(spec/04_isa_compute.md R98, spec/05_isa_control.md R150); every other command.
-/
namespace Sys2Proof

namespace Machine

/-- The issue of an operation of a track; none for any other command. -/
def issueOf : Instr → Option Iss
  | .tmma c _ | .tzero c _ | .tadd c _ | .tmov c _ | .vadd c _ | .vsub c _ | .vmul c _ | .vfma c _ | .vmin c _ | .vmax c _
  | .vabs c _ | .vneg c _ | .vclmp c _ | .vdiv c _ | .vsqrt c _ | .vrcp c _ | .vrsq c _ | .vexp2 c _ | .vlog2 c _ | .vtanh c _
  | .vsig c _ | .vcvt c _ | .vcmp c _ | .vsel c _ | .vand c _ | .vor c _ | .vxor c _ | .vshl c _ | .vshr c _ | .vbc c _
  | .vred c _ | .vperm c _ | .vtrd c _ | .vtwr c _ | .plog c _ | .pset c _ | .mld c _ | .mst c _ | .mldh c _ | .msth c _
  | .mgth c _ | .msct c _ | .mgt16 c _ | .mxrd c _ | .mxwr c _ | .mhrd c _ | .mhwr c _ | .mail c _ _ | .maih c _ _
  | .maadd c _ _ | .mastr c _ _ | .mvs c _ _ _ | .msv c _ _ _ | .mpv c _ _ | .mvp c _ _ | .mfrd c _ | .mfclr c _
  | .sli c _ _ | .slih c _ _ | .sadd c _ | .ssub c _ | .smul c _ | .sdiv c _ | .smin c _ | .smax c _ | .sand c _ | .sor c _
  | .sxor c _ | .sshl c _ | .sshr c _ | .scvt c _ | .scmp c _ | .smov c _ | .slcnt c _ _ | .sloop c _ _ _ | .xarm c _ _ _
  | .xsig c _ | .xwait c _ _ | .xend c | .xing c _ _ _ _ _ | .xemit c _ _ _ _ _ | .xcanq c _ _ _ _ | .xjrn c _ _ | .xclk c _ _
  | .xsnd c _ _ _ _ | .xrcv c _ _ _ _ => some c
  | _ => none

end Machine

/-- The checker's view of a single operation's encoding (`Sys2Proof.Machine.Checks`). -/
def Instr.encOk : Instr → Bool
  | .tmma c a => Machine.tmmaOk c a
  | .tzero _ a => Machine.tzeroOk a
  | .tadd _ a => Machine.taccOk a
  | .tmov _ a => Machine.taccOk a
  | .vadd c a => Machine.varithOk c a 2
  | .vsub c a => Machine.varithOk c a 2
  | .vmul c a => Machine.varithOk c a 2
  | .vfma c a => Machine.varithOk c a 3
  | .vmin c a => Machine.varithOk c a 2
  | .vmax c a => Machine.varithOk c a 2
  | .vabs c a => Machine.varithOk c a 1
  | .vneg c a => Machine.varithOk c a 1
  | .vclmp c a => Machine.varithOk c a 3
  | .vdiv c a => Machine.vdivOk c a 2
  | .vsqrt c a => Machine.vdivOk c a 1
  | .vrcp c a => Machine.vfunOk c a
  | .vrsq c a => Machine.vfunOk c a
  | .vexp2 c a => Machine.vfunOk c a
  | .vlog2 c a => Machine.vfunOk c a
  | .vtanh c a => Machine.vfunOk c a
  | .vsig c a => Machine.vfunOk c a
  | .vcvt c a => Machine.vcvtOk c a
  | .vcmp c a => Machine.vcmpOk c a
  | .vsel c a => Machine.varithOk c a 2
  | .vand c a => Machine.vbitOk c a 2
  | .vor c a => Machine.vbitOk c a 2
  | .vxor c a => Machine.vbitOk c a 2
  | .vshl c a => Machine.vbitOk c a 1
  | .vshr c a => Machine.vbitOk c a 1
  | .vbc c a => Machine.vbcOk c a
  | .vred c a => Machine.vredOk c a
  | .vperm c a => Machine.vpermOk c a
  | .vtrd c a => Machine.vtileOk c a a.vd.toNat (Machine.advD a)
  | .vtwr c a => Machine.vtileOk c a a.va.toNat (Machine.advA a)
  | .plog _ a => Machine.plogOk a
  | .pset _ a => Machine.psetOk a
  | .mld c a => Machine.memOk c a 1 false
  | .mst c a => Machine.memOk c a 1 false
  | .mldh c a => Machine.memOk c a 4 false
  | .msth c a => Machine.memOk c a 4 false
  | .mgth c a => Machine.memOk c a 1 true
  | .msct c a => Machine.memOk c a 1 true
  | .mgt16 c a => Machine.memOk c a 16 true
  | .mpv _ pr _ => decide (pr.toNat ≠ 0)
  | .sand _ a => Machine.sint64Ok a
  | .sor _ a => Machine.sint64Ok a
  | .sxor _ a => Machine.sint64Ok a
  | .sshl _ a => Machine.sshOk a
  | .sshr _ a => Machine.sshOk a
  | .scmp _ a => Machine.scmpOk a
  | .slcnt c _ _ => Machine.singleOk c
  | .sloop c _ _ _ => Machine.singleOk c
  | .xarm c _ target _ => Machine.xarmOk c target
  | .xwait c _ _ => Machine.singleOk c
  | .xend c => Machine.singleOk c
  | .xing c _ cls _ index cnt => Machine.xingOk c cls index cnt
  | .xemit c ocls fmt vr index cnt => Machine.xemitOk c ocls fmt vr index cnt
  | _ => true

/-- The encoding is one that the checker accepts, at a repeat that its bundle has (R97, R98). -/
def Instr.wf (i : Instr) : Bool := i.encOk && (Machine.issueOf i).all (fun c => decide (c.rep ≤ c.rpt.toNat))

end Sys2Proof
end

