-- ==== Sys2Proof/Machine/Bundle.lean ====
section
/-!
DEFINITION. The bundles of a track: header, slots and the encodings of their operations (spec/04_isa_compute.md R96 to R98, R110, R113,
R117, spec/05_isa_control.md R124, R127, R131), and the issue interval of an operation (R99).
-/
namespace Sys2Proof.Machine

/-- A field of a slot: w bits from bit lo on. -/
def fld (w x lo : Nat) : BitVec w := BitVec.ofNat w (x >>> lo)

/-- Whether bits [lo + w − 1 : lo] are 0, as a field that an encoding marks reserved must be (R98). -/
def rsv (x lo w : Nat) : Bool := decide (bits x lo w = 0)

/-- An operation whose reserved bits are 0. -/
def kept (ok : Bool) (i : Instr) : Option Instr := if ok then some i else none

/-- Fields of the T slot (Table 4.7). -/
def tArg (x : Nat) : TArg :=
  { fmta := fld 4 x 36, fmtb := fld 4 x 32, td := fld 3 x 29, va := fld 6 x 23, vb := fld 6 x 17, vs := fld 6 x 11, z := bitAt x 10,
    av := bitAt x 9, ts := fld 3 x 6 }

/-- Fields of the V slot (Table 4.9). -/
def vArg (x : Nat) : VArg :=
  { fmt := fld 4 x 36, vd := fld 6 x 30, va := fld 6 x 24, vb := fld 6 x 18, vc := fld 6 x 12, rm := bitAt x 11, avm := fld 4 x 7, fn := fld 7 x 0 }

/-- Fields of a register–memory operation (Table 4.11). -/
def memArg (x : Nat) : MemArg :=
  { v := fld 6 x 34, aa := fld 4 x 30, ai := fld 4 x 26, pi := bitAt x 25, av := bitAt x 24, off := fld 16 x 8 }

/-- Fields of a block transfer (Table 4.11). -/
def blkArg (x : Nat) : BlkArg :=
  { al := fld 4 x 36, ar := fld 4 x 32, len := fld 8 x 24, slu := fld 13 x 11, rte := fld 10 x 1, pi := bitAt x 0 }

/-- Fields of the S slot (Table 5.1). -/
def sArg (x : Nat) : SArg := { ty := bitAt x 39, sd := fld 5 x 34, sa := fld 5 x 29, sb := fld 5 x 24, fn := fld 24 x 0 }

/-- The T slot (Tables 4.7, 4.8). -/
def tSlot (c : Iss) (x : Nat) : Option Instr :=
  let a := tArg x
  let ok := rsv x 0 6
  match bits x 40 8 with
  | 0x01 => kept ok (.tmma c a)
  | 0x02 => kept ok (.tzero c a)
  | 0x03 => kept ok (.tadd c a)
  | 0x04 => kept ok (.tmov c a)
  | _ => none

/-- The V slot (Tables 4.9, 4.10). -/
def vSlot (c : Iss) (x : Nat) : Option Instr :=
  let a := vArg x
  match bits x 40 8 with
  | 0x10 => some (.vadd c a)
  | 0x11 => some (.vsub c a)
  | 0x12 => some (.vmul c a)
  | 0x13 => some (.vfma c a)
  | 0x14 => some (.vmin c a)
  | 0x15 => some (.vmax c a)
  | 0x16 => some (.vabs c a)
  | 0x17 => some (.vneg c a)
  | 0x18 => some (.vclmp c a)
  | 0x19 => some (.vdiv c a)
  | 0x1A => some (.vsqrt c a)
  | 0x1B => some (.vrcp c a)
  | 0x1C => some (.vrsq c a)
  | 0x1D => some (.vexp2 c a)
  | 0x1E => some (.vlog2 c a)
  | 0x1F => some (.vtanh c a)
  | 0x20 => some (.vsig c a)
  | 0x21 => some (.vcvt c a)
  | 0x22 => some (.vcmp c a)
  | 0x23 => some (.vsel c a)
  | 0x24 => some (.vand c a)
  | 0x25 => some (.vor c a)
  | 0x26 => some (.vxor c a)
  | 0x27 => some (.vshl c a)
  | 0x28 => some (.vshr c a)
  | 0x29 => some (.vbc c a)
  | 0x2A => some (.vred c a)
  | 0x2B => some (.vperm c a)
  | 0x2C => some (.vtrd c a)
  | 0x2D => some (.vtwr c a)
  | 0x2E => some (.plog c a)
  | 0x2F => some (.pset c a)
  | _ => none

/-- The M slot (Tables 4.11, 4.12). -/
def mSlot (c : Iss) (x : Nat) : Option Instr :=
  let a := memArg x
  let b := blkArg x
  let ok := rsv x 0 8
  match bits x 40 8 with
  | 0x40 => kept ok (.mld c a)
  | 0x41 => kept ok (.mst c a)
  | 0x42 => kept ok (.mldh c a)
  | 0x43 => kept ok (.msth c a)
  | 0x44 => kept ok (.mgth c a)
  | 0x45 => kept ok (.msct c a)
  | 0x46 => kept ok (.mgt16 c a)
  | 0x48 => some (.mxrd c b)
  | 0x49 => some (.mxwr c b)
  | 0x4A => some (.mhrd c b)
  | 0x4B => some (.mhwr c b)
  | 0x50 => kept (rsv x 0 4) (.mail c (fld 4 x 36) (fld 32 x 4))
  | 0x51 => kept (rsv x 0 20) (.maih c (fld 4 x 36) (fld 16 x 20))
  | 0x52 => kept (rsv x 0 4) (.maadd c (fld 4 x 36) (fld 32 x 4))
  | 0x53 => kept (rsv x 0 12) (.mastr c (fld 4 x 36) (fld 24 x 12))
  | 0x58 => kept (rsv x 0 26) (.mvs c (fld 5 x 35) (fld 6 x 29) (fld 3 x 26))
  | 0x59 => kept (rsv x 0 26) (.msv c (fld 5 x 35) (fld 6 x 29) (fld 3 x 26))
  | 0x5A => kept (rsv x 0 29 && rsv x 35 2) (.mpv c (fld 3 x 37) (fld 6 x 29))
  | 0x5B => kept (rsv x 0 29 && rsv x 35 2) (.mvp c (fld 3 x 37) (fld 6 x 29))
  | 0x5C => kept (rsv x 0 35) (.mfrd c (fld 5 x 35))
  | 0x5D => kept (rsv x 0 34) (.mfclr c (fld 6 x 34))
  | _ => none

/-- The S slot (Tables 5.1, 5.2, R127). -/
def sSlot (c : Iss) (x : Nat) : Option Instr :=
  let a := sArg x
  let imm := rsv x 39 1 && rsv x 32 2
  match bits x 40 8 with
  | 0x80 => kept imm (.sli c (fld 5 x 34) (fld 32 x 0))
  | 0x81 => kept imm (.slih c (fld 5 x 34) (fld 32 x 0))
  | 0x82 => some (.sadd c a)
  | 0x83 => some (.ssub c a)
  | 0x84 => some (.smul c a)
  | 0x85 => some (.sdiv c a)
  | 0x86 => some (.smin c a)
  | 0x87 => some (.smax c a)
  | 0x88 => some (.sand c a)
  | 0x89 => some (.sor c a)
  | 0x8A => some (.sxor c a)
  | 0x8B => some (.sshl c a)
  | 0x8C => some (.sshr c a)
  | 0x8D => some (.scvt c a)
  | 0x8E => some (.scmp c a)
  | 0x8F => some (.smov c a)
  | 0x90 => kept (rsv x 39 1 && rsv x 0 21) (.slcnt c (fld 2 x 37) (fld 16 x 21))
  | 0x91 => kept (rsv x 39 1 && rsv x 0 7) (.sloop c (fld 2 x 37) (fld 14 x 23) (fld 16 x 7))
  | _ => none

/-- The X slot (Tables 5.4, 5.5). -/
def xSlot (c : Iss) (x : Nat) : Option Instr :=
  match bits x 40 8 with
  | 0xA0 => some (.xarm c (fld 13 x 27) (fld 16 x 11) (fld 11 x 0))
  | 0xA1 => kept (rsv x 0 27) (.xsig c (fld 13 x 27))
  | 0xA2 => kept (rsv x 0 11) (.xwait c (fld 13 x 27) (fld 16 x 11))
  | 0xA3 => kept (rsv x 0 40) (.xend c)
  | 0xA8 => some (.xing c (fld 13 x 27) (fld 3 x 24) (fld 4 x 20) (fld 16 x 4) (fld 4 x 0))
  | 0xA9 => kept (rsv x 0 8) (.xemit c (fld 4 x 36) (fld 4 x 32) (fld 6 x 26) (fld 14 x 12) (fld 4 x 8))
  | 0xAA => kept (rsv x 0 22) (.xcanq c (fld 4 x 36) (fld 2 x 34) (fld 8 x 26) (fld 4 x 22))
  | 0xAB => kept (rsv x 0 24) (.xjrn c (fld 4 x 36) (fld 12 x 24))
  | 0xAC => kept (rsv x 0 32) (.xclk c (fld 5 x 35) (fld 3 x 32))
  | 0xAD => kept (rsv x 0 11) (.xsnd c (fld 13 x 27) (fld 4 x 23) (fld 4 x 19) (fld 8 x 11))
  | 0xAE => kept (rsv x 0 13) (.xrcv c (fld 13 x 27) (fld 4 x 23) (fld 2 x 21) (fld 8 x 13))
  | _ => none

/-- A bundle's header (Table 4.2) and its 48-bit slots in the order T, V, M, S, X, `none` for one that is not enabled. -/
structure Bundle where
  psel : BitVec 3
  pinv : Bool
  rpt : BitVec 4
  slots : List (Option Nat)
deriving DecidableEq, Repr

/-- Slot k, 0 for T to 4 for X, of a bundle (Tables 4.1, 4.2): bits [63 + 48k : 16 + 48k], enabled by header bit 7 − k; the value beside
says whether a slot that is not enabled holds 0. -/
def slotOf (w k : Nat) : Option Nat × Bool :=
  let x := bits w (16 + 48 * k) 48
  if bitAt w (7 - k) then (some x, true) else (none, decide (x = 0))

/-- A bundle, unless header [2:0] or a slot that is not enabled holds a bit (R96 to R98). -/
def Bundle.decode (w : Nat) : Option Bundle :=
  let l := (List.range 5).map (slotOf w)
  if rsv w 0 3 && l.all Prod.snd then
    some { psel := fld 3 w 13, pinv := bitAt w 12, rpt := fld 4 w 8, slots := l.map Prod.fst }
  else none

/-- The operation of slot k at an issue (R96). -/
def slotOp (k : Nat) (c : Iss) (x : Nat) : Option Instr :=
  match k with
  | 0 => tSlot c x
  | 1 => vSlot c x
  | 2 => mSlot c x
  | 3 => sSlot c x
  | _ => xSlot c x

/-- The operations that a bundle issues, each with its slot; `none` where an enabled slot holds no listed operation or a reserved bit
(R98). -/
def Bundle.ops (b : Bundle) (c : Iss) : Option (List (Nat × Instr)) :=
  (b.slots.zipIdx.filterMap (fun e => e.1.map (fun x => (e.2, x)))).mapM (fun (e : Nat × Nat) => (slotOp e.1 c e.2).map (fun i => (e.1, i)))

/-- The issue interval of an operation (Tables 4.6, 4.8, 4.10, 4.12, 5.2, 5.5). -/
def interval : Instr → Nat
  | .tmma _ a => match a.fmta.toNat with
    | 0 => 8
    | 1 => 2
    | 8 => 2
    | 9 => 2
    | _ => 1
  | .mgt16 _ _ => 4
  | _ => 1

/-- The spacing I of a bundle's repeats (R99). -/
def spacing (ops : List (Nat × Instr)) : Nat := ops.foldl (fun (m : Nat) e => max m (interval e.2)) 1

end Sys2Proof.Machine
end

