-- ==== Sys2Proof/Machine/Walk.lean ====
section
/-!
DEFINITION. The planned issue of a track, as the checker follows it (spec/04_isa_compute.md R99, R102, R106, spec/05_isa_control.md R127,
R128, R138, R141): every operation that a tussock issues in the frames of a run, with its planned clock and the addresses it names.
-/
namespace Sys2Proof.Machine

/-- One planned issue of an operation: frame of the run, planned clock, waits before it in its section, its slot and the operation, and
the contents of the address registers that it names, in the order of its fields, before and after its post-increments. -/
structure Issue where
  k : Nat
  clk : Nat
  seg : Nat
  slot : Nat
  op : Instr
  addr : List Nat
  next : List Nat
deriving DecidableEq, Repr

/-- The checker's walk of a track: frame of the run, planned clock, position, waits so far in the section, open loops and pass counts,
what it knows of the address registers and of their strides (`none` for a register that a mask of unknown value may have written,
notes/assumptions/131.md), the issues so far, newest first, and where it found a fault. -/
structure Walk where
  k : Nat := 0
  clk : Nat := 0
  pos : Nat := 0
  seg : Nat := 0
  loops : List LoopFrame := []
  counts : Tbl Nat := []
  a : Tbl (Option Nat) := []
  str : Tbl (Option Int) := []
  out : List Issue := []
  bad : Option (Nat × Nat) := none
deriving DecidableEq, Repr

/-- The walk ends with a code of Table 6.5 at a position. -/
def Walk.fail (w : Walk) (code : Nat) : Walk := { w with bad := some (code, w.pos) }

/-- The address registers that an operation names, in the order of its fields. -/
def aregs : Instr → List Nat
  | .mld _ a | .mst _ a | .mldh _ a | .msth _ a => [a.aa.toNat]
  | .mgth _ a | .msct _ a | .mgt16 _ a => [a.aa.toNat, a.ai.toNat]
  | .mxrd _ a | .mxwr _ a | .mhrd _ a | .mhwr _ a => [a.al.toNat, a.ar.toNat]
  | .xing _ _ _ al _ _ | .xcanq _ al _ _ _ | .xjrn _ al _ | .xsnd _ _ al _ _ | .xrcv _ _ al _ _ => [al.toNat]
  | _ => []

/-- The address registers that an operation post-increments (Table 4.11, R130). -/
def postIncs (i : Instr) : List Nat :=
  match i with
  | .mld _ a | .mst _ a | .mldh _ a | .msth _ a | .mgth _ a | .msct _ a | .mgt16 _ a => if a.pi then aregs i else []
  | .mxrd _ a | .mxwr _ a | .mhrd _ a | .mhwr _ a => if a.pi then aregs i else []
  | .xing .. | .xcanq .. | .xjrn .. | .xsnd .. | .xrcv .. => aregs i
  | _ => []

/-- The address register that an operation writes from a constant, and its value after it, from its value before (Table 4.12). -/
def setsA (i : Instr) (old : Nat → Option Nat) : Option (Nat × Option Nat) :=
  match i with
  | .mail _ ad imm => some (ad.toNat, some imm.toNat)
  | .maih _ ad imm => some (ad.toNat, (old ad.toNat).map (fun x => x % 2 ^ 32 + imm.toNat * 2 ^ 32))
  | .maadd _ ad imm => some (ad.toNat, (old ad.toNat).map (fun x => addAddr x imm.toInt))
  | _ => none

/-- The bundle mask's bit 0 where the header alone fixes it: P0 reads as all ones (R103). -/
def knownMask (b : Bundle) : Option Bool := if b.psel.toNat = 0 then some (!b.pinv) else none

/-- What the walk knows of an address register. -/
def Walk.areg (w : Walk) (r : Nat) : Option Nat := Tbl.at w.a r none
/-- What it knows of a stride. -/
def Walk.stride (w : Walk) (r : Nat) : Option Int := Tbl.at w.str r none

/-- An address register advances by its stride. -/
def Walk.advance (w : Walk) (r : Nat) : Walk :=
  { w with a := Tbl.put w.a r ((w.areg r).bind (fun x => (w.stride r).map (fun d => addAddr x d))) }

/-- The address registers after one operation, masked by bit 0 of the bundle mask but for post-increments (R102, R106). -/
def Walk.addrStep (m : Option Bool) (w : Walk) (i : Instr) : Walk :=
  let w := (postIncs i).foldl Walk.advance w
  let w := match setsA i w.areg with
    | some (r, x) => match m with
      | some true => { w with a := Tbl.put w.a r x }
      | some false => w
      | none => { w with a := Tbl.put w.a r none }
    | none => w
  match i with
  | .mastr _ ad imm => match m with
    | some true => { w with str := Tbl.put w.str ad.toNat (some imm.toInt) }
    | some false => w
    | none => { w with str := Tbl.put w.str ad.toNat none }
  | _ => w

/-- One issue of a bundle: its operations with the addresses they read, then the address registers (R101, R102). -/
def Walk.issueOnce (w : Walk) (b : Bundle) (ops : List (Nat × Instr)) : Walk :=
  if ops.any (fun e => !e.2.wf || (aregs e.2).any (fun r => (w.areg r).isNone) || (postIncs e.2).any (fun r => (w.stride r).isNone)) then w.fail 7
  else
    let new := ops.map (fun e =>
      let w' := (postIncs e.2).foldl Walk.advance w
      ({ k := w.k, clk := w.clk, seg := w.seg, slot := e.1, op := e.2, addr := (aregs e.2).map (fun r => (w.areg r).getD 0),
         next := (aregs e.2).map (fun r => (w'.areg r).getD 0) } : Issue))
    ops.foldl (fun (w : Walk) e => w.addrStep (knownMask b) e.2) { w with out := new.reverse ++ w.out }

/-- The repeats from i on, `n` of them, spaced I clocks apart (R99). -/
def Walk.repeats (tus : Fin 256) (b : Bundle) (sp : Nat) : Nat → Nat → Walk → Walk
  | 0, _, w => w
  | n + 1, i, w =>
    let c : Iss := { tus := tus, clk := w.clk, pos := w.pos, rep := i, rpt := b.rpt, psel := b.psel, pinv := b.pinv, run := w.k }
    match b.ops c with
    | none => w.fail 7
    | some ops =>
      let w := w.issueOnce b ops
      if w.bad.isSome then w else Walk.repeats tus b sp n (i + 1) { w with clk := w.clk + sp }

/-- What follows the last bundle of a pass, innermost loop first: the strides of AMASK, then the next pass or the end of the loop; the
position that issues next (R127). -/
def Walk.passEnd (w : Walk) : List LoopFrame → Walk
  | [] => { w with loops := [], pos := w.pos + 1 }
  | f :: r =>
    if w.pos ≠ f.p + f.len then { w with loops := f :: r, pos := w.pos + 1 }
    else
      let known := (bitList f.amask 16).all (fun r => (w.areg r).isSome && (w.stride r).isSome)
      let w := (bitList f.amask 16).foldl Walk.advance (if known then w else w.fail 7)
      if 0 < f.left then { w with loops := { f with left := f.left - 1 } :: r, pos := f.p + 1 } else Walk.passEnd w r

/-- An SLOOP opens (R128): one level below the loop that encloses it, within its body, after an SLCNT of its level in the section and
within the section, which ends at `last`. -/
def Walk.open_ (w : Walk) (lvl len amask last : Nat) : Walk :=
  let inside := match w.loops with
    | [] => decide (w.pos + len < last)
    | f :: _ => decide (w.pos + len ≤ f.p + f.len)
  match Tbl.find w.counts lvl with
  | some n => if inside && decide (lvl = w.loops.length ∧ lvl < 4) then
      { w with loops := ⟨lvl, w.pos, len, amask, n - 1⟩ :: w.loops, pos := w.pos + 1 } else w.fail 7
  | none => w.fail 7

/-- The walk after a bundle's last repeat (R99, R127, R138, R141): past a wait the next bundle is planned for its planned release; after
an XEND the next frame's section follows. -/
def Walk.after (w : Walk) (ops : List (Nat × Instr)) (sp last : Nat) : Walk :=
  let w := { w with clk := w.clk + 1 - sp }
  let w := match ops.findSome? (fun e => match e.2 with | .xwait _ _ hold => some hold.toNat | _ => none) with
    | some h => { w with clk := w.clk + h, seg := w.seg + 1 }
    | none => w
  let w := match ops.findSome? (fun e => match e.2 with | .slcnt _ lvl n1 => some (lvl.toNat, n1.toNat + 1) | _ => none) with
    | some (l, n) => { w with counts := Tbl.put w.counts l n }
    | none => w
  if ops.any (fun e => match e.2 with | .xend _ => true | _ => false) then
    if w.loops.isEmpty then { w with k := w.k + 1, clk := 0, seg := 0, counts := [], pos := w.pos + 1 } else w.fail 7
  else
    match ops.findSome? (fun e => match e.2 with | .sloop _ lvl len1 am => some (lvl.toNat, len1.toNat + 1, am.toNat) | _ => none) with
    | some (l, n, am) => w.open_ l n am last
    | none => w.passEnd w.loops

/-- Where the section that holds a position ends: its XEND (R141). -/
def sectionEnd (ends : List Nat) (pos : Nat) : Nat := (ends.find? (fun e => decide (pos ≤ e))).getD 0

/-- One bundle of the walk. -/
def Walk.bundle (tus : Fin 256) (track : List (BitVec 256)) (ends : List Nat) (w : Walk) : Walk :=
  match (track[w.pos]?).bind (fun x => Bundle.decode x.toNat) with
  | none => w.fail 7
  | some b =>
    let c : Iss := { tus := tus, clk := w.clk, pos := w.pos, rep := 0, rpt := b.rpt, psel := b.psel, pinv := b.pinv, run := w.k }
    match b.ops c with
    | none => w.fail 7
    | some ops =>
      let sp := spacing ops
      let w := Walk.repeats tus b sp (b.rpt.toNat + 1) 0 w
      if w.bad.isSome then w else w.after ops sp (sectionEnd ends w.pos)

/-- Follows a section to its end, or to slot 60, whose first clock is `lim`, where the deadline fails (Table 5.9). -/
def Walk.section (tus : Fin 256) (track : List (BitVec 256)) (ends : List Nat) (lim : Nat) : Nat → Walk → Walk
  | 0, w => w.fail 9
  | fuel + 1, w =>
    if lim ≤ w.clk then w.fail 9
    else
      let w' := w.bundle tus track ends
      if w'.bad.isSome ∨ w'.k ≠ w.k then w' else Walk.section tus track ends lim fuel w'

/-- Whether a bundle holds an operation of the X slot, by its opcode. -/
def hasX (op : Nat) (x : BitVec 256) : Bool := bitAt x.toNat 3 && decide (bits x.toNat 248 8 = op)

/-- Positions of the XENDs of a track: the ends of its frame sections, in order (R141). -/
def sectionEnds (track : List (BitVec 256)) : List Nat :=
  (track.zipIdx.filter (fun e => hasX 0xA3 e.1)).map Prod.snd

/-- First position of a section. -/
def sectionStart (ends : List Nat) (i : Nat) : Nat := if i = 0 then 0 else ends.getD (i - 1) 0 + 1

/-- `n` frames from frame k of a run on, whose first frame falls in section `first` of `c` and its last is frame `depth`; past it no
register holds anything (R47, R48, R101, R141). -/
def Walk.frames (tus : Fin 256) (track : List (BitVec 256)) (ends : List Nat) (lim c first depth : Nat) : Nat → Walk → Walk
  | 0, w => w
  | n + 1, w =>
    let w := if w.k = depth + 1 then { w with a := [], str := [] } else w
    let w := Walk.section tus track ends lim lim { w with pos := sectionStart ends ((first + w.k) % c), loops := [], counts := [] }
    if w.bad.isSome then w else Walk.frames tus track ends lim c first depth n w

end Sys2Proof.Machine
end

