-- ==== Sys2Proof/Machine/Track.lean ====
section
/-!
DEFINITION. What check 0x07 TRACK asks of the issues of a run (spec/04_isa_compute.md R98 to R102, R112, spec/05_isa_control.md R128 to
R130): busy units, registers read and written, accumulator chains.
-/
namespace Sys2Proof.Machine

/-- Keys of the registers of Table 4.4: V0–V63, S0–S31, P0–P7, A0–A15 and their strides, T0–T7. -/
def keyV (r : Nat) : Nat := r
def keyS (r : Nat) : Nat := 64 + r
def keyP (r : Nat) : Nat := 96 + r
def keyA (r : Nat) : Nat := 112 + r
def keyStr (r : Nat) : Nat := 128 + r
def keyT (r : Nat) : Nat := 144 + r

/-- A register, or an even–odd pair. -/
def pairOf (key : Nat) (pr : Bool) : List Nat := if pr then [key, key + 1] else [key]

/-- The V register that a V-slot operation's field names at this repeat (R102). -/
def vKey (c : Iss) (r : Nat) (adv : Bool) : Nat := keyV (regAt r adv c.rep)

/-- The operands of a V-slot operation of n sources. -/
def vSources (c : Iss) (a : VArg) (n : Nat) : List Nat :=
  [vKey c a.va.toNat (advA a), vKey c a.vb.toNat (advB a), vKey c a.vc.toNat (advC a)].take n

/-- The V register, or pair, of VTRD and VTWR: `v` its field, `adv` whether it advances (R102). -/
def tileV (c : Iss) (a : VArg) (v : Nat) (adv : Bool) : List Nat :=
  let pr := pairCode a.fmt.toNat
  pairOf (keyV (if adv then v + (if pr then 2 else 1) * c.rep else v)) pr

/-- The A or B operand of a TMMA at this repeat. -/
def tmmaKeys (c : Iss) (a : TArg) (v : Nat) : List Nat :=
  let pr := decide (a.fmta.toNat = 0)
  pairOf (keyV (if a.av then v + (if pr then 2 else 1) * c.rep else v)) pr

/-- Whether the accumulator of a TMMA, or the kind of a TADD or TMOV, takes a tile pair. -/
def tPair (a : TArg) : Bool := pairCode a.fmta.toNat

/-- The registers that an operation reads (R101), beside the bundle's predicate. -/
def regReads (i : Instr) : List Nat :=
  let addr := (aregs i).map keyA ++ (postIncs i).map keyStr
  match i with
  | .tmma c a => tmmaKeys c a a.va.toNat ++ tmmaKeys c a a.vb.toNat ++ (if a.fmta.toNat = 6 then [keyV a.vs.toNat] else []) ++
      (if a.z ∧ c.rep = 0 then [] else pairOf (keyT a.td.toNat) (tPair a))
  | .tadd _ a => pairOf (keyT a.td.toNat) (tPair a) ++ pairOf (keyT a.ts.toNat) (tPair a)
  | .tmov _ a => pairOf (keyT a.ts.toNat) (tPair a)
  | .vadd c a | .vsub c a | .vmul c a | .vmin c a | .vmax c a | .vdiv c a | .vcmp c a | .vand c a | .vor c a | .vxor c a => vSources c a 2
  | .vfma c a | .vclmp c a => vSources c a 3
  | .vabs c a | .vneg c a | .vsqrt c a | .vrcp c a | .vrsq c a | .vexp2 c a | .vlog2 c a | .vtanh c a | .vsig c a | .vshl c a | .vshr c a
  | .vred c a => vSources c a 1
  | .vcvt c a => vSources c a (if a.fmt.toNat = 6 then 2 else 1)
  | .vsel c a => keyP (a.fn.toNat / 16 % 8) :: vSources c a 2
  | .vbc _ a => [keyS (a.fn.toNat % 32)]
  | .vperm c a => vSources c a (if a.fn.toNat / 16 % 8 = 2 ∨ a.fn.toNat / 16 % 8 = 3 then 2 else 1)
  | .vtrd _ a => pairOf (keyT (a.fn.toNat / 16 % 8)) (pairCode a.fmt.toNat)
  | .vtwr c a => tileV c a a.va.toNat (advA a)
  | .plog _ a => [keyP (a.va.toNat % 8), keyP (a.vb.toNat % 8)]
  | .mst c a | .msct c a => keyV (if a.av then a.v.toNat + c.rep else a.v.toNat) :: addr
  | .msth c a => (List.range 4).map (fun j => keyV ((if a.av then a.v.toNat + 4 * c.rep else a.v.toNat) + j)) ++ addr
  | .maadd _ ad _ => [keyA ad.toNat]
  | .mvs _ _ vr _ | .mpv _ _ vr => [keyV vr.toNat]
  | .msv _ sr _ _ => [keyS sr.toNat]
  | .mvp _ pr _ => [keyP pr.toNat]
  | .sadd _ a | .ssub _ a | .smul _ a | .sdiv _ a | .smin _ a | .smax _ a | .sand _ a | .sor _ a | .sxor _ a | .scmp _ a =>
      [keyS a.sa.toNat, keyS a.sb.toNat]
  | .sshl _ a | .sshr _ a | .scvt _ a | .smov _ a => [keyS a.sa.toNat]
  | .xemit c _ _ vr _ _ => [keyV (vr.toNat + c.rep)]
  | _ => addr

/-- The latency of a load: 4 clocks from local SRAM, 12 from the own hummock's (Table 4.12). -/
def loadLat (addr : List Nat) : Nat := if bits (addr.headD 0) 45 3 = 0 then 4 else 12

/-- The registers that an operation writes, each with its latency (R101, Tables 4.8, 4.10, 4.12, 5.2, 5.5). -/
def regWrites (i : Instr) (addr : List Nat) : List (Nat × Nat) :=
  let inc := (postIncs i).map (fun r => (keyA r, 1))
  let at_ := fun (lat : Nat) (l : List Nat) => l.map (fun k => (k, lat))
  let v := fun (c : Iss) (a : VArg) (lat : Nat) => [(vKey c a.vd.toNat (advD a), lat)]
  let ld := fun (c : Iss) (a : MemArg) (n lat : Nat) =>
    (List.range n).map (fun j => (keyV ((if a.av then a.v.toNat + n * c.rep else a.v.toNat) + j), lat)) ++ inc
  let s := fun (a : SArg) (lat lat64 : Nat) => [(keyS a.sd.toNat, if a.ty then lat64 else lat)]
  match i with
  | .tmma _ a => at_ 8 (pairOf (keyT a.td.toNat) (tPair a))
  | .tzero _ a => [(keyT a.td.toNat, 1)]
  | .tadd _ a => at_ 4 (pairOf (keyT a.td.toNat) (tPair a))
  | .tmov _ a => at_ 2 (pairOf (keyT a.td.toNat) (tPair a))
  | .vadd c a | .vsub c a => v c a (vlat a 3 4)
  | .vmul c a | .vfma c a => v c a (vlat a 4 6)
  | .vmin c a | .vmax c a | .vabs c a | .vneg c a | .vclmp c a => v c a 3
  | .vdiv c a | .vsqrt c a => v c a (vlat a 14 22)
  | .vrcp c a | .vrsq c a | .vexp2 c a | .vlog2 c a | .vtanh c a | .vsig c a => v c a 8
  | .vcvt c a =>
      let bs4 := a.fmt.toNat = 6 ∨ a.fn.toNat / 8 = 6
      v c a (if bs4 then 4 else 3) ++ (if a.fn.toNat / 8 = 6 then [(vKey c a.vb.toNat (advB a), 4)] else [])
  | .vcmp _ a => [(keyP (a.fn.toNat / 16 % 8), 2)]
  | .vsel c a | .vand c a | .vor c a | .vxor c a | .vshl c a | .vshr c a => v c a 1
  | .vbc c a | .vperm c a => v c a 2
  | .vred c a => v c a 6
  | .vtrd c a => at_ 2 (tileV c a a.vd.toNat (advD a))
  | .vtwr _ a => at_ 2 (pairOf (keyT (a.fn.toNat / 16 % 8)) (pairCode a.fmt.toNat))
  | .plog _ a | .pset _ a => [(keyP (a.vd.toNat % 8), 1)]
  | .mld c a | .mgth c a => ld c a 1 (loadLat addr)
  | .mldh c a => ld c a 4 12
  | .mgt16 c a => ld c a 16 12
  | .mail _ ad _ | .maih _ ad _ | .maadd _ ad _ => [(keyA ad.toNat, 1)]
  | .mastr _ ad _ => [(keyStr ad.toNat, 1)]
  | .mvs _ sr _ _ => [(keyS sr.toNat, 2)]
  | .msv _ _ vr _ => [(keyV vr.toNat, 2)]
  | .mpv _ pr _ => [(keyP pr.toNat, 1)]
  | .mvp _ _ vr => [(keyV vr.toNat, 1)]
  | .mfrd _ sd => [(keyS sd.toNat, 1)]
  | .sli _ sd _ | .slih _ sd _ => [(keyS sd.toNat, 1)]
  | .sadd _ a | .ssub _ a => s a 1 4
  | .smul _ a => s a 3 6
  | .sdiv _ a => s a 20 22
  | .smin _ a | .smax _ a => s a 1 2
  | .sand _ a | .sor _ a | .sxor _ a | .sshl _ a | .sshr _ a | .smov _ a => s a 1 1
  | .scvt _ a => s a 3 3
  | .scmp _ a => [(keyP (a.fn.toNat / 2 ^ 21), 2)]
  | .xclk _ sd _ => [(keyS sd.toNat, 2)]
  | _ => inc

/-- A clock of a run: its frame and the clock in it. -/
def absClk (k clk : Nat) : Nat := k * 2 ^ 32 + clk

/-- What the checker follows of a tussock over a run: by register the clock from which it holds a result of the run and the last landing
clocks; by slot the clock from which its unit is free; by tile the clock at which its chain's latency has run, and its kind. -/
structure Scan where
  have_ : Tbl Nat := []
  lands : Tbl (List Nat) := []
  free : Tbl Nat := []
  chain : Tbl Nat := []
  kind : Tbl Nat := []
  bad : Bool := false
deriving DecidableEq, Repr

/-- The accumulator kind that a TMMA's operand format feeds, as the code of Table 4.5. -/
def accCode (f : Nat) : Nat := if f = 0 then 0 else if f = 9 then 0xB else if f = 7 ∨ f = 8 then 0xA else 1

/-- The tile that an operation reads otherwise than as its chain, and the tile that it writes otherwise than by a TMMA (R112). -/
def tilesTouched (i : Instr) : List Nat × List Nat :=
  match i with
  | .tzero _ a => ([], [a.td.toNat])
  | .tadd _ a => ((pairOf a.td.toNat (tPair a)) ++ pairOf a.ts.toNat (tPair a), pairOf a.td.toNat (tPair a))
  | .tmov _ a => (pairOf a.ts.toNat (tPair a), pairOf a.td.toNat (tPair a))
  | .vtrd _ a => (pairOf (a.fn.toNat / 16 % 8) (pairCode a.fmt.toNat), [])
  | .vtwr _ a => ([], pairOf (a.fn.toNat / 16 % 8) (pairCode a.fmt.toNat))
  | _ => ([], [])

/-- The accumulator kind that an operation leaves in the tiles it writes: TMMA, TADD, TMOV and VTWR; TZERO leaves any (0xF). -/
def kindLeft (i : Instr) : Option Nat :=
  match i with
  | .tmma _ a => some (accCode a.fmta.toNat)
  | .tzero .. => some 0xF
  | .tadd _ a | .tmov _ a => some a.fmta.toNat
  | .vtwr _ a => some a.fmt.toNat
  | _ => none

/-- Tiles that an operation writes. -/
def tilesWritten (i : Instr) : List Nat :=
  match i with
  | .tmma _ a => pairOf a.td.toNat (tPair a)
  | i => (tilesTouched i).2

/-- The rejections of R112 for one issue at a clock of the run. -/
def Scan.chainBad (s : Scan) (i : Instr) (clk : Nat) : Bool :=
  let early := fun (t : Nat) => decide (clk < Tbl.at s.chain t 0)
  let (rd, wr) := tilesTouched i
  rd.any early || wr.any early ||
  (match i with
   | .tmma c a => !(a.z && decide (c.rep = 0)) && (pairOf a.td.toNat (tPair a)).any (fun t =>
      !decide (Tbl.at s.kind t 0xF = 0xF) && decide (Tbl.at s.kind t 0xF ≠ accCode a.fmta.toNat))
   | _ => false)

/-- One planned issue (R98 to R102, R112): its unit is free, its registers have been written in the run, no register takes two results in
one clock, and the chains hold; `pred` is the bundle's predicate. The two halves of an MLDH or of a masked write count as one result. -/
def Scan.step (s : Scan) (x : Issue) : Scan :=
  let now := absClk x.k x.clk
  let pred := match issueOf x.op with | some c => c.psel.toNat | none => 0
  let reads := (if pred = 0 then [] else [keyP pred]) ++ (regReads x.op).filter (fun r => decide (r ≠ keyP 0))
  let writes := regWrites x.op x.addr
  let unread := reads.any (fun r => match Tbl.find s.have_ r with | none => true | some c => decide (now < c))
  let clash := writes.any (fun w => (Tbl.at s.lands w.1 []).contains (now + w.2))
  let busy := decide (now < Tbl.at s.free x.slot 0)
  let s := { s with bad := s.bad || unread || clash || busy || s.chainBad x.op now, free := Tbl.put s.free x.slot (now + interval x.op) }
  let s := writes.foldl (fun (s : Scan) w =>
    let at_ := now + w.2
    { s with have_ := Tbl.put s.have_ w.1 (min at_ (Tbl.at s.have_ w.1 at_)),
             lands := Tbl.put s.lands w.1 (at_ :: (Tbl.at s.lands w.1 []).filter (fun c => decide (now < c))) }) s
  let s := match x.op with
    | .tmma _ a => (pairOf a.td.toNat (tPair a)).foldl (fun (s : Scan) t => { s with chain := Tbl.put s.chain t (now + 8) }) s
    | _ => s
  match kindLeft x.op with
  | some k => (tilesWritten x.op).foldl (fun (s : Scan) t => { s with kind := Tbl.put s.kind t k }) s
  | none => s

/-- The first issue of a run, in issue order, that check TRACK rejects. -/
def scanIssues : Scan → List Issue → Option Issue
  | _, [] => none
  | s, x :: r =>
    let s' := s.step x
    if s'.bad then some x else scanIssues s' r

end Sys2Proof.Machine
end

