-- ==== Sys2Proof/Machine/Route.lean ====
section
/-!
DEFINITION. The addresses and banks of what a track accesses, with the clocks (spec/03_fabric.md R69 to R71, spec/04_isa_compute.md R119, R121,
R122).
-/
namespace Sys2Proof.Machine

/-- What a block transfer is: whether local SRAM is its destination, and whether AR is in HBM. -/
def blockOf : Instr → Option (BlkArg × Bool × Bool)
  | .mxrd _ a => some (a, true, false)
  | .mxwr _ a => some (a, false, false)
  | .mhrd _ a => some (a, true, true)
  | .mhwr _ a => some (a, false, true)
  | _ => none

/-- One access of SRAM: the hummock, or `none` for the tussock's own local SRAM; offset, bytes, whether it writes, clocks after the issue,
and whether it goes through the router's local port (R69, R71). -/
structure MemUse where
  hum : Option Nat
  off : Nat
  len : Nat
  write : Bool
  at_ : Nat
  router : Bool
deriving DecidableEq, Repr

/-- A local or own-hummock access at an address (R121). -/
def accAt (own a n : Nat) (write : Bool) (at_ : Nat) : Option MemUse :=
  match decodeAddr a n with
  | some (.local_ off) => if n ≤ 64 then some { hum := none, off := off, len := n, write := write, at_ := at_, router := false } else none
  | some (.hum off) => some { hum := some own, off := off, len := n, write := write, at_ := at_, router := false }
  | _ => none

/-- The constant-store entry r of the table at an index address (Table 4.12). -/
def indexTerm (cst : Mem) (ai n r : Nat) : Option Nat :=
  match decodeAddr ai (2 * n) with
  | some (.const off) => some (Mem.num cst (off + 2 * r) 2)
  | _ => none

/-- `n` words of 64 bytes of local SRAM from an offset on, two a clock from a clock on (R119). -/
def localWords (off n : Nat) (write : Bool) (at_ : Nat) : List MemUse :=
  (List.range n).map (fun j => { hum := none, off := off + 64 * j, len := 64, write := write, at_ := at_ + j / 2, router := false })

/-- `n` units of 64 bytes of local SRAM, one a clock. -/
def localUnits (off n : Nat) (write : Bool) (at_ : Nat) : List MemUse :=
  (List.range n).map (fun j => { hum := none, off := off + 64 * j, len := 64, write := write, at_ := at_ + j, router := false })

/-- `n` chunks of 256 bytes of a hummock's SRAM, one every two clocks. -/
def humChunks (h off n : Nat) (write : Bool) (at_ : Nat) (router : Bool) : List MemUse :=
  (List.range n).map (fun j => { hum := some h, off := off + 256 * j, len := 256, write := write, at_ := at_ + 2 * j, router := router })

/-- The local range of n bytes that an address names. -/
def localAt (a n : Nat) : Option Nat := match decodeAddr a n with | some (.local_ off) => some off | _ => none

/-- The hummock and offset of n bytes that AR names for MXRD and MXWR, for a tussock of hummock `own`. -/
def humAt (own a n : Nat) : Option (Nat × Nat) :=
  match decodeAddr a n with
  | some (.hum off) => some (own, off)
  | some (.other h off) => some (h, off)
  | _ => none

/-- The SRAM accesses of an operation of a tussock of hummock `own`, whose constant store is `cst`, at a rung, its route having `hops`
links; `none` where an address lies outside what R121 allows it. A bank takes an access in the clock in which Table 3.2's latency starts at it
(DESIGN CHOICE, notes/assumptions/134.md). -/
def accesses (own : Nat) (cst : Mem) (rung hops : Nat) (x : Issue) : Option (List MemUse) :=
  let a0 := x.addr.headD 0
  let a1 := x.addr.getD 1 0
  let one := fun (o : Option MemUse) => o.map (fun a => [a])
  match x.op with
  | .mld _ a => one (accAt own (addAddr a0 (64 * a.off.toInt)) 64 false 0)
  | .mst _ a => one (accAt own (addAddr a0 (64 * a.off.toInt)) 64 true 0)
  | .mldh _ a => one (accAt own (addAddr a0 (256 * a.off.toInt)) 256 false 0)
  | .msth _ a => one (accAt own (addAddr a0 (256 * a.off.toInt)) 256 true 0)
  | .mgth _ a => (indexTerm cst a1 1 0).bind (fun i => one (accAt own (addAddr a0 (64 * (a.off.toInt + (i : Int)))) 64 false 0))
  | .msct _ a => (indexTerm cst a1 1 0).bind (fun i => one (accAt own (addAddr a0 (64 * (a.off.toInt + (i : Int)))) 64 true 0))
  | .mgt16 _ a => (List.range 16).mapM (fun r => (indexTerm cst a1 16 r).bind (fun i =>
      (localAt (addAddr a0 (64 * (a.off.toInt + (i : Int)))) 64).map (fun off =>
        { hum := none, off := off, len := 64, write := false, at_ := r / 4, router := false })))
  | .xing _ _ cls _ _ cnt =>
    let n := (cnt.toNat + 1) * (if cls.toNat = 5 then 2 else 1)
    (localAt a0 (64 * n)).map (fun off => localUnits off n true 40)
  | .xcanq .. | .xjrn .. => (localAt a0 64).map (fun off => localUnits off 1 false 0)
  | .xsnd _ _ _ _ len => (localAt a0 (256 * (len.toNat + 1))).map (fun off => localUnits off (4 * (len.toNat + 1)) false 0)
  | .xrcv _ _ _ _ len => (localAt a0 (256 * (len.toNat + 1))).map (fun _ => [])
  | i =>
    match blockOf i with
    | none => some []
    | some (b, toLocal, hbm) =>
      let n := b.len.toNat + 1
      if a0 % 256 ≠ 0 ∨ a1 % 256 ≠ 0 then none
      else
        match localAt a0 (256 * n), hbm with
        | none, _ => none
        | some l, true =>
          match decodeAddr a1 (256 * n) with
          | some (.hbm o) =>
            if 4096 < o % 4096 + 256 * n then none
            else some (if toLocal then localWords l (4 * n) true (firstArrival true true rung (some hops)) else localWords l (4 * n) false 0)
          | _ => none
        | some l, false =>
          (humAt own a1 (256 * n)).map (fun h =>
            let remote := decide (h.1 ≠ own)
            let go := if remote then 4 + 3 * meshHops own h.1 else 0
            if toLocal then humChunks h.1 h.2 n false go remote ++ localWords l (4 * n) true (firstArrival true false rung (if remote then some (meshHops own h.1) else none))
            else localWords l (4 * n) false 0 ++ humChunks h.1 h.2 n true go remote)

end Sys2Proof.Machine
end

