-- ==== Sys2Proof/Machine/Resource.lean ====
section
/-!
DEFINITION. What checks 0x06 to 0x09 of Table 6.5 ask of the tracks of a plan set (spec/03_fabric.md R69 to R79, spec/04_isa_compute.md
R119 to R123, spec/05_isa_control.md R133, R134, R141 to R150, spec/06_plans.md R153 to R156): for every rung and placement, the walks
of all tussocks, their sluices, and the use of every shared resource over all slips.
-/
namespace Sys2Proof.Machine

/-- A variant of a plan (R153): its placement, its rung, and the frame period as its exponent. -/
structure Variant where
  plan : Plan
  place : Nat
  rung : Nat
  periodK : Nat
deriving DecidableEq, Repr

/-- Where a check of the tracks fails: code, tussock and track position (R156). -/
abbrev Spot := Nat × Nat × Nat

/-- The placement of a variant. -/
def Variant.placement (v : Variant) : Placement := (v.plan.placements[v.place]?).getD ⟨[], 0, []⟩

/-- The first clock of slot 60 (R37, R38). -/
def Variant.limit (v : Variant) : Nat := slotClock v.periodK v.rung 60

/-- The constant store of a tussock once every image of the plan for it is loaded (R95, R153). -/
def constStoreOf (p : Plan) (tus : Nat) : Mem :=
  (p.consts.filter (fun c => decide (c.tussock = tus))).foldl (fun (m : Mem) c => Mem.setBytes m c.offset c.bytes) []

/-- The track image of a variant for a tussock. -/
def Variant.track (v : Variant) (tus : Nat) : Option (List (BitVec 256)) :=
  (v.plan.tracks.find? (fun t => decide (t.place = v.place ∧ t.rung = v.rung ∧ t.tussock = tus))).map TrackImage.bundles

/-- Track position of an issue. -/
def Issue.pos (x : Issue) : Nat := match issueOf x.op with | some c => c.pos | none => 0

/-- The planned issues of a tussock over the frames of a run, or of a cadence cycle where that is longer, in order; and where the walk
fails. A track holds one section for each frame of the cadence cycle and nothing after the last (R141). -/
def Variant.walk (v : Variant) (tus : Nat) : List Issue × Option Spot :=
  let c := 2 ^ v.plan.cadenceJ
  match v.track tus with
  | none => ([], some (7, tus, 0))
  | some l =>
    let ends := sectionEnds l
    if ends.length ≠ c ∨ ends.getLast? ≠ some (l.length - 1) then ([], some (8, tus, l.length - 1))
    else
      match l.zipIdx.find? (fun e => (Bundle.decode e.1.toNat).isNone) with
      | some e => ([], some (7, tus, e.2))
      | none =>
        let w := Walk.frames (Fin.ofNat 256 tus) l ends v.limit c v.plan.phase v.plan.depth (max (v.plan.depth + 1) c) {}
        (w.out.reverse, w.bad.map (fun b => (b.1, tus, b.2)))

/-- The walks of a variant's tussocks. -/
def Variant.walks (v : Variant) : List (Nat × List Issue × Option Spot) := v.placement.tussocks.map (fun t => (t, v.walk t))

/-- Check 0x07 of one tussock: the walk, and the registers, units and chains of its run and of the frames after it (R98 to R102, R112). -/
def trackSpot (depth : Nat) (w : Nat × List Issue × Option Spot) : Option Spot :=
  match w.2.2 with
  | some s => if s.1 = 7 then some s else none
  | none =>
    let run := w.2.1.filter (fun x => decide (x.k ≤ depth))
    let rest := w.2.1.filter (fun x => decide (depth < x.k))
    ((scanIssues {} run).orElse (fun _ => scanIssues {} rest)).map (fun x => (7, w.1, x.pos))

/-- The route of a block transfer: from its tussock's hummock by the entry that RTE selects, with its links (R123, R154). -/
def Variant.route (v : Variant) (tus : Nat) (x : Issue) : Option (Route × List (Nat × Nat)) :=
  match blockOf x.op with
  | some (b, _, _) =>
    (routeEntry (constStoreOf v.plan tus) (v.placement.routeBase tus) b.rte.toNat).bind (fun r => (r.links (hummockOf tus)).map (fun l => (r, l)))
  | none => none

/-- Links of an issue's route, 0 for an operation without one. -/
def Variant.hops (v : Variant) (tus : Nat) (x : Issue) : Nat := match v.route tus x with | some r => r.1.hops | none => 0

/-- The SRAM accesses of an issue (R121, R122). -/
def Variant.accesses (v : Variant) (tus : Nat) (x : Issue) : Option (List MemUse) :=
  Machine.accesses (hummockOf tus) (constStoreOf v.plan tus) v.rung (v.hops tus x) x

/-- Whether the addresses of an issue, and those that its post-increments leave, lie in a space and range of Table 4.13; hummock SRAM is of
the plan's own hummocks (R119, R121). -/
def Variant.addressOk (v : Variant) (tus : Nat) (x : Issue) : Bool :=
  match v.accesses tus x with
  | none => false
  | some l => l.all (fun a => a.hum.all (fun h => bitAt v.plan.hummocks h)) && x.next.all (fun a => (decodeAddr a 1).isSome)

/-- The covering window of an HBM transfer in its direction, at every slot in which it can issue (R28, R123). -/
def Variant.windowOf (v : Variant) (alw : Nat) (x : Issue) : Option Window :=
  match blockOf x.op, decodeAddr (x.addr.getD 1 0) 1 with
  | some (b, toLocal, true), some (.hbm o) =>
    let n := 256 * (b.len.toNat + 1)
    v.plan.windows.find? (fun w => decide (w.base ≤ o ∧ o + n ≤ w.base + w.len) && (if toLocal then w.read else w.write) &&
      decide (w.slot0 ≤ clockSlot v.periodK v.rung x.clk ∧ clockSlot v.periodK v.rung (x.clk + alw) ≤ w.slot1))
  | _, _ => none

/-- Whether a block transfer's route ends where its address lies: at the local port of the hummock addressed, or at a port of the granule's
stack (R123, R154); and an HBM transfer has its window. -/
def Variant.transferOk (v : Variant) (tus alw : Nat) (x : Issue) : Bool :=
  match blockOf x.op with
  | none => true
  | some (b, _, hbm) =>
    let a := x.addr.getD 1 0
    match v.route tus x with
    | none => false
    | some (r, _) =>
      if hbm then decide (r.exit = 1) && decide (portStack r.dest = some (stackOf (bits a 0 45))) && (v.windowOf alw x).isSome
      else decide (r.exit = 0) && (humAt (hummockOf tus) a (256 * (b.len.toNat + 1))).any (fun h => decide (h.1 = r.dest))

/-- An arming of a sluice (Table 5.5): when it takes effect at the home, with TARGET and BOUND. -/
structure Arm where
  slu : Nat
  eff : Nat
  target : Nat
  bound : Nat
  tus : Nat
  pos : Nat
deriving DecidableEq, Repr

/-- A planned signal: its arrival at the home, `none` for the record of an XRCV, whose arrival is not planned (R149); its issue. -/
structure PlanSig where
  slu : Nat
  arrival : Option Nat
  issued : Nat
  tus : Nat
  pos : Nat
deriving DecidableEq, Repr

/-- A planned wait: issue, planned release P and hold; frame, and waits before it in its section. -/
structure PlanWait where
  slu : Nat
  issued : Nat
  planned : Nat
  hold : Nat
  k : Nat
  seg : Nat
  tus : Nat
  pos : Nat
deriving DecidableEq, Repr

/-- The sluice that an operation signals at its completion, the clocks from its issue to it (`none`: not planned), and the hummock where it
happens (R137, R143, R149). -/
def Variant.signals (v : Variant) (tus : Nat) (x : Issue) : Option (Nat × Option Nat × Nat) :=
  let own := hummockOf tus
  match x.op with
  | .xsig _ slu => some (slu.toNat, some 0, own)
  | .xend _ => some (v.plan.completion, some 0, own)
  | .xing _ slu cls _ _ cnt => some (slu.toNat, some (39 + (cnt.toNat + 1) * (if cls.toNat = 5 then 2 else 1)), own)
  | .xsnd _ slu _ _ len => some (slu.toNat, some (4 * (len.toNat + 1)), own)
  | .xrcv _ slu _ _ _ => some (slu.toNat, none, own)
  | i =>
    match blockOf i with
    | some (b, toLocal, hbm) =>
      let r := v.route tus x
      let dest := match r with | some r => r.1.dest | none => own
      some (b.slu.toNat, some (xferClocks toLocal hbm v.rung (b.len.toNat + 1) (if hbm ∨ dest ≠ own then some (v.hops tus x) else none)),
        if toLocal then own else dest)
    | none => none

/-- The armings of a variant. -/
def Variant.arms (v : Variant) (ws : List (Nat × List Issue × Option Spot)) : List Arm :=
  ws.flatMap (fun w => w.2.1.filterMap (fun x =>
    match x.op with
    | .xarm _ slu target bound => some { slu := slu.toNat, eff := absClk x.k (x.clk + 2 + meshHops (hummockOf w.1) ((homeOf v.plan slu.toNat).getD 0)),
                                         target := target.toNat, bound := 16 * bound.toNat, tus := w.1, pos := x.pos }
    | _ => none))

/-- The signals of a variant but those of XEND. -/
def Variant.sigs (v : Variant) (ws : List (Nat × List Issue × Option Spot)) : List PlanSig :=
  ws.flatMap (fun w => w.2.1.filterMap (fun x =>
    match x.op with
    | .xend _ => none
    | _ => (v.signals w.1 x).map (fun s =>
      { slu := s.1, arrival := s.2.1.map (fun d => absClk x.k (x.clk + d + 2 + meshHops s.2.2 ((homeOf v.plan s.1).getD 0))),
        issued := absClk x.k x.clk, tus := w.1, pos := x.pos })))

/-- The waits of a variant. -/
def Variant.waits (ws : List (Nat × List Issue × Option Spot)) : List PlanWait :=
  ws.flatMap (fun w => w.2.1.filterMap (fun x =>
    match x.op with
    | .xwait _ slu hold => some { slu := slu.toNat, issued := absClk x.k x.clk, planned := absClk x.k (x.clk + 1 + hold.toNat), hold := hold.toNat,
                                  k := x.k, seg := x.seg, tus := w.1, pos := x.pos }
    | _ => none))

/-- The arming of a sluice that stands at an instant. -/
def armAt (arms : List Arm) (slu at_ : Nat) : Option Arm :=
  (arms.filter (fun a => decide (a.slu = slu ∧ a.eff ≤ at_))).foldl (fun (m : Option Arm) a =>
    if m.any (fun b => decide (a.eff ≤ b.eff)) then m else some a) none

/-- The slip allowance of the operations of a tussock after `seg` waits of a section: the bound of the last of them (R150). -/
def allowance (arms : List Arm) (waits : List PlanWait) (tus k seg : Nat) : Nat :=
  match waits.find? (fun w => decide (w.tus = tus ∧ w.k = k ∧ w.seg + 1 = seg)) with
  | some w => match armAt arms w.slu w.issued with | some a => a.bound | none => 0
  | none => 0

/-- The sequencing checks of Table 5.9 on sluices: arming, targets, planned release, carried slip (R138, R150). -/
def Variant.sluiceSpot (v : Variant) (arms : List Arm) (sigs : List PlanSig) (waits : List PlanWait) : Option Spot :=
  let armOf := fun (s : PlanSig) => armAt arms s.slu (s.arrival.getD s.issued)
  let sigBad := sigs.find? (fun s => (armOf s).isNone)
  let waitBad := waits.find? (fun w =>
    match armAt arms w.slu w.issued with
    | none => true
    | some a =>
      let mine := sigs.filter (fun s => decide (armOf s = some a))
      let last := mine.foldl (fun (m : Nat) s => max m (s.arrival.getD 0)) 0
      let h := meshHops ((homeOf v.plan w.slu).getD 0) (hummockOf w.tus)
      (mine.all (fun s => s.arrival.isSome) && decide (w.planned < last + 1 + h)) ||
      decide (a.bound + w.hold < allowance arms waits w.tus w.k w.seg))
  let armBad := arms.find? (fun a =>
    decide ((sigs.filter (fun s => decide (armOf s = some a))).length ≠ a.target) ||
    waits.any (fun w => decide (w.slu = a.slu) && (match armAt arms w.slu w.issued with
      | some b => decide (b.eff < a.eff ∧ a.eff < w.planned)
      | none => false)) ||
    arms.any (fun b => decide (b ≠ a ∧ b.slu = a.slu ∧ b.eff = a.eff)))
  match sigBad, waitBad, armBad with
  | some s, _, _ => some (8, s.tus, s.pos)
  | none, some w, _ => some (8, w.tus, w.pos)
  | none, none, some a => some (8, a.tus, a.pos)
  | none, none, none => none

/-- Whether an issue keeps to what its plan claims and, for an ingest, to the section of the run's start and the clock from which its class
can be read (R143, R155). -/
def Variant.useOk (v : Variant) (transmits : Nat → Nat → Bool) (x : Issue) : Bool :=
  planUse v.plan transmits x.op && (match x.op with
    | .xing _ _ cls _ _ _ => decide (x.k = 0) && (decide (cls.toNat ≤ 1) || decide (clocksIn v.rung 1000 ≤ x.clk))
    | _ => true)

/-- A transfer that the track has not yet waited for: when it completes, its sluice and its destination. -/
structure OpenXfer where
  done : Nat
  slu : Nat
  dest : Option Nat × Nat × Nat
deriving DecidableEq, Repr

/-- Whether an access touches a destination. -/
def MemUse.touches (a : MemUse) (d : Option Nat × Nat × Nat) : Bool := decide (a.hum = d.1 ∧ a.off < d.2.1 + d.2.2 ∧ d.2.1 < a.off + a.len)

/-- The destination of a transfer in SRAM: a hummock or local SRAM, offset and bytes. -/
def destOf (own : Nat) (x : Issue) : Option (Option Nat × Nat × Nat) :=
  match blockOf x.op with
  | some (b, true, _) => (localAt (x.addr.headD 0) (256 * (b.len.toNat + 1))).map (fun l => (none, l, 256 * (b.len.toNat + 1)))
  | some (b, false, false) => (humAt own (x.addr.getD 1 0) (256 * (b.len.toNat + 1))).map (fun h => (some h.1, h.2, 256 * (b.len.toNat + 1)))
  | _ => none

/-- Follows a tussock's transfers (R119): the first issue that would be a fifth in flight, or that reads or overwrites the destination of
one before the wait on its sluice. -/
def Variant.xferSpot (v : Variant) (tus : Nat) : List (Nat × Nat) → List OpenXfer → List Issue → Option Issue
  | _, _, [] => none
  | fly, open_, x :: r =>
    let now := absClk x.k x.clk
    let acc := (v.accesses tus x).getD []
    let hit := acc.any (fun a => open_.any (fun o => a.touches o.dest))
    let fly := fly.filter (fun f => decide (now < f.1))
    match x.op, blockOf x.op with
    | .xwait _ slu _, _ => Variant.xferSpot v tus fly (open_.filter (fun o => decide (o.slu ≠ slu.toNat))) r
    | _, some (b, _, _) =>
      let done := now + (match v.signals tus x with | some (_, some d, _) => d | _ => 0)
      if hit ∨ 4 ≤ fly.length then some x
      else
        let o := match destOf (hummockOf tus) x with
          | some d => { done := done, slu := b.slu.toNat, dest := d } :: open_
          | none => open_
        Variant.xferSpot v tus ((done, 0) :: fly) o r
    | _, none => if hit then some x else Variant.xferSpot v tus fly open_ r

/-- A shared resource: its kind, index and part, see `capacity`. -/
abbrev Res := Nat × Nat × Nat

/-- What a resource bears in one clock: reads and writes of a tussock's local SRAM (0, 1) and of each of its banks (2, 3; R69); a hummock
bank (4), a tussock's read and write paths to it (5, 6) and the router's local port (7, 8; R71); a mesh link (9; R74); an HBM port in and
out (10, 11; R76); the exchange port in and out (12, 13), the ingest sequencer (14) and the emit and journal sequencers (15; R133); a
signal home (16; R134). -/
def capacity (r : Res) : Nat :=
  match r.1 with
  | 0 => 4
  | 1 => 2
  | 14 => 8
  | 15 => 8
  | 16 => 16
  | _ => 1

/-- Units of a resource at a planned clock: of which tussock, after how many waits of its section, and the slip allowance there. -/
structure ResUse where
  res : Res
  clk : Nat
  tus : Nat
  seg : Nat
  alw : Nat
  pos : Nat
deriving DecidableEq, Repr

/-- The resources that an SRAM access of a tussock takes (R69, R71, R122). -/
def MemUse.res (a : MemUse) (tus : Nat) : List Res :=
  match a.hum with
  | none => if a.write then [(1, tus, 0), (3, tus, a.off / 64 % 24)] else [(0, tus, 0), (2, tus, a.off / 64 % 24)]
  | some h => (4, h, a.off / 256 % 16) :: (if a.router then [(if a.write then 8 else 7, h, 0)] else [(if a.write then 6 else 5, tus, 0)])

/-- The mesh links and HBM port that a block transfer's chunks take: `n` chunks two clocks apart, from the issuing hummock out for a write,
from the destination back for a read (R74 to R76; which link-clocks a chunk takes is a DESIGN CHOICE, notes/assumptions/134.md). -/
def routeUses (toLocal hbm : Bool) (rung n : Nat) (r : Route) (links : List (Nat × Nat)) : List (Res × Nat) :=
  let back := links.reverse.map (fun l => (((meshStep l.1 l.2).getD 0), (l.2 + 2) % 4))
  let t0 := if toLocal then (if hbm then clocksIn rung 640 + 4 + 3 * r.hops else 12 + 4 + 3 * r.hops) else 0
  let way := if toLocal then back else links
  let mesh := (List.range n).flatMap (fun j => way.zipIdx.map (fun l => ((9, l.1.1, l.1.2), t0 + 2 + 3 * l.2 + 2 * j)))
  let port := if hbm then (List.range n).map (fun j => ((if toLocal then 10 else 11, r.dest, 0), (if toLocal then t0 else 4 + 3 * r.hops) + 2 * j)) else []
  mesh ++ port

/-- The resources that one issue takes, each with the clocks after the issue. -/
def Variant.issueUses (v : Variant) (tus : Nat) (x : Issue) : List (Res × Nat) :=
  let own := hummockOf tus
  let sram := ((v.accesses tus x).getD []).flatMap (fun a => (a.res tus).map (fun r => (r, a.at_)))
  let home := match v.signals tus x with
    | some (slu, some d, h) => [((16, (homeOf v.plan slu).getD 0, 0), d + 2 + meshHops h ((homeOf v.plan slu).getD 0))]
    | _ => []
  let port := match x.op with
    | .xing _ _ cls _ _ cnt => (List.range ((cnt.toNat + 1) * (if cls.toNat = 5 then 2 else 1))).flatMap (fun j => [((12, own, 0), 40 + j), ((14, 0, 0), 40 + j)])
    | .xemit .. | .xcanq .. | .xjrn .. => [((13, own, 0), 0), ((15, 0, 0), 0)]
    | .xsnd _ _ _ _ len => (List.range (4 * (len.toNat + 1))).map (fun j => ((13, own, 0), j))
    | _ => []
  let way := match blockOf x.op, v.route tus x with
    | some (b, toLocal, hbm), some (r, l) => if hbm ∨ r.dest ≠ own then routeUses toLocal hbm v.rung (b.len.toNat + 1) r l else []
    | _, _ => []
  sram ++ home ++ port ++ way

/-- The uses of a variant in frame k of its runs. -/
def Variant.uses (v : Variant) (ws : List (Nat × List Issue × Option Spot)) (alw : Nat → Nat → Nat → Nat) (k : Nat) : List ResUse :=
  ws.flatMap (fun w => (w.2.1.filter (fun x => decide (x.k = k))).flatMap (fun x =>
    (v.issueUses w.1 x).map (fun u => { res := u.1, clk := x.clk + u.2, tus := w.1, seg := x.seg, alw := alw w.1 x.k x.seg, pos := x.pos })))

/-- The most units of a resource that a variant can take in a clock: over its tussocks and the waits of each, for the slip from 0 to the
allowance that makes it most (Table 5.9, "shared resources"). -/
def loadAt (us : List ResUse) (res : Res) (clk : Nat) : Nat :=
  let us := us.filter (fun u => decide (u.res = res))
  let groups := (us.map (fun u => (u.tus, u.seg, u.alw))).eraseDups
  sumOf (fun (g : Nat × Nat × Nat) => (List.range (g.2.2 + 1)).foldl (fun (m : Nat) s =>
    max m (us.filter (fun u => decide (u.tus = g.1 ∧ u.seg = g.2.1 ∧ u.clk + s = clk))).length) 0) groups

/-- The deadline checks of Table 5.9: XEND and its completion signal, mesh transfers and staging entries fall before slot 60 at the
allowance. -/
def Variant.deadlineOk (v : Variant) (tus alw : Nat) (x : Issue) : Bool :=
  let last := match x.op with
    | .xemit .. => 24
    | .xcanq .. => 32
    | .xjrn .. => 32
    | .xend _ => 2 + meshHops (hummockOf tus) ((homeOf v.plan v.plan.completion).getD 0)
    | _ => match blockOf x.op, v.signals tus x with
      | some _, some (_, some d, _) => d
      | _, _ => 0
  decide (x.clk + last + alw < v.limit)

/-- What a variant's tussocks do, as the checker sees it: the walks, the allowance of each tussock, frame and number of waits. -/
structure Survey where
  walks : List (Nat × List Issue × Option Spot)
  arms : List Arm
  sigs : List PlanSig
  waits : List PlanWait
deriving DecidableEq, Repr

/-- The survey of a variant. -/
def Variant.survey (v : Variant) : Survey :=
  let ws := v.walks
  { walks := ws, arms := v.arms ws, sigs := v.sigs ws, waits := Variant.waits ws }

/-- The allowance of a tussock's operations (R150). -/
def Survey.alw (s : Survey) (tus k seg : Nat) : Nat := allowance s.arms s.waits tus k seg

/-- The first issue, over all tussocks, that fails a test given the tussock and the allowance. -/
def Survey.firstBad (s : Survey) (code : Nat) (bad : Nat → Nat → Issue → Bool) : Option Spot :=
  s.walks.findSome? (fun w => (w.2.1.find? (fun x => bad w.1 (s.alw w.1 x.k x.seg) x)).map (fun x => (code, w.1, x.pos)))

/-- Annotations of a variant in frame k (R147). -/
def Survey.annots (s : Survey) (k : Nat) : Nat :=
  sumOf (fun (w : Nat × List Issue × Option Spot) => (w.2.1.filter (fun x => decide (x.k = k) && (match x.op with | .xjrn .. => true | _ => false))).length) s.walks

/-- Whether two tussocks can emit to one output (R145). -/
def Survey.emitClash (s : Survey) : Bool :=
  let l := s.walks.map (fun w => (w.2.1.flatMap (fun x => emitKeys x.op)).eraseDups)
  decide (l.flatten.eraseDups.length ≠ l.flatten.length)

/-- Beats that the transfers of a window take on a pseudo-channel in a slot of frame k (R123): a transfer counts in each slot in which it can
issue. -/
def Variant.windowBeats (v : Variant) (s : Survey) (w : Window) (k slot pc : Nat) : Nat :=
  sumOf (fun (e : Nat × List Issue × Option Spot) => sumOf (fun (x : Issue) =>
    let alw := s.alw e.1 x.k x.seg
    let in_ := decide (clockSlot v.periodK v.rung x.clk ≤ slot ∧ slot ≤ clockSlot v.periodK v.rung (x.clk + alw))
    match blockOf x.op with
    | some (b, _, true) =>
      if decide (x.k = k) && in_ && decide (v.windowOf alw x = some w ∧ pseudoChannel (bits (x.addr.getD 1 0) 0 45) = pc) then 4 * (b.len.toNat + 1) else 0
    | _ => 0) e.2.1) s.walks

/-- Whether every window's transfers keep to the beats it reserves on their pseudo-channel, in their slot, at the rung (R123). -/
def Variant.beatsOk (v : Variant) (s : Survey) : Bool :=
  s.walks.all (fun e => e.2.1.all (fun x =>
    let alw := s.alw e.1 x.k x.seg
    match blockOf x.op, v.windowOf alw x with
    | some (_, _, true), some w =>
      let c := clockSlot v.periodK v.rung x.clk
      (List.range (clockSlot v.periodK v.rung (x.clk + alw) - c + 1)).all (fun i =>
        decide (v.windowBeats s w x.k (c + i) (pseudoChannel (bits (x.addr.getD 1 0) 0 45)) ≤ w.beats.getD v.rung 0))
    | _, _ => true))

/-- Check 0x08 of one variant, but for what is shared between plans. -/
def Variant.resourceSpot (v : Variant) (s : Survey) (transmits : Nat → Nat → Bool) : Option Spot :=
  (s.walks.findSome? (fun w => match w.2.2 with | some b => if b.1 = 8 then some b else none | none => none))
    |>.orElse (fun _ => s.firstBad 8 (fun t _ x => !v.addressOk t x))
    |>.orElse (fun _ => s.firstBad 8 (fun t alw x => !v.transferOk t alw x))
    |>.orElse (fun _ => s.firstBad 8 (fun _ _ x => !v.useOk transmits x))
    |>.orElse (fun _ => s.walks.findSome? (fun w => (v.xferSpot w.1 [] [] w.2.1).map (fun x => (8, w.1, x.pos))))
    |>.orElse (fun _ => v.sluiceSpot s.arms s.sigs s.waits)
    |>.orElse (fun _ => if s.emitClash ∨ ¬ v.beatsOk s ∨ (List.range (max (v.plan.depth + 1) (2 ^ v.plan.cadenceJ))).any (fun k => decide (64 < s.annots k)) then
        some (8, 0xFFFF, 0) else none)

/-- Check 0x09 of one variant. -/
def Variant.deadlineSpot (v : Variant) (s : Survey) : Option Spot :=
  (s.walks.findSome? (fun w => match w.2.2 with | some b => if b.1 = 9 then some b else none | none => none))
    |>.orElse (fun _ => s.firstBad 9 (fun t alw x => !v.deadlineOk t alw x))

/-- The variants of a plan: each rung of each placement (R153). -/
def variants (periodK : Nat) (p : Plan) : List Variant :=
  (List.range p.placements.length).flatMap (fun i =>
    (bitList ((p.placements[i]?).getD ⟨[], 0, []⟩).rungs 4).map (fun r => { plan := p, place := i, rung := r, periodK := periodK }))

/-- The uses of a plan at a rung in the frame `f` of the longest cadence, by placement. -/
def planUses (periodK : Nat) (p : Plan) (rung f : Nat) : List (List ResUse) :=
  let c := 2 ^ p.cadenceJ
  ((variants periodK p).filter (fun v => decide (v.rung = rung))).map (fun v =>
    let s := v.survey
    v.uses s.walks s.alw ((f + c - p.phase) % c))

/-- The load that plans put on a resource in a clock, each in the placement that makes it most. -/
def totalAt (ps : List (List (List ResUse))) (res : Res) (clk : Nat) : Nat :=
  sumOf (fun (p : List (List ResUse)) => p.foldl (fun (m : Nat) us => max m (loadAt us res clk)) 0) ps

/-- The first use that oversubscribes a resource for some slips, or takes the link-clock that is left to the sequencers (R74, R75, R133,
R134, Table 5.9); the link-clock is tested in the plan without slip (DESIGN CHOICE, notes/assumptions/134.md). -/
def overload (ps : List (List (List ResUse))) : Option Spot :=
  ps.findSome? (fun p => p.findSome? (fun us => (us.find? (fun u =>
    (decide (u.res.1 = 9) && decide (u.clk % 8 = 7)) ||
    (List.range (u.alw + 1)).any (fun s => decide (capacity u.res < totalAt ps u.res (u.clk + s))))).map (fun u => (8, u.tus, u.pos))))

/-- What shares the fabric in a frame: the incoming plans that run, and the outgoing runs in flight, at each rung. -/
def sharedSpot (periodK f : Nat) (incoming outgoing : List Plan) : Option Spot :=
  (List.range 4).findSome? (fun r => overload ((incoming ++ outgoing).map (fun p => planUses periodK p r f)))

/-- The overlap frames after a swap (R156, R161): in frame j after it the outgoing plans of a depth above j have runs in flight, and the
incoming plans start whose hummocks no such plan holds. -/
def overlapSpot (periodK : Nat) (incoming outgoing : List Plan) : Option Spot :=
  (List.range 15).findSome? (fun j =>
    let old := outgoing.filter (fun o => decide (j < o.depth))
    if old.isEmpty then none
    else sharedSpot periodK j (incoming.filter (fun p => old.all (fun o => decide (o.hummocks &&& p.hummocks = 0)))) old)

/-- Beats that fixed windows reserve on a pseudo-channel in a slot at a rung; elastic windows reserve none (R79, R80). -/
def beatsReserved (ps : List Plan) (rung slot pc : Nat) : Nat :=
  sumOf (fun (p : Plan) => sumOf (fun (w : Window) =>
    if w.kind ≠ 3 ∧ w.slot0 ≤ slot ∧ slot ≤ w.slot1 ∧ touches w.base w.len pc then w.beats.getD rung 0 else 0) p.windows) ps

/-- Beats that plans may reserve on a pseudo-channel in a slot (R78): ⌊0.84 · 1,171.875 · 2^k⌋. -/
def slotBeats (periodK : Nat) : Nat := 7875 * 2 ^ periodK / 8

/-- Whether no pseudo-channel is asked for more beats in a slot than plans may reserve (R78, R79). -/
def beatsFit (periodK : Nat) (ps : List Plan) : Bool :=
  (List.range 4).all (fun r => (List.range 64).all (fun sl => (List.range 128).all (fun pc => decide (beatsReserved ps r sl pc ≤ slotBeats periodK))))

/-- The checks of the tracks of a set whose plans stand beside outgoing ones, in code order: 0x07, 0x08, 0x09; the plan, then the spot
(R156). -/
def tracksFinding (periodK : Nat) (transmits : Nat → Nat → Bool) (plans outgoing : List Plan) : Option (Nat × Spot) :=
  let vs := plans.zipIdx.flatMap (fun e => (variants periodK e.1).map (fun v => (e.2, v, v.survey)))
  let cycle := plans.foldl (fun (m : Nat) p => max m (2 ^ p.cadenceJ)) 1
  let planOf := fun (s : Spot) => (s, (plans.findIdx (fun p => decide (s.2.1 < 256) && bitAt p.hummocks (s.2.1 / 8))) % 8)
  (vs.findSome? (fun e => (e.2.2.walks.findSome? (trackSpot e.2.1.plan.depth)).map (fun s => (e.1, s))))
    |>.orElse (fun _ => vs.findSome? (fun e => (e.2.1.resourceSpot e.2.2 transmits).map (fun s => (e.1, s))))
    |>.orElse (fun _ => if beatsFit periodK plans then none else some (0, 8, 0xFFFF, 0))
    |>.orElse (fun _ => ((List.range cycle).findSome? (fun f => sharedSpot periodK f plans [])).map (fun s => ((planOf s).2, s)))
    |>.orElse (fun _ => (overlapSpot periodK plans outgoing).map (fun s => ((planOf s).2, s)))
    |>.orElse (fun _ => vs.findSome? (fun e => (e.2.1.deadlineSpot e.2.2).map (fun s => (e.1, s))))

end Sys2Proof.Machine
end

