-- ==== Sys2Proof/Machine/Plantio.lean ====
section
/-!
DEFINITION. The acquisition sequencer: temperature, 4–20 mA, digital and rope inputs, and the faults that outputs and throttle
drivers report (spec/12_plant_io.md R286 to R298).
-/
namespace Sys2Proof.Machine

/-- STATUS bits of Table 12.4. -/
def stFaulted : Nat := 1
def stOpen : Nat := 2
def stShort : Nat := 4
def stRange : Nat := 8
def stWet : Nat := 16
def stContend : Nat := 32

/-- The VALUE and STATUS registers of snapshot entry e, 0 to 127 (Table 12.4). -/
def pioReg (e : Nat) : Reg × List Nat :=
  if e < 64 then (.pioTinVal, [e]) else if e < 96 then (.pioAinVal, [e - 64]) else (.pioLeakVal, [e - 96])

/-- VALUE of an input. -/
def State.pioValue (s : State) (e : Nat) : Nat := bits (s.rd (pioReg e).1 (pioReg e).2) 0 32

/-- STATUS of an input. -/
def State.pioStatus (s : State) (e : Nat) : Nat := bits (s.rd (pioReg e).1 (pioReg e).2) 32 8

/-- Whether an input is faulted. -/
def State.pioFaulted (s : State) (e : Nat) : Bool := bitAt (s.pioStatus e) 0

/-- Whole milliseconds since the last conversion of an input, saturating (Table 12.9). -/
def State.pioAge (s : State) (e : Nat) : Nat :=
  match Tbl.find s.pio.tai e with
  | some t => min 0xFFFF ((s.now - t) / 1000000)
  | none => 0xFFFF

/-- Holds a conversion that ends now (R286, R287): a value faulted by other than RANGE alone is not taken, and the last valid
one, or 0, is held. -/
def State.hold (s : State) (e : Nat) (v : Int) (st : Nat) : State :=
  let fault := st &&& (stOpen ||| stShort ||| stRange ||| stContend)
  let st := st ||| (if fault ≠ 0 then stFaulted else 0)
  let x := if st &&& (stOpen ||| stShort) ≠ 0 then Tbl.at s.pio.valid e 0 else unsigned 32 v
  let valid := if fault ≠ 0 then s.pio.valid else Tbl.put s.pio.valid e x
  let (r, i) := pioReg e
  let w := setBits (setBits (s.rd r i) 0 32 x) 32 8 st
  { s with pio := { s.pio with tai := Tbl.put s.pio.tai e s.now, valid := valid } }.wr r i w

/-- A disabled input reads 0 and is faulted (R287). -/
def State.inputOff (s : State) (e : Nat) : State :=
  let (r, i) := pioReg e
  { s with pio := { s.pio with tai := Tbl.del s.pio.tai e, raw := Tbl.del s.pio.raw e, scans := Tbl.del s.pio.scans e } }.wr r i
    (r.resetWord i)

/-- The range of a temperature input in Q16 °C (Table 12.1). -/
def State.tempRange (s : State) (i : Nat) : Int × Int :=
  if s.get F.pioTinCfg_TYPE [i] = 2 then (-40 * 65536, 150 * 65536) else (-50 * 65536, 250 * 65536)

/-- TEMPERATURE_CONVERSION (R286, R287). -/
def execTemperatureConversion (t : Tai) (i : Fin 64) (r : TempReading) (s : State) : Host.Outcome State Fault Refusal :=
  let s := s.at t
  if ¬ s.on F.pioTinCfg_EN [i] then .next s
  else
    let (lo, hi) := s.tempRange i
    let v := clampI lo hi r.value
    .next (s.hold i v ((if r.open_ then stOpen else 0) ||| (if r.short then stShort else 0) ||| (if v ≠ r.value then stRange else 0)))

/-- CURRENT_LOOP_SAMPLE (R286, R287): a raw sample in Q16 mA; the value is the mean of four, and OPEN and SHORT are judged on five. -/
def execCurrentLoopSample (t : Tai) (i : Fin 32) (ma : Int) (s : State) : Host.Outcome State Fault Refusal :=
  let s := s.at t
  if ¬ s.on F.pioAinCfg_EN [i] then .next s
  else
    let l := (ma :: Tbl.at s.pio.raw (64 + i) []).take 5
    let s := { s with pio := { s.pio with raw := Tbl.put s.pio.raw (64 + i) l } }
    if l.length < 4 then .next s
    else
      let m := rneDiv ((l.take 4).foldl (· + ·) 0) 4
      let ne := s.on F.pioAinCfg_NE43 [i] && decide (l.length = 5)
      let op := ne && l.all (fun x => decide (10 * x < 36 * 65536))
      let sh := ne && l.all (fun x => decide (21 * 65536 < x))
      let v := min m (24 * 65536)
      .next (s.hold (64 + i) v ((if op then stOpen else 0) ||| (if sh then stShort else 0) ||| (if v ≠ m then stRange else 0)))

/-- DIGITAL_INPUT_ACCEPT (R286, Table 12.11): an input that has been stable for DEB_MS at another level is accepted. -/
def execDigitalInputAccept (t : Tai) (j : Fin 16) (level : Bool) (s : State) : Host.Outcome State Fault Refusal :=
  let s := s.at t
  let st := s.get F.pioDinVal_STATE []
  if bitAt st j = level then .next s
  else
    let s := s.set F.pioDinVal_STATE [] (setBits st j 1 (b2n level))
    let s := s.set F.pioDinVal_CHANGED [] (s.get F.pioDinVal_CHANGED [] ||| 2 ^ j.val)
    .next { s with pio := { s.pio with dinAt := Tbl.put s.pio.dinAt j t, dinDelta := s.pio.dinDelta ||| 2 ^ j.val } }

/-- LEAK_SCAN (R289, R290): a contended scan is skipped and faults the rope; a broken loop sets OPEN; else the scan is wet or
dry, and CONFIRM scans in a row against the rope's state change it. -/
def execLeakScan (t : Tai) (i : Fin 32) (m : LeakScan) (s : State) : Host.Outcome State Fault Refusal :=
  let s := s.at t
  let e := 96 + i.val
  if ¬ s.on F.pioLeakCfg_EN [i] then .next s
  else
    let wet := bitAt (s.pioStatus e) 4
    let keep := if wet then stWet else 0
    let old := signed 32 (s.pioValue e)
    if m.contend then .next (s.hold e old (keep ||| stContend))
    else if m.broken then .next (s.hold e old (keep ||| stOpen))
    else
      let w := decide (m.kohm < s.get F.pioLeakCfg_WET_KOHM [i])
      let n := if w = wet then 0 else Tbl.at s.pio.scans e 0 + 1
      let turn := decide (s.get F.pioLeakCfg_CONFIRM [i] ≤ n)
      let wet' := if turn then w else wet
      let s := { s with pio := { s.pio with scans := Tbl.put s.pio.scans e (if turn then 0 else n) } }
      let v : Int :=
        if ¬ wet' then -65536
        else if w then rneDiv ((s.get F.pioLeakCfg_LEN [i] * m.kNum * 65536 : Nat) : Int) (10 * max m.kDen 1)
        else signed 32 (Tbl.at s.pio.valid e 0)
      .next (s.hold e v (if wet' then stWet else 0))

/-- DIGITAL_OUTPUT_OC (R292): the output switches off and stays off until OC is cleared. -/
def execDigitalOutputOc (t : Tai) (j : Fin 16) (s : State) : Host.Outcome State Fault Refusal :=
  let s := s.at t
  let s := s.set F.pioDoutVal_OC [] (s.get F.pioDoutVal_OC [] ||| 2 ^ j.val)
  .next (s.set F.pioDoutVal_STATE [] (setBits (s.get F.pioDoutVal_STATE []) j 1 0))

/-- ANALOG_OUTPUT_FAULT (R292, Table 12.10): lost compliance in 4–20 mA mode, current limit in 0–10 V mode; an output at high
impedance has neither. -/
def execAnalogOutputFault (t : Tai) (i : Fin 16) (s : State) : Host.Outcome State Fault Refusal :=
  let s := s.at t
  if s.on F.pioAoutVal_HIZ [i] then .next s
  else match s.get F.pioAoutCfg_MODE [i] with
    | 1 => .next (s.set F.pioAoutVal_SHORT [i] 1)
    | 2 => .next (s.set F.pioAoutVal_OPEN [i] 1)
    | _ => .next s

/-- Pairs that are driven: those of bound racks, while the module asserts ACT (R295, Table 12.6). -/
def State.pairsDriven (s : State) : List Nat :=
  if s.on F.parStat_ACT [] then (((s.pln.inForce.bind PlanSet.row).map RowSection.racks).getD []).map Prod.snd else []

/-- THROTTLE_LINE_FAULT (R297): a driven and released pair with more than 60 mA or less than 5 mA. -/
def execThrottleLineFault (t : Tai) (n : Fin 32) (microamps : Nat) (s : State) : Host.Outcome State Fault Refusal :=
  let s := s.at t
  if ¬ s.pairsDriven.contains n.val ∨ bitAt (s.get F.pioThrStat_ASSERTED []) n then .next s
  else if 60000 < microamps ∨ microamps < 5000 then
    let f := s.get F.pioThrStat_LINE_FLT []
    let s := s.set F.pioThrStat_LINE_FLT [] (f ||| 2 ^ n.val)
    .next (if bitAt f n then s else
      s.note { who := 9, cls := 8, item := 32 + n, obj := Reg.off .pioThrStat [], new := s.rd .pioThrStat [], raised := some (evAlarm, 1, n.val) })
  else .next s

/-- The bytes of snapshot class 2 entry e (Table 12.4), as a number. -/
def State.pioUnit (s : State) (e : Nat) : Nat :=
  if e < 128 then s.pioValue e + 2 ^ 32 * s.pioStatus e + 2 ^ 64 * Tbl.at s.pio.tai e 0
  else
    let last := (List.range 16).foldl (fun m j => max m (Tbl.at s.pio.dinAt j 0)) 0
    let ages := (List.range 16).foldl (fun a j =>
      a + 2 ^ (128 + 16 * j) * (match Tbl.find s.pio.dinAt j with | some u => min 0xFFFF ((s.now - u) * 64 / 1000000) | none => 0xFFFF)) 0
    s.get F.pioDinVal_STATE [] + 2 ^ 16 * s.pio.dinDelta + 2 ^ 64 * last + ages

end Sys2Proof.Machine
end

