-- ==== Sys2Proof/Machine/Outputs.lean ====
section
/-!
DEFINITION. Who governs an actuator or output: claims of plans, bindings of channels, holding responses (spec/17_protection.md R396,
R398), and the output states of Table 12.6.
-/
namespace Sys2Proof.Machine

/-- Whether a plan in force claims an output, or an outgoing run still in flight does (R161). -/
def State.claimed (s : State) (ocls i : Nat) : Bool :=
  s.pln.inForce.any (fun p => p.plans.any (fun q => planClaims q ocls i)) || s.runs.any (fun r => r.old && planClaims r.plan ocls i)

/-- Whether a test holds of the plan set in force or of the staged one while it is PASSED, ARMING or ARMED (Table 6.3). -/
def State.anySet (s : State) (f : Plan → Bool) : Bool :=
  s.pln.inForce.any (fun p => p.plans.any f) ||
  (s.pln.staged.any (fun p => p.plans.any f) &&
    (let st := s.get F.plnStageStatus_STATE []; decide (st = 2 ∨ st = 4 ∨ st = 5)))

/-- A channel beside its registers. -/
def State.chan (s : State) (n : Nat) : Chan := Tbl.at s.lpe.ch n {}

/-- Replaces a channel. -/
def State.setChan (s : State) (n : Nat) (c : Chan) : State := { s with lpe := { s.lpe with ch := Tbl.put s.lpe.ch n c } }

/-- Whether a channel is bound to an actuator by its registers. -/
def State.bound (s : State) (n kind idx : Nat) : Bool :=
  decide (s.get F.lpeChCfg_ACT_KIND [n] = kind ∧ s.get F.lpeChCfg_ACT_IDX [n] = idx)

/-- Channels whose registers bind an actuator and are not in OFF (R225). -/
def State.binders (s : State) (kind idx : Nat) : List Nat :=
  (List.range 256).filter (fun n => decide (s.get F.lpeChCfg_MODE [n] ≠ 0) && s.bound n kind idx)

/-- Channels that drive an actuator: their mode in effect, which a write changes at the next sample, is not OFF (R225, R227). -/
def State.drivers (s : State) (kind idx : Nat) : List Nat :=
  (List.range 256).filter (fun n => decide ((s.chan n).mode ≠ 0) && s.bound n kind idx)

/-- Whether the module's outputs are driven: it asserts ACT, or a drive exercise runs (Tables 10.2 and 12.6, row 1). -/
def State.driving (s : State) : Bool := s.on F.parStat_ACT [] || s.on F.parExer_BUSY []

/-- The holding response of lowest index for which a bit is set (R398). -/
def State.governing (s : State) (mask : Fld) (i : Nat) : Option Nat :=
  if ¬ s.on F.parStat_ACT [] then none
  else (List.range 8).find? (fun j => bitAt (s.get F.prtStat_HOLD []) j && bitAt (s.get mask [j]) i)

/-- The speed that protection forces on a pump, in 0.01 % (R396). -/
def State.forcedPump (s : State) (p : Nat) : Option Nat := (s.governing F.prtRespDrv_PMASK p).map (fun j => s.get F.prtRespDrv_PSPD [j])

/-- The speed that protection forces on a fan, in 0.01 %. -/
def State.forcedFan (s : State) (f : Nat) : Option Nat := (s.governing F.prtRespDrv_FMASK f).map (fun j => s.get F.prtRespDrv_FSPD [j])

/-- The value that protection forces on an analog output. -/
def State.forcedAo (s : State) (i : Nat) : Option Nat := (s.governing F.prtRespOut_AOMASK i).map (fun _ => s.get F.pioAoutCfg_SAFE [i])

/-- The state that protection forces on a digital output. -/
def State.forcedDo (s : State) (i : Nat) : Option Bool := (s.governing F.prtRespOut_DOMASK i).map (fun j => bitAt (s.get F.prtRespOut_DOVAL [j]) i)

/-- Hundredths of a percent as Q16 percent. -/
def centi (x : Nat) : Int := rneDiv ((x * 65536 : Nat) : Int) 100

/-- Q16 percent as hundredths of a percent, from 0 to 100 %. -/
def toCenti (q : Int) : Nat := (clampI 0 10000 (rneDiv (q * 100) 65536)).toNat

/-- The value that protection forces on a channel's actuator (R236, R399). -/
def State.forcedChan (s : State) (n : Nat) : Option Int :=
  let i := s.get F.lpeChCfg_ACT_IDX [n]
  match s.get F.lpeChCfg_ACT_KIND [n] with
  | 1 => (s.forcedPump i).map centi
  | 3 => (s.forcedAo i).map (signed 32)
  | 4 => if s.on F.parStat_ACT [] ∧ s.objHeld (i / 256) (i % 256) then some (s.chan n).u else none
  | _ => none

/-- The value of a claimed output in the newest output block. -/
def State.committed (s : State) (ocls i : Nat) : Option Nat :=
  s.lpe.blk.bind (fun b => (Tbl.find b.outs (1024 * ocls + i)).map BitVec.toNat)

/-- Whether a claimed output takes its safe value: before its first committed value, and from the SIL_F-th silent frame in a row
until a live block (R256, Table 12.6 row 4). -/
def State.outSafe (s : State) (ocls i : Nat) : Bool :=
  (s.committed ocls i).isNone || decide (s.get F.lpeCtrl_SIL_F [] ≤ Tbl.at s.lpe.sil (1024 * ocls + i) 0)

/-- The state of an analog output (Table 12.6). -/
def State.analogOut (s : State) (i : Nat) : State :=
  let drv := (s.drivers 3 i).head?
  let put := fun (s : State) (v safe hiz chan : Nat) =>
    (((s.set F.pioAoutVal_VALUE [i] v).set F.pioAoutVal_SAFE_IN [i] safe).set F.pioAoutVal_HIZ [i] hiz).set F.pioAoutVal_CHAN [i] chan
  if ¬ s.driving ∨ s.get F.pioAoutCfg_MODE [i] = 0 then put s 0 0 1 0
  else match s.forcedAo i with
    | some v => put s v 0 0 0
    | none =>
      if s.claimed 4 i then
        if s.outSafe 4 i then put s (s.get F.pioAoutCfg_SAFE [i]) 1 0 0 else put s ((s.committed 4 i).getD 0) 0 0 0
      else match drv.bind (fun n => (s.chan n).applied) with
        | some u => put s (unsigned 32 u) 0 0 1
        | none => put s (s.get F.pioAoutCfg_SAFE [i]) 1 0 0

/-- The state of a digital output (Table 12.6). -/
def State.digitalOut (s : State) (i : Nat) : Bool :=
  if ¬ s.driving ∨ bitAt (s.get F.pioDoutVal_OC []) i then false
  else match s.forcedDo i with
    | some v => v
    | none =>
      if s.claimed 5 i ∧ ¬ s.outSafe 5 i then decide ((s.committed 5 i).getD 0 ≠ 0) else bitAt (s.get F.pioDoutCfg_SAFE []) i

/-- Pairs that holding responses assert (R396, R398). -/
def State.pairsOrdered (s : State) : Nat :=
  (bitList (s.get F.prtStat_HOLD []) 8).foldl (fun (m : Nat) j => m ||| s.get F.prtRespRacks_THR [j]) 0

/-- An assertion of a throttle pair measures its driver current, which the environment sets and no command carries
(notes/assumptions/1.md): from 2 mA to 60 mA passes (R410). -/
def State.pairCheck (s : State) (n : Nat) : State :=
  let i := s.drawn
  let s := s.draw
  let ok := s.get F.prtThrChk_OK []
  if 2000 ≤ i ∧ i ≤ 60000 then s.set F.prtThrChk_OK [] (setBits ok n 1 1)
  else
    let s := (s.set F.prtThrChk_OK [] (setBits ok n 1 0)).set F.prtThrChk_FAIL [] (s.get F.prtThrChk_FAIL [] ||| 2 ^ n)
    s.note { who := 0x11, idx := n, cls := 0xC, item := 32 + n, obj := Reg.off .prtThrChk [], safety := true }

/-- The throttle pairs: asserted as protection orders, for at least 1 ms (R295, R296, Table 12.6). -/
def State.throttle (s : State) : State :=
  let driven := s.pairsDriven
  let ordered := s.pairsOrdered
  (List.range 32).foldl (fun (s : State) n =>
    let old := bitAt (s.get F.pioThrStat_ASSERTED []) n
    let now := driven.contains n && (bitAt ordered n || (old && decide (s.now < Tbl.at s.prt.pairAt n 0 + 1000000)))
    if now = old then s
    else
      let s := s.set F.pioThrStat_ASSERTED [] (setBits (s.get F.pioThrStat_ASSERTED []) n 1 (b2n now))
      if now then { s with prt := { s.prt with pairAt := Tbl.put s.prt.pairAt n s.now } }.pairCheck n else s) s

/-- Every output at an instant at which it may change (R293, R294). -/
def State.refreshOutputs (s : State) : State :=
  let s := (List.range 16).foldl State.analogOut s
  let s := (List.range 16).foldl (fun (s : State) i => s.set F.pioDoutVal_STATE [] (setBits (s.get F.pioDoutVal_STATE []) i 1 (b2n (s.digitalOut i)))) s
  s.throttle

/-- MIN_ASSERTION_EXPIRY (R296): a pair whose minimum assertion has run out follows protection's order. -/
def execMinAssertionExpiry (t : Tai) (n : Fin 32) (s : State) : Host.Outcome State Fault Refusal :=
  let s := s.at t
  .next (if Tbl.at s.prt.pairAt n 0 + 1000000 ≤ t then s.throttle else s)

end Sys2Proof.Machine
end

