-- ==== Sys2Proof/Machine/Telemetry.lean ====
section
/-!
DEFINITION. Package telemetry: ingest datagrams, the stream table, decimation, the Ethernet ports and PTP
(spec/13_telemetry.md R299 to R312; spec/02_frame.md R57 to R59).
-/
namespace Sys2Proof.Machine

/-- Streams of the module itself (R196). -/
def moduleStream (n : Nat) : Bool := decide (0xFF00 ≤ n ∧ n ≤ 0xFF7F)

/-- GEN of a record (R305). -/
def recGen (r : Nat) : Nat := bits r 64 64

/-- Whether an Ethernet port receives: in use and with link (R300). -/
def State.ethOn (s : State) (j : Nat) : Bool := s.on F.telPortCfg_EN [j] && s.on F.telPortStat_LINK [j]

/-- An ingest queue. -/
def State.queue (s : State) (j : Nat) : List (Nat × Nat) := if j = 0 then s.tel.q0 else s.tel.q1

/-- Replaces an ingest queue. -/
def State.setQueue (s : State) (j : Nat) (q : List (Nat × Nat)) : State :=
  { s with tel := if j = 0 then { s.tel with q0 := q } else { s.tel with q1 := q } }

/-- The decimation level of a priority class (R311); class 0 is never decimated. -/
def State.decLevel (s : State) (c : Nat) : Nat :=
  match c with
  | 1 => s.get F.telDecStat_LVL1 []
  | 2 => s.get F.telDecStat_LVL2 []
  | 3 => s.get F.telDecStat_LVL3 []
  | _ => 0

/-- Sets the level of a class. -/
def State.setLevel (s : State) (c l : Nat) : State :=
  match c with
  | 1 => s.set F.telDecStat_LVL1 [] l
  | 2 => s.set F.telDecStat_LVL2 [] l
  | 3 => s.set F.telDecStat_LVL3 [] l
  | _ => s

/-- Whether a stream's source entry accepts a source address (Table 13.4, check 3). -/
def State.sourceOk (s : State) (n : Nat) (src : BitVec 128) : Bool :=
  let k := s.get F.stmLo_SRC [n]
  k = 0xFF || (src ≠ 0 && src.toNat = s.get F.telSrcHi_ADDR_HI [k] * 2 ^ 64 + s.get F.telSrcLo_ADDR_LO [k])

/-- Whether a record falls in a gap of its class's decimation (R312). -/
def State.inGap (s : State) (n gen : Nat) : Bool :=
  let l := s.decLevel (s.get F.stmLo_PRIO [n])
  let p := s.get F.stmLo_PERIOD [n]
  decide (0 < l) && (Tbl.find s.tel.gens n).any (fun g => decide (gen < g + 2 ^ l * p * 10000 - p * 5000))

/-- Checks 1 to 5 of Table 13.4 and the queue's room (R310), for one record that arrives on port j. -/
def State.arrive (s : State) (j : Nat) (src : BitVec 128) (n r : Nat) : State :=
  let drop := s.bump F.stmHi_DROPPED [n] 1
  let gen := recGen r
  if moduleStream n then s.bump F.obsIng1_RESERVED [j] 1
  else if ¬ s.on F.stmLo_EN [n] then s.bump F.obsIng1_DISABLED [j] 1
  else if ¬ s.on (if j = 0 then F.stmLo_PORT0 else F.stmLo_PORT1) [n] ∨ ¬ s.sourceOk n src then drop.bump F.obsIng2_SOURCE [j] 1
  else if bitAt r 23 then drop.bump F.obsIng0_MALFORMED [j] 1
  else if s.now + 100000 < gen then drop.bump F.obsIng2_FUTURE [j] 1
  else if s.inGap n gen then drop.bump F.obsIng3_DECIM [j] 1
  else if (if s.get F.stmLo_PRIO [n] = 0 then 16384 else 14336) ≤ (s.queue j).length then s.bump F.obsIng4_OVERRUN [j] 1
  else { s with tel := { s.tel with gens := Tbl.put s.tel.gens n gen } }.setQueue j (s.queue j ++ [(n, r)])

/-- Whether a datagram has the form of Table 13.2. -/
def ingestForm (b : List Byte) : Bool :=
  let nrec := ofLeBytes ((b.drop 2).take 2)
  (b.headD 0 = 1) && ((b.drop 1).headD 0 = 1) && decide (1 ≤ nrec ∧ nrec ≤ 128) && decide (b.length = 16 + 68 * nrec)

/-- A datagram received by an Ethernet port (R300, R304): dropped and counted unless it is an ingest datagram, which is
dropped whole when it is malformed. -/
def State.datagram (s : State) (j : Nat) (d : Datagram) : State :=
  if ¬ s.ethOn j then s
  else if ¬ d.dstOk ∨ d.udpPort ≠ s.get F.telIngCfg_UDP_PORT [] ∨ ¬ d.checksumOk then s.bump F.obsIng0_OTHER [j] 1
  else if ¬ ingestForm d.bytes then s.bump F.obsIng0_MALFORMED [j] 1
  else
    let n := ofLeBytes ((d.bytes.drop 2).take 2)
    (List.range n).foldl (fun (s : State) i =>
      let b := (d.bytes.drop (16 + 68 * i)).take 68
      s.arrive j d.src (ofLeBytes (b.take 2)) (ofLeBytes (b.drop 4))) s

/-- INGEST_DATAGRAM (R300, R304, R306, R310). -/
def execIngestDatagram (t : Tai) (j : Fin 2) (d : Datagram) (s : State) : Host.Outcome State Fault Refusal :=
  .next ((s.at t).datagram j d)

/-- Replaces the record held of a stream (R307), counting one that no snapshot had latched (R35). -/
def State.holdRecord (s : State) (n r : Nat) : State :=
  let s := if (Tbl.find s.tel.fresh n).isSome then s.bump F.stmHi_SUPERSEDED [n] 1 else s
  { s with tel := { s.tel with recs := Tbl.put s.tel.recs n r, fresh := Tbl.put s.tel.fresh n 1 } }.set F.stmHi_NEVER [n] 0

/-- RECORD_WRITE (R306 check 6, R307): the oldest record of a queue is written into the stream table. -/
def execRecordWrite (t : Tai) (j : Fin 2) (s : State) : Host.Outcome State Fault Refusal :=
  let s := s.at t
  match s.queue j with
  | [] => .next s
  | (n, r) :: q =>
    let s := s.setQueue j q
    if (Tbl.find s.tel.recs n).any (fun h => decide (recGen r ≤ recGen h)) then
      .next ((s.bump F.stmHi_DROPPED [n] 1).bump F.obsIng3_OLDER [j] 1)
    else .next ((s.holdRecord n r).bump F.obsIng4_ACCEPTED [j] 1)

/-- Changes a class's decimation level, counted; its first departure from 0 and its return are journalled (R311). -/
def State.changeLevel (s : State) (c l : Nat) : State :=
  let old := s.decLevel c
  let s := (s.setLevel c l).bump F.telDecStat_CHANGES [] 1
  if old = 0 ∨ l = 0 then
    s.note { who := 1, cls := 9, act := if l = 0 then 1 else 0, item := l, obj := Reg.off .telDecStat [], old := old, new := l, data := c }
  else s

/-- DECIMATION_CHECK (R311). -/
def execDecimationCheck (t : Tai) (s : State) : Host.Outcome State Fault Refusal :=
  let s := s.at t
  let n0 := s.tel.q0.length
  let n1 := s.tel.q1.length
  if 8192 < n0 ∨ 8192 < n1 then
    let s := { s with tel := { s.tel with low := 0 } }
    match [3, 2, 1].find? (fun c => decide (s.decLevel c < 6)) with
    | some c => .next (s.changeLevel c (s.decLevel c + 1))
    | none => .next s
  else
    let low := if n0 < 2048 ∧ n1 < 2048 then s.tel.low + 1 else 0
    match [1, 2, 3].find? (fun c => decide (0 < s.decLevel c)) with
    | some c =>
      if 8 ≤ low then .next ({ s with tel := { s.tel with low := 0 } }.changeLevel c (s.decLevel c - 1))
      else .next { s with tel := { s.tel with low := low } }
    | none => .next { s with tel := { s.tel with low := low } }

/-- OTHER_DATAGRAM (R300): neither PTP, ingest, neighbour discovery nor echo. -/
def execOtherDatagram (t : Tai) (j : Fin 2) (_ : Datagram) (s : State) : Host.Outcome State Fault Refusal :=
  let s := s.at t
  .next (if s.ethOn j then s.bump F.obsIng0_OTHER [j] 1 else s)

/-- ICMPV6_ECHO (R299): answered, unless the port's address is a duplicate (Table 13.9). -/
def execIcmpv6Echo (t : Tai) (j : Fin 2) (payload : List Byte) (s : State) : Host.Outcome State Fault Refusal :=
  let s := s.at t
  .next (if s.ethOn j ∧ ¬ bitAt s.tel.dad j then s.emit (.ethReply j payload) else s)

/-- NEIGHBOUR_DISCOVERY (R299, Table 13.9). -/
def execNeighbourDiscovery (t : Tai) (j : Fin 2) (duplicate : Bool) (s : State) : Host.Outcome State Fault Refusal :=
  let s := s.at t
  .next (if s.ethOn j ∧ duplicate then { s.set F.telPortStat_DAD_FAIL [j] 1 with tel := { s.tel with dad := s.tel.dad ||| 2 ^ j.val } } else s)

/-- ETH_LINK_CHANGE (R315, Table 13.9). -/
def execEthLinkChange (t : Tai) (j : Fin 2) (up : Bool) (s : State) : Host.Outcome State Fault Refusal :=
  let s := s.at t
  if s.on F.telPortStat_LINK [j] = up then .next s
  else
    let s := s.set F.telPortStat_LINK [j] (b2n up)
    .next (s.note { who := 1, cls := 9, act := if up then 0 else 1, obj := Reg.off .telPortStat [j], old := b2n (!up), new := b2n up })

/-- Whether a PTP port runs (R302). -/
def State.ptpRuns (s : State) (j : Nat) : Bool :=
  s.on (if j = 0 then F.telPtpCfg_PORT0 else F.telPtpCfg_PORT1) [] && s.ethOn j

/-- Enters a PTP state, journalled; LOCKED makes the timebase valid and ends holdover, HOLDOVER sets TIME_HOLDOVER (R58, R59,
R303). -/
def State.ptpState (s : State) (x : Nat) : State :=
  let old := s.get F.telPtpStat_STATE []
  if old = x then s
  else
    let s := s.set F.telPtpStat_STATE [] x
    let s := if x = 2 then (s.set F.frmStat_TIME_VALID [] 1).set F.frmStat_TIME_HOLDOVER [] 0
      else if x = 3 then s.set F.frmStat_TIME_HOLDOVER [] 1 else s
    s.note { who := 1, cls := 4, item := x, obj := Reg.off .telPtpStat [], old := old, new := x }

/-- PTP_SYNC (R302, R303, R57, R59): a Sync on the SLAVE port with an interval from 2^−7 s to 1 s. -/
def execPtpSync (t : Tai) (j : Fin 2) (m : SyncMeas) (s : State) : Host.Outcome State Fault Refusal :=
  let s := s.at t
  let slave := s.get F.telPtpStat_SLAVE_PORT []
  if ¬ s.ptpRuns j ∨ (j.val ≠ slave ∧ s.ptpRuns slave) ∨ m.intervalNs < 7812500 ∨ 1000000000 < m.intervalNs then .next s
  else
    let near := decide (m.offset.natAbs ≤ 1000)
    let newGm := decide (m.gm.toNat ≠ s.get F.telPtpGm_GM_ID [])
    let within := if near then s.tel.within + 1 else 0
    let s := { s with tel := { s.tel with within := min within 16, lastSync := some t, interval := m.intervalNs } }
    let s := ((s.set F.telPtpStat_SLAVE_PORT [] j).set F.telPtpGm_GM_ID [] m.gm.toNat).setI F.telPtpStat_OFFSET [] (satI 32 m.offset)
    let s := s.set F.frmStat_TIME_FAULT [] (b2n (decide (1000000 < m.offset.natAbs)))
    let st := s.get F.telPtpStat_STATE []
    let s := if st = 2 then (if newGm ∧ ¬ near then s.ptpState 1 else s) else s.ptpState 1
    .next (if s.get F.telPtpStat_STATE [] ≠ 2 ∧ 16 ≤ within then s.ptpState 2 else s)

/-- PTP_ANNOUNCE (R302): the port that hears the better master becomes the SLAVE port. -/
def execPtpAnnounce (t : Tai) (j : Fin 2) (a : Announce) (s : State) : Host.Outcome State Fault Refusal :=
  let s := s.at t
  if ¬ s.ptpRuns j ∨ a.domain ≠ s.get F.telPtpCfg_DOMAIN [] then .next s
  else
    let s := { s with tel := { s.tel with heard := Tbl.put s.tel.heard j { gm := a.gm, rank := a.rank } } }
    let slave := s.get F.telPtpStat_SLAVE_PORT []
    let better := !s.ptpRuns slave || (match Tbl.find s.tel.heard slave with | some h => decide (a.rank < h.rank) | none => true)
    .next (if better then s.set F.telPtpStat_SLAVE_PORT [] j else s)

/-- PTP_HOLDOVER (R303): no Sync for 8 intervals; another running port that hears a master takes over, or LOCKED ends. -/
def execPtpHoldover (t : Tai) (s : State) : Host.Outcome State Fault Refusal :=
  let s := s.at t
  let slave := s.get F.telPtpStat_SLAVE_PORT []
  if s.get F.telPtpStat_STATE [] ≠ 2 ∨ s.tel.lastSync.any (fun l => decide (t < l + 8 * s.tel.interval)) then .next s
  else if s.ptpRuns (1 - slave) ∧ (Tbl.find s.tel.heard (1 - slave)).isSome then
    .next ({ s with tel := { s.tel with lastSync := some t } }.set F.telPtpStat_SLAVE_PORT [] (1 - slave))
  else .next ({ s with tel := { s.tel with within := 0 } }.ptpState 3)

/-- PTP_DELAY_RESP (R302). -/
def execPtpDelayResp (t : Tai) (j : Fin 2) (delay : Int) (s : State) : Host.Outcome State Fault Refusal :=
  let s := s.at t
  .next (if s.ptpRuns j then { s with tel := { s.tel with delay := Tbl.put s.tel.delay j delay } } else s)

/-- The stream's part of a snapshot edge (R309, Table 13.5): the record held is latched, and STALE, AGE and the class's
decimation follow the snapshot. -/
def State.latchStream (s : State) (n : Nat) : State :=
  match Tbl.find s.tel.recs n with
  | none => s
  | some r =>
    if moduleStream n then { s with snap := Tbl.put s.snap (0x20000 + n) r }
    else
      let age := s.now - recGen r
      let stale := decide (s.get F.stmLo_T_STALE [n] * 10000 < age)
      let s := { s with snap := Tbl.put s.snap (0x20000 + n) (setBits r 23 1 (b2n stale)) }
      (s.set F.stmHi_STALE [n] (b2n stale)).set F.stmHi_AGE [n] (min (age / 100000) 0xFFFFFF)

/-- Latches every stream (R41, R309); the levels of the classes stand for DECIM and DEC_LVL of every entry. -/
def State.latchStreams (s : State) : State :=
  let s := { s with snap := s.snap.filter (fun e => decide (e.1 < 0x20000 ∨ 0x40000 ≤ e.1)) }
  let s := s.tel.recs.foldl (fun (s : State) e => s.latchStream e.1) s
  { s with tel := { s.tel with fresh := [], decLvls := bits (s.rd .telDecStat []) 0 9 } }

/-- DECIM and DEC_LVL of a stream's entry as a read returns them (Table 13.5). -/
def State.streamDec (s : State) (n : Nat) : Nat :=
  let c := s.get F.stmLo_PRIO [n]
  if moduleStream n ∨ c = 0 then 0 else bits s.tel.decLvls (3 * (c - 1)) 3

/-- A stream whose EN is written from 0 to 1 (R308): counters clear, NEVER and STALE are set, the record is discarded. -/
def State.streamOpen (s : State) (n : Nat) : State :=
  { s with tel := { s.tel with recs := Tbl.del s.tel.recs n, fresh := Tbl.del s.tel.fresh n, gens := Tbl.del s.tel.gens n } }.wr
    .stmHi [n] (Reg.resetWord .stmHi [n])

end Sys2Proof.Machine
end

