-- ==== Sys2Proof/Machine/Caps.lean ====
section
/-!
DEFINITION. Budgets and caps: the combination of budget sources, protection caps, cap records and cap frames, budget streams
(spec/07_policy.md R185 to R196, spec/13_telemetry.md R313 to R315, spec/17_protection.md R396 to R398).
-/
namespace Sys2Proof.Machine

/-- Bound packages of the row section in force: package, of the 640 there are (R2), rack and destination (R172, R173). -/
def State.boundPkgs (s : State) : List (Nat × Nat × Nat) :=
  ((((s.pln.inForce.bind PlanSet.row).map RowSection.pkgs).getD []).map (fun p => (p.1, p.2.1, p.2.2.2))).filter (fun p => decide (p.1 < 640))

/-- The protection cap in force for a package: the least of the holding responses' (R398). -/
def State.protCap (s : State) (p : Nat) : Option Nat :=
  (s.prt.caps.filter (fun e => decide (e.1 % 1024 = p) && bitAt (s.get F.prtStat_HOLD []) (e.1 / 1024))).foldl
    (fun (m : Option Nat) e => some (match m with | some x => min x e.2 | none => e.2)) none

/-- A package in the combination: u, its binding source (Table 7.8), its floor and whether a floor of R188 set it. -/
structure Fit where
  pkg : Nat
  rack : Nat
  u : Nat
  src : Nat
  mn : Nat
  inf : Bool
deriving DecidableEq, Repr

/-- fit(S, L) of R187 on the packages that a test selects, and whether L lies at or below their floors (R188). -/
def fitTo (sel : Fit → Bool) (lim code : Nat) (l : List Fit) : List Fit × Bool :=
  let su := sumOf (fun e => if sel e then e.u else 0) l
  let sf := sumOf (fun e => if sel e then e.mn else 0) l
  if su ≤ lim then (l, false)
  else if lim ≤ sf then (l.map (fun e => if sel e then { e with u := e.mn, src := 6, inf := true } else e), true)
  else (l.map (fun e =>
    if sel e then
      let v := e.mn + (e.u - e.mn) * (lim - sf) / (su - sf)
      if v = e.u then e else { e with u := v, src := code }
    else e), false)

/-- The first step of R187 for a package with a committed proposal: hi and u, with the lowest code among equal sources. -/
def State.pkgLimit (s : State) (p rack prop : Nat) : Fit :=
  let mx := 1000 * s.get F.capPkgLim_CAP_MAX [p]
  let mn := 1000 * s.get F.capPkgLim_CAP_MIN [p]
  let c := s.get F.capPkgLim_HOST_CEIL [p]
  let ceil := if c = 0xFFFF then 2 ^ 40 else 1000 * c
  let hi := min prop (min mx ceil)
  { pkg := p, rack := rack, u := max hi mn, src := if hi < mn then 6 else if hi = prop then 0 else if hi = mx then 1 else 2, mn := mn,
    inf := decide (ceil < mn) }

/-- Rack limit in mW and its code: the lower of the host's and the rack manager's (Table 7.6). -/
def State.rackLimit (s : State) (r : Nat) : Nat × Nat :=
  let h := s.get F.capRack_HOST_LIMIT [r]
  let m := s.get F.capRack_RM_LIMIT [r]
  if h = 0xFFFFFFFF ∧ m = 0xFFFFFFFF then (2 ^ 50, 3)
  else if m < h then (1000 * m, 4) else (1000 * h, 3)

/-- The proposal of a bound package that stands: one that the control plan has committed since the package was bound (R173, R186). -/
def State.proposal (s : State) (p : Nat) : Option Nat := if s.cap.first ∧ s.cap.live.contains p then Tbl.find s.frm.outs p else none

/-- The sources fitted to racks and row (R187), for every bound package (R186); one without a proposal enters at its floor
(DESIGN CHOICE, notes/assumptions/147.md). The packages, and whether a rack and whether the row is infeasible. -/
def State.fitted (s : State) : List Fit × Bool × Bool :=
  let l := s.boundPkgs.map (fun p => s.pkgLimit p.1 p.2.1 ((s.proposal p.1).getD 0))
  let a := (List.range 32).foldl (fun (q : List Fit × Bool) r =>
    let (lim, code) := s.rackLimit r
    let f := fitTo (fun e => decide (e.rack = r)) lim code q.1
    (f.1, q.2 || f.2)) (l, false)
  let b := s.get F.capRowBudget_BUDGET []
  let f := if b = 0xFFFFFFFF then (a.1, false) else fitTo (fun _ => true) (1000 * b) 5 a.1
  (f.1, a.2, f.2)

/-- Ramp steps per frame in mW, down and up (R187, R189). -/
def State.rampSteps (s : State) (p : Nat) : Nat × Nat :=
  (s.get F.capPkgRamp_RAMP_DN [p] * s.tF / 1000000, s.get F.capPkgRamp_RAMP_UP [p] * s.tF / 1000000)

/-- The record of a package after the fit: ramped from its base, or at its protection cap (R187, R189, R190, R193, R397). -/
def State.capRecord (s : State) (e : Fit) : CapRec :=
  let inf := if e.inf then 4 else 0
  match s.protCap e.pkg with
  | some c => { pkg := e.pkg, cap := c, target := c, rate := 0, src := 7, flags := inf + 2 }
  | none =>
    let base := Tbl.at s.cap.prev e.pkg e.mn
    let (dn, up) := s.rampSteps e.pkg
    let c := min (max e.u (base - dn)) (base + up)
    { pkg := e.pkg, cap := c, target := e.u, src := e.src, flags := inf + b2n (decide (c ≠ e.u)),
      rate := if c = e.u then 0 else if c < e.u then s.get F.capPkgRamp_RAMP_UP [e.pkg] else s.get F.capPkgRamp_RAMP_DN [e.pkg] }

/-- Frames until a released cap equals its target (R191). -/
def State.framesLeft (s : State) (r : CapRec) : Nat :=
  let (dn, up) := s.rampSteps r.pkg
  let step := if r.cap < r.target then up else dn
  if r.cap = r.target then 0
  else if step = 0 then 0xFFFF
  else min 0xFFFF (((r.target - r.cap) + (r.cap - r.target) + step - 1) / step)

/-- Journals and raises the infeasible limits and CFG_ERR that came or went (R188). -/
def State.infeasEvents (s : State) (bits_ : Nat) : State :=
  let old := s.cap.infeas
  let s := { s with cap := { s.cap with infeas := bits_ } }
  (List.range 4).foldl (fun (s : State) b =>
    if bitAt old b = bitAt bits_ b then s
    else
      let on := bitAt bits_ b
      s.note { who := 2, cls := 9, act := b2n (!on), item := b, obj := Reg.off .capStat [], old := b2n (!on), new := b2n on,
               raised := if on then some (evAlarm, 1, b) else none }) s

/-- Records of protected packages that have no proposal (R397). -/
def State.protRecords (s : State) (have_ : List Nat) : List CapRec :=
  s.boundPkgs.filterMap (fun p =>
    if have_.contains p.1 then none
    else (s.protCap p.1).map (fun c => { pkg := p.1, cap := c, target := c, rate := 0, src := 7, flags := 2 }))

/-- Sum of released caps in W, rounded down, for the release that a combination makes. -/
def recSum (l : List CapRec) : Nat := min 0xFFFFFFFF (sumOf CapRec.cap l / 1000)

/-- The budget state written into the module's streams (R196, Table 7.17), for the release at the next edge. -/
def State.budgetStreams (s : State) (l : List CapRec) : State :=
  let unit := fun (s : State) (n v : Nat) => { s with tel := { s.tel with recs := Tbl.put s.tel.recs n v } }
  let floors := sumOf (fun p => s.get F.capPkgLim_CAP_MIN [p.1]) s.boundPkgs
  let s := unit s 0xFF00 (s.frame + 1 + 2 ^ 64 * s.get F.capRowBudget_BUDGET [] + 2 ^ 96 * floors + 2 ^ 128 * recSum l +
    2 ^ 160 * bits (s.rd .capStat []) 0 32)
  let s := (List.range 2).foldl (fun (s : State) k => unit s (0xFF01 + k) ((List.range 16).foldl (fun (a : Nat) j =>
    a + 2 ^ (32 * j) * min (s.get F.capRack_HOST_LIMIT [16 * k + j]) (s.get F.capRack_RM_LIMIT [16 * k + j])) 0)) s
  let s := (List.range 40).foldl (fun (s : State) k => unit s (0xFF10 + k) ((List.range 16).foldl (fun (a : Nat) j =>
    let n := 16 * k + j
    a + 2 ^ (32 * j) * (min (s.get F.capPkgLim_CAP_MAX [n]) (s.get F.capPkgLim_HOST_CEIL [n]) + 65536 * s.get F.capPkgLim_CAP_MIN [n])) 0)) s
  (List.range 40).foldl (fun (s : State) k => unit s (0xFF40 + k) ((List.range 16).foldl (fun (a : Nat) j =>
    a + 2 ^ (32 * j) * (((l.find? (fun r => decide (r.pkg = 16 * k + j))).map CapRec.cap).getD 0)) 0)) s

/-- The combination of the seal window, over every bound package (R186, R187). Records are released for packages with a proposal
(R173, R186) and for those that protection holds (R397). -/
def State.combine (s : State) : State :=
  let bound := s.boundPkgs.map Prod.fst
  let s := { s with cap := { s.cap with prev := s.cap.prev.filter (fun e => bound.contains e.1), live := s.cap.live.filter (fun p => bound.contains p) } }
  let (fits, rack, row) := s.fitted
  let l := (fits.filter (fun e => (s.proposal e.pkg).isSome)).map s.capRecord
  let all := l ++ s.protRecords (l.map CapRec.pkg)
  let cfg := fits.any (fun e => s.get F.capPkgLim_CAP_MAX [e.pkg] = 0)
  let pkg := fits.any (fun e => decide (s.get F.capPkgLim_HOST_CEIL [e.pkg] < s.get F.capPkgLim_CAP_MIN [e.pkg]))
  let s := fits.foldl (fun (s : State) e =>
    let r := s.capRecord e
    let s := s.set F.capPkgOut_TARGET [e.pkg] r.target
    let s := (s.set F.capPkgSrc_SRC [e.pkg] r.src).set F.capPkgSrc_RAMPING [e.pkg] (b2n (decide (r.cap ≠ r.target)))
    (s.set F.capPkgSrc_INFEAS [e.pkg] (b2n e.inf)).set F.capPkgSrc_PROT [e.pkg] (b2n (decide (r.src = 7)))) s
  let cut := all.foldl (fun (m : Nat) r => max m (s.framesLeft r)) 0
  let s := (s.set F.capStat_INFEAS_ROW [] (b2n row)).set F.capStat_INFEAS_RACK [] (b2n rack)
  let s := (s.set F.capStat_INFEAS_PKG [] (b2n pkg)).set F.capStat_CFG_ERR [] (b2n cfg)
  let s := s.set F.capStat_RAMPING [] (b2n (all.any (fun r => decide (r.cap ≠ r.target))))
  let s := (s.set F.capStat_PROT [] (b2n (all.any (fun r => decide (r.src = 7))))).set F.capStat_CUT_FRAMES [] cut
  let s := { s with cap := { s.cap with pend := some all, prev := all.foldl (fun (t : Tbl Nat) (r : CapRec) => Tbl.put t r.pkg r.cap) s.cap.prev } }
  (s.infeasEvents (b2n row + 2 * b2n rack + 4 * b2n pkg + 8 * b2n cfg)).budgetStreams all

/-- The ports that a destination's frames leave on now, and those it may use (R313, R315). -/
def State.destPorts (s : State) (k : Nat) : List Nat × List Nat :=
  let e0 := s.on F.telDestCfg_ETH0 [k]
  let e1 := s.on F.telDestCfg_ETH1 [k]
  let fo := s.on F.telDestCfg_FAILOVER [k]
  let named := (if e0 then [0] else []) ++ (if e1 then [1] else [])
  if e0 = e1 then (named, named)
  else
    let p := named.headD 0
    if ¬ fo then (named, named)
    else (if s.on F.telPortStat_LINK [p] then named else [1 - p], [0, 1])

/-- The bytes of a cap record (Table 7.7). -/
def State.recBytes (s : State) (r : CapRec) (frame : Nat) : List Byte :=
  leBytes 2 r.pkg ++ leBytes 2 (s.get F.glbId_MODID []) ++ leBytes 4 r.cap ++ leBytes 4 r.target ++ leBytes 2 r.rate ++ leBytes 1 r.src ++
  leBytes 1 r.flags ++ leBytes 4 (s.get F.parLease_EPOCH []) ++ leBytes 4 (s.get F.capCfg_LEASE_F [] * s.tF / 1000) ++ leBytes 8 frame

/-- The bytes of a cap frame (Table 13.6). -/
def State.capFrameBytes (s : State) (kind dest port seq t : Nat) (l : List CapRec) (frame : Nat) : List Byte :=
  leBytes 1 1 ++ leBytes 1 kind ++ leBytes 2 l.length ++ leBytes 2 (s.get F.glbId_MODID []) ++ leBytes 1 dest ++
  leBytes 1 ((if kind = 0x11 then 1 else 0) + 2 * port) ++ leBytes 8 seq ++ leBytes 8 t ++ leBytes 4 (s.get F.parLease_EPOCH []) ++ leBytes 4 0 ++
  l.flatMap (fun r => s.recBytes r frame)

/-- A list in pieces of at most n. -/
def pieces {α : Type} (n : Nat) : Nat → List α → List (List α)
  | 0, _ => []
  | fuel + 1, l => if l.isEmpty then [] else l.take n :: pieces n fuel (l.drop n)

/-- Sends the records of one destination as cap frames (R313 to R315). -/
def State.sendDest (s : State) (kind k t frame : Nat) (l : List CapRec) : State :=
  if l.isEmpty then s
  else if ¬ s.on F.telDestCfg_EN [k] then s.bump F.obsEmit_DEST_OFF [] l.length
  else
    let (ports, may) := s.destPorts k
    let mtu := may.foldl (fun (m : Nat) p => min m (s.get F.telPortCfg_MTU [p])) 9000
    let fr := pieces ((mtu - 80) / 32) l.length l
    (List.range fr.length).foldl (fun (s : State) i =>
      let seq := t / 256 * 256 + i
      let s := (ports.filter (fun p => s.ethOn p && !bitAt s.tel.dad p)).foldl (fun (s : State) p =>
        s.emit (.capFrame p k seq (s.capFrameBytes kind k p seq t (fr.getD i []) frame))) s
      s.set F.telDestSeq_SEQ [k] seq) s

/-- Sends cap records to their destinations, packages rising within each; a package with CAP_MAX = 0 has none sent (Table 7.10). -/
def State.sendCaps (s : State) (kind t frame : Nat) (l : List CapRec) : State :=
  let l := (List.range 640).filterMap (fun p => l.find? (fun r => decide (r.pkg = p) && s.on F.capPkgLim_CAP_MAX [p]))
  let dest := fun (r : CapRec) => ((s.boundPkgs.find? (fun p => decide (p.1 = r.pkg))).map (fun p => p.2.2)).getD 64
  (List.range 64).foldl (fun (s : State) k => s.sendDest kind k t frame (l.filter (fun r => decide (dest r = k)))) s

/-- Whether the emit sequencer sends caps: the module asserts ACT and frames run (R34, R194, R397). -/
def State.capsMay (s : State) : Bool := s.on F.parStat_ACT [] && s.on F.frmStat_RUNNING []

/-- The release of a combination at t_n (R186, R313). -/
def State.releaseCaps (s : State) : State :=
  match s.cap.pend with
  | none => s
  | some l =>
    let s := { s with cap := { s.cap with pend := none } }
    let s := l.foldl (fun (s : State) r => s.set F.capPkgOut_RELEASED [r.pkg] r.cap) s
    let s := s.set F.capStat_ROW_SUM [] (recSum l)
    if s.capsMay then s.sendCaps 0x10 s.now s.frame l else s

/-- The cap records that wait for release take the protection caps in force (R397). -/
def State.patchCaps (s : State) : State :=
  { s with cap := { s.cap with pend := s.cap.pend.map (fun l => l.map (fun r =>
      match s.protCap r.pkg with
      | some c => { r with cap := c, target := c, rate := 0, src := 7, flags := (r.flags &&& 4) + 2 }
      | none => r)) } }

/-- The protection cap that a response gives a package at its decision (R396, R397). -/
def State.decideCap (s : State) (j p : Nat) : Nat :=
  let mn := 1000 * s.get F.capPkgLim_CAP_MIN [p]
  let rel := Tbl.at s.cap.prev p mn
  let c := if s.get F.prtRespCfg_PCAP [j] = 1 then mn else rel * s.get F.prtRespCfg_PCAP_PCT [j] / 100
  min rel c

/-- A response's protection caps take effect, and the emergency cap frames go out (R396, R397). -/
def State.protectCaps (s : State) (j : Nat) : State :=
  let racks := s.get F.prtRespRacks_CAPR [j]
  let l := s.boundPkgs.filter (fun p => bitAt racks p.2.1)
  if s.get F.prtRespCfg_PCAP [j] = 0 ∨ l.isEmpty then s
  else
    let caps := l.map (fun p => (p.1, s.decideCap j p.1))
    let s := { s with prt := { s.prt with caps := caps.foldl (fun (t : Tbl Nat) (e : Nat × Nat) => Tbl.put t (1024 * j + e.1) e.2) s.prt.caps } }
    let recs := caps.map (fun e => ({ pkg := e.1, cap := (s.protCap e.1).getD e.2, target := (s.protCap e.1).getD e.2, rate := 0, src := 7, flags := 2 } : CapRec))
    let s := { s with cap := { s.cap with prev := recs.foldl (fun (t : Tbl Nat) (r : CapRec) => Tbl.put t r.pkg r.cap) s.cap.prev } }
    let s := recs.foldl (fun (s : State) r =>
      let s := (s.set F.capPkgOut_RELEASED [r.pkg] r.cap).set F.capPkgOut_TARGET [r.pkg] r.cap
      ((s.set F.capPkgSrc_SRC [r.pkg] 7).set F.capPkgSrc_PROT [r.pkg] 1).set F.capPkgSrc_RAMPING [r.pkg] 0) s
    let s := (s.set F.capStat_PROT [] 1).patchCaps
    if s.capsMay then s.sendCaps 0x11 s.now s.frame recs else s

/-- A released response's protection caps end; released caps ramp up from them (R189, R401). -/
def State.unprotectCaps (s : State) (j : Nat) : State :=
  let old := s.prt.caps.filter (fun e => decide (e.1 / 1024 = j))
  let s := { s with prt := { s.prt with caps := s.prt.caps.filter (fun e => decide (e.1 / 1024 ≠ j)) } }
  let s := old.foldl (fun (s : State) e => s.set F.capPkgSrc_PROT [e.1 % 1024] (b2n (s.protCap (e.1 % 1024)).isSome)) s
  s.set F.capStat_PROT [] (b2n (s.boundPkgs.any (fun p => (s.protCap p.1).isSome)))

end Sys2Proof.Machine
end

