-- ==== Sys2Proof/Machine/Loop.lean ====
section
/-!
DEFINITION. The loop engine: samples, profile generator, laws, supervision, fabric silence and safe tables
(spec/09_loop_engine.md R223 to R247), with the abort of ripples that a sample brings about (spec/08_calibration.md R210).
-/
namespace Sys2Proof.Machine

/-- The parameters of a channel that a sample uses: class, divisor d (h = d/64,000 s), gains, bias and limits in Q16. -/
structure ChCfg where
  g : Bool
  d : Nat
  kp : Int
  ki : Int
  kd : Int
  ad : Nat
  bias : Int
  umin : Int
  umax : Int
  du : Int
  vmax : Int
  amax : Int
  jmax : Int
  tbl : List (Int × Int)
deriving DecidableEq, Repr

/-- Points of a table from two fields. -/
def State.points (s : State) (x y : Fld) (t n : Nat) : List (Int × Int) :=
  (List.range n).map (fun j => (s.getI x [t, j], s.getI y [t, j]))

/-- The parameters in force (Tables 9.6 to 9.17). -/
def State.chCfg (s : State) (n : Nat) : ChCfg :=
  let g := s.on F.lpeChCfg_CLASS [n]
  { g := g, d := s.get F.lpeChCfg_DIV [n] + 1, kp := s.getI F.lpeChKpi_KP [n], ki := s.getI F.lpeChKpi_KI [n],
    kd := s.getI F.lpeChKd_KD [n], ad := s.get F.lpeChKd_AD [n], bias := s.getI F.lpeChxOut_U_BIAS [n],
    umin := s.getI F.lpeChUlim_UMIN [n], umax := s.getI F.lpeChUlim_UMAX [n], du := s.getI F.lpeChxProf2_DU_MAX [n],
    vmax := s.getI F.lpeChxProf1_V_MAX [n], amax := s.getI F.lpeChxProf1_A_MAX [n], jmax := s.getI F.lpeChxProf2_J_MAX [n],
    tbl := if g then s.points F.lpeGtbl_E F.lpeGtbl_G (s.get F.lpeChGtb_TBL [n]) 64 else [] }

/-- Whether a table's abscissas are strictly ascending. -/
def ascending : List (Int × Int) → Bool
  | [] => true
  | [_] => true
  | a :: b :: r => decide (a.1 < b.1) && ascending (b :: r)

/-- Saturation with the mark that it changed its argument. -/
def satM (w : Nat) (i : Int) : Int × Bool := (satI w i, decide (satI w i ≠ i))

/-- The ordinate of a table at e: the end points beyond it, else interpolated (R232). -/
def lookup (e : Int) : List (Int × Int) → Int × Bool
  | [] => (0, false)
  | [p] => (p.2, false)
  | p :: q :: r =>
    if e ≤ p.1 then (p.2, false)
    else if e < q.1 then
      let f := rneDiv ((e - p.1) * 65536) (q.1 - p.1).toNat
      satM 32 (p.2 + rneDiv (f * (q.2 - p.2)) 65536)
    else lookup e (q :: r)

/-- The square root of 2·A·|Δ| in Q32, correctly rounded, for A in Q16 and Δ in Q32 (R230). -/
def rootQ (a dl : Nat) : Int :=
  let x := 2 * a * dl * 65536
  let q := Num.isqrt x
  if q * q + q < x then q + 1 else q

/-- One step of the profile generator (R230) towards x (Q16) from r, v and a (Q32). -/
def profileStep (c : ChCfg) (x r v a : Int) : Int × Int × Int :=
  if c.vmax = 0 ∧ c.amax = 0 then (x * 65536, 0, 0)
  else
    let dl := satI 64 (x * 65536 - r)
    let vb := if c.amax ≠ 0 then rootQ c.amax.toNat dl.natAbs else c.vmax * 65536
    let vb := if c.vmax ≠ 0 then min vb (c.vmax * 65536) else vb
    let ad := satI 64 (rneDiv (satI 64 (dl.sign * vb - v) * 64000) c.d)
    let ad := if c.amax ≠ 0 then clampI (-(c.amax * 65536)) (c.amax * 65536) ad else ad
    let jh := rneDiv (c.jmax * 65536 * c.d) 64000
    let ad := if c.jmax ≠ 0 then clampI (satI 64 (a - jh)) (satI 64 (a + jh)) ad else ad
    let v := satI 64 (v + rneDiv (ad * c.d) 64000)
    let v := if c.vmax ≠ 0 then clampI (-(c.vmax * 65536)) (c.vmax * 65536) v else v
    let rn := satI 64 (r + rneDiv (v * c.d) 64000)
    let left := x * 65536 - rn
    if dl ≠ 0 ∧ (left = 0 ∨ left.sign = -dl.sign) then (x * 65536, 0, 0) else (rn, v, ad)

/-- What a law leaves: output, I and D, and whether SAT and OUT_LIM are set. -/
structure LawOut where
  u : Int
  i : Int
  d : Int
  sat : Bool
  lim : Bool
deriving DecidableEq, Repr

/-- The output slew step DU_MAX·h in Q16 (R234). -/
def duStep (c : ChCfg) : Int := max 1 (rneDiv (c.du * c.d) 64000)

/-- The limits uh and ul in force and whether forming them saturated (R234). -/
def slewLimits (c : ChCfg) (uPrev : Int) : Int × Int × Bool :=
  if c.du = 0 then (c.umax, c.umin, false)
  else
    let up := satM 32 (uPrev + duStep c)
    let dn := satM 32 (uPrev - duStep c)
    (min c.umax up.1, max c.umin dn.1, up.2 || dn.2)

/-- limit(p, ic, Dn) of R234, from the integral I before the sample. -/
def limitLaw (c : ChCfg) (uPrev i e p ic dn : Int) (sat : Bool) : LawOut :=
  let (uh, ul, s1) := slewLimits c uPrev
  let ur := satM 64 (c.bias * 65536 + p + ic + dn)
  let k := c.ki * e
  let ic := if (uh * 65536 < ur.1 ∧ 0 < k) ∨ (ur.1 < ul * 65536 ∧ k < 0) then i else ic
  let i := clampI ((c.umin - c.bias) * 65536) ((c.umax - c.bias) * 65536) ic
  let ur2 := satM 64 (c.bias * 65536 + p + i + dn)
  let x := rneDiv ur2.1 65536
  let u := min (max x ul) uh
  { u := u, i := i, d := dn, sat := sat || s1 || ur.2 || ur2.2, lim := decide (u ≠ x) }

/-- The class P law (R231). -/
def lawP (c : ChCfg) (uPrev i d r y yPrev : Int) : LawOut :=
  let e := satM 32 (r - y)
  let ic := satM 64 (i + c.ki * e.1)
  let dy := satM 32 (y - yPrev)
  let dn := satM 64 (rneDiv (c.ad * d) 65536 - c.kd * dy.1)
  limitLaw c uPrev i e.1 (c.kp * e.1) ic.1 dn.1 (e.2 || ic.2 || dy.2 || dn.2)

/-- The class G law (R232). -/
def lawG (c : ChCfg) (uPrev i d r y : Int) : LawOut :=
  let e := satM 32 (r - y)
  let g := lookup e.1 c.tbl
  let ic := satM 64 (i + c.ki * e.1)
  let o := limitLaw c uPrev i e.1 (g.1 * e.1) ic.1 0 (e.2 || g.2 || ic.2)
  { o with d := d }

/-- A channel without feedback: its output follows the set-point within the limits (R235). -/
def lawOpen (c : ChCfg) (uPrev i d r : Int) : LawOut :=
  let (uh, ul, s1) := slewLimits c uPrev
  let u := min (max r ul) uh
  { u := u, i := i, d := d, sat := s1, lim := decide (u ≠ r) }

/-- Raw value of a source, if it is valid for a channel with this FB_AGE in ms (R224, R237, R262). -/
def State.sourceValue (s : State) (kind idx age : Nat) : Option Int :=
  let fresh := fun (a : Option Nat) => decide (age = 0) || a.any (fun a => decide (s.now - a ≤ 1000000 * age))
  match kind with
  | 1 => if ¬ s.pioFaulted idx ∧ fresh (Tbl.find s.pio.tai idx) then some (signed 32 (s.pioValue idx)) else none
  | 2 => if ¬ s.pioFaulted (64 + idx) ∧ fresh (Tbl.find s.pio.tai (64 + idx)) then some (signed 32 (s.pioValue (64 + idx))) else none
  | 3 => if ¬ s.pvalFaulted idx ∧ fresh (Tbl.find s.can.pvalAt idx) then some (s.getI F.fbPvalVal_VALUE [idx]) else none
  | 4 =>
    if idx < 4 then
      if s.on F.drvPmpStat_FLT_OFF [idx] ∨ s.on F.drvPmpStat_OFF_ACT [idx] ∨ ¬ fresh (Tbl.at s.drv.pump idx {}).meas then none
      else some (centi (s.get F.drvPmpMeas_SPEED [idx]))
    else
      let f := idx - 4
      if s.on F.drvFanStat_RETRY_WAIT [f] ∨ s.on F.drvFanStat_OC [f] ∨ s.on F.drvFanStat_OFF_ACT [f] ∨ ¬ fresh (Tbl.at s.drv.fan f {}).meas then none
      else some (centi (s.get F.drvFanMeas_SPEED [f]))
  | _ => none

/-- Samples over a time in ms, at least one (R239). -/
def samplesOver (ms d : Nat) : Nat := max 1 ((ms * 1000000 + (d * 15625 - 1)) / (d * 15625))

/-- A change of a channel that is journalled (R244, R246). -/
def lpeNote (n act item obj old new : Nat) (safety : Bool) : Note :=
  { who := 0x10, idx := n, cls := 5, act := act, item := item, obj := obj, old := old, new := new, safety := safety }

/-- ON_SAFE set or cleared, journalled (R243, R244). -/
def State.setOnSafe (s : State) (n : Nat) (b : Bool) : State :=
  if s.on F.lpeChStat_ON_SAFE [n] = b then s
  else (s.set F.lpeChStat_ON_SAFE [n] (b2n b)).note (lpeNote n (b2n (!b)) 17 (Reg.off .lpeChStat [n]) 0 0 true)

/-- The channel enters FAULTED (R241) by a flag of `_STAT`. -/
def State.lpeFault (s : State) (n : Nat) (flag : Fld) : State :=
  let s := s.set flag [n] 1
  let c := s.chan n
  let s := s.setChan n { c with lost := c.lost || decide (flag.lo = 2), rec_ := 0 }
  if s.on F.lpeChStat_FAULTED [n] then s
  else (s.set F.lpeChStat_FAULTED [n] 1).note (lpeNote n 0 16 (Reg.off .lpeChStat [n]) 0 flag.lo true)

/-- The channel leaves FAULTED (R241). -/
def State.lpeRestore (s : State) (n : Nat) : State :=
  let s := s.setChan n { s.chan n with lost := false }
  if s.on F.lpeChStat_FAULTED [n] then
    (s.set F.lpeChStat_FAULTED [n] 0).note (lpeNote n 1 16 (Reg.off .lpeChStat [n]) 0 0 true)
  else s

/-- A ripple descriptor beside its registers. -/
def State.ripple (s : State) (i : Nat) : Rip := Tbl.at s.lpe.rip i {}

/-- Replaces a ripple descriptor's state. -/
def State.setRipple (s : State) (i : Nat) (x : Rip) : State := { s with lpe := { s.lpe with rip := Tbl.put s.lpe.rip i x } }

/-- Duration of a ripple in frames. -/
def State.rippleDur (s : State) (i : Nat) : Nat := s.get F.lpeRplCfg_DUR [i] + 1

/-- Journals what becomes of a ripple (R210). -/
def rippleNote (i act item : Nat) : Note :=
  { who := 0x10, idx := i, cls := 5, act := act, item := item, obj := Reg.off .lpeRplCfg [i] }

/-- Aborts an active ripple (R210): its offset returns to 0 at the next sample, its SETTLE still applies. -/
def State.rippleAbort (s : State) (i : Nat) : State :=
  let x := s.ripple i
  if x.st ≠ 1 then s
  else
    let n := s.get F.lpeRplCfg_CH [i]
    let s := s.setRipple i { x with st := 3, off := 0, settled := s.frame + s.get F.lpeRplAmp_SETTLE [i] }
    let s := s.setChan n { s.chan n with off := 0 }
    (s.bump F.obsRpl_ABORT [] 1).note (rippleNote i 1 3)

/-- Aborts the active ripples of a channel. -/
def State.rippleAbortOf (s : State) (n : Nat) : State :=
  (List.range 32).foldl (fun (s : State) i => if s.get F.lpeRplCfg_CH [i] = n then s.rippleAbort i else s) s

/-- Offset of the ripple active on a channel. -/
def State.rippleOffset (s : State) (n : Nat) : Int :=
  (List.range 32).foldl (fun (o : Int) i => if s.get F.lpeRplCfg_CH [i] = n then o + (s.ripple i).off else o) 0

/-- Whether a channel is in normal service without FOLLOW_ERR and unforced (R209). -/
def State.chanNormal (s : State) (n : Nat) : Bool :=
  decide ((s.chan n).eff = 2) && !s.on F.lpeChStat_FAULTED [n] && !s.on F.lpeChStat_FOLLOW_ERR [n] && !s.on F.lpeChStat_ON_SAFE [n]

/-- Conditions of a running ripple that the companion controller sees (R209, R210). -/
def State.rippleMay (s : State) (i : Nat) : Bool :=
  s.on F.lpeRplCtrl_EN [] && decide (s.get F.plnLadderStat_RUNG [] ≤ s.get F.lpeRplCtrl_RUNG_MAX []) && !s.on F.prtStat_ANY [] &&
  !s.on F.lpeStat_SILENT [] && s.chanNormal (s.get F.lpeRplCfg_CH [i])

/-- A channel leaves service (R225): its actuator is released, a Peser object's pending frame cancelled (R270), its ripple abandoned. -/
def State.chanOff (s : State) (n : Nat) : State :=
  let s := s.rippleAbortOf n
  let c := s.chan n
  let i := s.get F.lpeChCfg_ACT_IDX [n]
  let s := if s.get F.lpeChCfg_ACT_KIND [n] = 4 then s.canCancel (i / 256) (i % 256) else s
  (s.setChan n { c with mode := 0, eff := 0, applied := none, forced := none, init := none, off := 0 }).set F.lpeChStat_STATE [n] 0

/-- A written mode takes effect (R225, R241, R242). -/
def State.chanMode (n : Nat) (s : State) (m : Nat) : State :=
  let old := (s.chan n).mode
  let s := if m = old then s else s.note (lpeNote n 0 m (Reg.off .lpeChCfg [n]) old m false)
  let flt := s.on F.lpeChStat_FAULTED [n]
  let s := s.lpeRestore n
  if m = 0 then s.chanOff n
  else
    let bias := clampI (s.getI F.lpeChUlim_UMIN [n]) (s.getI F.lpeChUlim_UMAX [n]) (s.getI F.lpeChxOut_U_BIAS [n])
    let c := s.chan n
    let init := if old = 0 then some bias else if flt then some c.u else c.init
    let fresh := decide (m ≠ old) || init.isSome || decide (m = 2)
    s.setChan n { c with mode := m, init := init, eff := if fresh then m else c.eff,
                         fe := if fresh then 0 else c.fe, pas := if fresh then 0 else c.pas, u := if old = 0 then bias else c.u,
                         tgt := if old = 0 then none else c.tgt, band := if old = 0 then none else c.band,
                         taken := if old = 0 then none else c.taken }

/-- Step 2 of Table 9.2: the writes of `_CFG` since the last sample take effect, in the order they were accepted. -/
def State.chanWrite (s : State) (n : Nat) : State :=
  let l := (s.chan n).modes
  l.foldl (State.chanMode n) (s.setChan n { s.chan n with modes := [] })

/-- Step 3 of Table 9.2: the newest block's target, band and ripple offset, and ON_SAFE (R228, R229, R243, R244).
The offset of a ripple that has ended is 0 at the first sample, with a block or without (R207, R210). -/
def State.chanTake (s : State) (n : Nat) : State :=
  let c := s.chan n
  let s :=
    match s.lpe.blk with
    | none => s
    | some b =>
      if s.lpe.blkAt < s.now ∧ c.taken ≠ some s.lpe.blkAt then
        let at_ := fun (o : Nat) => (Tbl.find b.outs (1024 * o + n)).map (fun (x : BitVec 32) => signed 32 x.toNat)
        let tgt := if b.live.contains (1024 + n) then (match at_ 1 with | some x => some x | none => c.tgt) else c.tgt
        let band : Option (Int × Int) := if s.claimed 2 n ∧ s.claimed 3 n then (match at_ 2, at_ 3 with | some l, some h => some (l, h) | _, _ => none) else none
        let s := s.setChan n { c with taken := some s.lpe.blkAt, tgt := tgt, band := band, off := s.rippleOffset n }
        if band.any (fun (p : Int × Int) => decide (p.2 < p.1)) then s.set F.lpeChStat_BAND_BAD [n] 1 else s
      else s
  let s := if s.rippleOffset n = 0 then s.setChan n { s.chan n with off := 0 } else s
  let safe := (s.chan n).want || s.on F.lpeCtrl_FORCE_SAFE []
  (s.setOnSafe n safe)

/-- The safe-table target of this sample (R245). -/
def State.safeTarget (s : State) (n : Nat) : State :=
  let c := s.chan n
  let pts := s.points F.lpeStbl_X F.lpeStbl_T n 16
  let t0 := (pts.headD (0, 0)).2
  let kind := s.get F.lpeChCfg_SCHED_KIND [n]
  if kind = 0 then s.setChan n { c with safe := t0 }
  else if ¬ ascending pts then (s.setChan n { c with safe := t0 }).set F.lpeChStat_TBL_ERR [n] 1
  else
    let last := match s.sourceValue kind (s.get F.lpeChCfg_SCHED_IDX [n]) (s.get F.lpeChSup_FB_AGE [n]) with
      | some x => some (clampI (s.getI F.lpeChTlim_TMIN [n]) (s.getI F.lpeChTlim_TMAX [n]) (lookup x pts).1)
      | none => c.sLast
    s.setChan n { c with sLast := last, safe := last.getD t0 }

/-- Initialises a channel from u0 (R242). -/
def State.chanInit (s : State) (n : Nat) (u0 : Int) (valid : Bool) : State :=
  let c := s.chan n
  let tmin := s.getI F.lpeChTlim_TMIN [n]
  let tmax := s.getI F.lpeChTlim_TMAX [n]
  let umin := s.getI F.lpeChUlim_UMIN [n]
  let umax := s.getI F.lpeChUlim_UMAX [n]
  let bias := s.getI F.lpeChxOut_U_BIAS [n]
  let r := if valid then clampI tmin tmax c.y else if s.get F.lpeChCfg_FB_KIND [n] = 0 then clampI tmin tmax u0 else tmin
  s.setChan n { c with r := r * 65536, v := 0, a := 0, d := 0, yPrev := c.y, u := u0, init := none,
                       i := clampI ((umin - bias) * 65536) ((umax - bias) * 65536) ((u0 - bias) * 65536),
                       fe := 0, bnd := 0, pas := 0, rec_ := 0, miss := 0, imp := false }

/-- The band in use (R229). -/
def State.bandInUse (s : State) (n : Nat) : Int × Int :=
  let lim := (s.getI F.lpeChTlim_TMIN [n], s.getI F.lpeChTlim_TMAX [n])
  if s.on F.lpeChStat_ON_SAFE [n] then lim
  else match (s.chan n).band with
    | some (l, h) => if h < l then lim else (l, h)
    | none => lim

/-- Step 6 of Table 9.2 (R237 to R241), for a sample whose validity is known. Whether the channel was initialised by automatic
recovery is in `init`. -/
def State.supervise (s : State) (n : Nat) (valid : Bool) : State :=
  let c := s.chan n
  let d := s.get F.lpeChCfg_DIV [n] + 1
  if s.get F.lpeChCfg_FB_KIND [n] = 0 then s
  else if ¬ valid then
    let s := (s.set F.lpeChStat_MISS_SMP [n] 1).bump F.obsLmiss_MISS_SMP [n] 1
    let s := s.setChan n { c with miss := c.miss + 1, rec_ := 0 }
    if s.get F.lpeChCfg_MISS_MAX [n] < c.miss + 1 then s.lpeFault n F.lpeChStat_FB_LOST else s
  else
    let c := if c.miss ≠ 0 then { c with yPrev := c.y, miss := 0 } else c
    if c.forced.isSome then s.setChan n c
    else
      let nFe := samplesOver (s.get F.lpeChSup_FE_TIME [n]) d
      let nBand := samplesOver (s.get F.lpeChSup_BAND_TIME [n]) d
      let lim := s.getI F.lpeChSup_FE_LIM [n]
      let e : Int := (rneDiv c.r 65536 - c.y).natAbs
      let out := decide (c.y < c.lo ∨ c.hi < c.y)
      let flt := s.on F.lpeChStat_FAULTED [n]
      let checked := !flt || decide (s.get F.lpeChCfg_FAULT_ACT [n] = 1)
      let bnd := if out ∧ checked then c.bnd + 1 else 0
      let hit := decide (nBand ≤ bnd)
      let fe := if ¬ flt ∧ c.eff = 2 ∧ lim ≠ 0 ∧ lim < e then c.fe + 1 else 0
      let ok := decide (lim = 0 ∨ e ≤ lim)
      let pas := if ¬ flt ∧ (c.eff = 1 ∨ c.eff = 4) ∧ ok then c.pas + 1 else 0
      let rec_ := if flt ∧ s.on F.lpeChCfg_AUTO_REC [n] ∧ ok ∧ ¬ out then c.rec_ + 1 else 0
      let s := s.setChan n { c with bnd := bnd, fe := fe, pas := pas, rec_ := rec_, imp := hit }
      let s := if hit then s.set F.lpeChStat_IMPLAUS [n] 1 else s
      let s := if hit ∧ ¬ c.imp ∧ (flt ∨ c.eff = 2) then s.note (lpeNote n 0 1 (Reg.off .lpeChStat [n]) 0 0 false) else s
      let s := if hit ∧ ¬ flt ∧ c.eff ≠ 2 then s.lpeFault n F.lpeChStat_IMPLAUS
        else if ¬ flt ∧ nFe ≤ fe then s.lpeFault n F.lpeChStat_FOLLOW_ERR
        else if pas ≠ 0 ∧ nFe ≤ pas then s.setChan n { s.chan n with eff := 2, pas := 0 }
        else s
      if rec_ ≠ 0 ∧ nFe ≤ rec_ then ((s.lpeRestore n).setChan n { s.chan n with eff := 4, lost := false }).chanInit n (s.chan n).u true else s

/-- Step 7 of Table 9.2: the output of the sample. -/
def State.chanOutput (s : State) (n : Nat) (valid : Bool) : State :=
  let c := s.chan n
  let g := s.chCfg n
  let rk := rneDiv c.r 65536
  let flt := s.on F.lpeChStat_FAULTED [n]
  let act := s.get F.lpeChCfg_FAULT_ACT [n]
  let safeTgt := flt && decide (act = 1) && !c.lost
  if c.forced.isSome then s
  else if s.get F.lpeChCfg_FB_KIND [n] = 0 then
    let o := lawOpen g c.u c.i c.d rk
    let s := s.setChan n { c with u := o.u }
    let s := if o.sat then s.set F.lpeChStat_SAT [n] 1 else s
    if o.lim then s.set F.lpeChStat_OUT_LIM [n] 1 else s
  else if flt ∧ ¬ safeTgt ∧ act = 2 then
    let us := clampI g.umin g.umax (s.getI F.lpeChxOut_U_SAFE [n])
    let u := if g.du = 0 then us else clampI (c.u - duStep g) (c.u + duStep g) us
    s.setChan n { c with u := u }
  else if (flt ∧ ¬ safeTgt) ∨ ¬ valid then s
  else
    let o := if g.g then lawG g c.u c.i c.d rk c.y else lawP g c.u c.i c.d rk c.y c.yPrev
    let s := s.setChan n { c with u := o.u, i := o.i, d := o.d, yPrev := c.y }
    let s := if o.sat then s.set F.lpeChStat_SAT [n] 1 else s
    if o.lim then s.set F.lpeChStat_OUT_LIM [n] 1 else s

/-- The state entry of Table 9.4 as words. -/
def State.publishChan (s : State) (n : Nat) : State :=
  let c := s.chan n
  let q := fun (x : Int) => unsigned 32 (satI 32 (rneDiv x 65536))
  let w := fun (s : State) (k lo hi : Nat) => s.set F.lpeChs_WORD [n, k] (lo + 2 ^ 32 * hi)
  let s := w s 0 (unsigned 32 c.xs) (q c.r)
  let s := w s 1 (q c.v) (q c.a)
  let s := w s 2 (unsigned 32 c.y) (unsigned 32 c.u)
  let s := s.set F.lpeChs_WORD [n, 3] (unsigned 64 c.i)
  let s := s.set F.lpeChs_WORD [n, 4] (unsigned 64 c.d)
  let s := w s 5 (unsigned 32 c.lo) (unsigned 32 c.hi)
  let s := w s 6 (unsigned 32 c.safe) (bits (s.rd .lpeChStat [n]) 0 32)
  s.set F.lpeChs_WORD [n, 7] s.now

/-- Whether some channel not in OFF is ON_SAFE (Table 9.19). -/
def State.anySafe (s : State) : State :=
  s.set F.lpeStat_ANY_SAFE [] (b2n ((List.range 256).any (fun n => decide ((s.chan n).mode ≠ 0) && s.on F.lpeChStat_ON_SAFE [n])))

/-- Step 4 of Table 9.2: the feedback, and whether it is valid (R224, R237). -/
def State.chanFeedback (s : State) (n : Nat) : State × Bool :=
  match s.sourceValue (s.get F.lpeChCfg_FB_KIND [n]) (s.get F.lpeChCfg_FB_IDX [n]) (s.get F.lpeChSup_FB_AGE [n]) with
  | some x =>
    let y := satM 32 (rneDiv (s.getI F.lpeChxFb_FB_OFF [n] * 65536 + s.getI F.lpeChxFb_FB_GAIN [n] * x) 65536)
    let s := s.setChan n { s.chan n with y := y.1 }
    (if y.2 then s.set F.lpeChStat_SAT [n] 1 else s, true)
  | none => (s, false)

/-- Step 5 of Table 9.2: the target in use, the profile and the band in use (R228 to R230). -/
def State.chanProfile (s : State) (n : Nat) : State :=
  let c := s.chan n
  let safe := s.on F.lpeChStat_ON_SAFE [n] ||
    (s.on F.lpeChStat_FAULTED [n] && decide (s.get F.lpeChCfg_FAULT_ACT [n] = 1) && !c.lost)
  let xt := if safe then c.safe else c.tgt.getD c.safe
  let xs := clampI (s.getI F.lpeChTlim_TMIN [n]) (s.getI F.lpeChTlim_TMAX [n]) (xt + c.off)
  let p := profileStep (s.chCfg n) xs c.r c.v c.a
  let b := s.bandInUse n
  s.setChan n { c with xs := xs, r := p.1, v := p.2.1, a := p.2.2, lo := b.1, hi := b.2 }

/-- The ripples on a channel that its sample ends (R210): feedback outside the band, or a start condition that fails. -/
def State.chanRipples (s : State) (n : Nat) (out : Bool) : State :=
  (List.range 32).foldl (fun (s : State) i =>
    if s.get F.lpeRplCfg_CH [i] = n ∧ (out = true ∨ s.rippleMay i = false) then s.rippleAbort i else s) s

/-- The bits of `_STAT` that show the sample's state (Table 9.13). -/
def State.chanStat (s : State) (n : Nat) : State :=
  let c := s.chan n
  let s := s.set F.lpeChStat_STATE [n] c.eff
  let s := s.set F.lpeChStat_SETTLED [n] (b2n (decide (c.r = c.xs * 65536 ∧ c.v = 0)))
  let s := s.set F.lpeChStat_RIPPLE [n] (b2n (decide (c.off ≠ 0)))
  let s := s.set F.lpeChStat_PROT [n] (b2n c.forced.isSome)
  s.bumpWrap F.lpeChStat_SAMPLES [n] 1

/-- Steps 4 to 7 of Table 9.2 for a channel that is not OFF. -/
def State.chanCompute (s : State) (n : Nat) : State :=
  let p := s.chanFeedback n
  let valid := p.2
  let s := p.1.safeTarget n
  let s := match (s.chan n).init with | some u0 => s.chanInit n u0 valid | none => s
  let s := ((s.chanProfile n).supervise n valid).chanOutput n valid
  let c := s.chan n
  (s.chanRipples n (valid && decide (c.y < c.lo ∨ c.hi < c.y))).chanStat n

/-- The gain table in use, its switch journalled (R233, R246). -/
def State.chanTable (s : State) (n : Nat) : State :=
  let c := s.chan n
  let t := s.get F.lpeChGtb_TBL [n]
  if ¬ s.on F.lpeChCfg_CLASS [n] ∨ c.tbl = some t then s
  else
    let s := s.setChan n { c with tbl := some t }
    match c.tbl with
    | some o => s.note (lpeNote n 0 64 (Reg.off .lpeChGtb [n]) o t false)
    | none => s

/-- Protection's hold on the channel's actuator at this sample; at release the channel is to be initialised from the value protection
left (R236, R401). -/
def State.chanForced (s : State) (n : Nat) : State :=
  let c := s.chan n
  let f := s.forcedChan n
  s.setChan n { c with forced := f, init := match f, c.forced with | none, some v => some v | _, _ => c.init }

/-- One sample of a channel (Table 9.2). -/
def State.sample (s : State) (n : Nat) : State :=
  let c := s.chan n
  let s := if c.mode ≠ 0 then s.setChan n { c with applied := some c.u } else s
  let s := s.chanWrite n
  if (s.chan n).mode = 0 then s.anySafe.refreshOutputs
  else
    let s := ((s.chanTable n).chanForced n).chanTake n
    ((s.chanCompute n).publishChan n).anySafe.refreshOutputs

/-- Whether a channel samples at an instant: a TAI multiple of d·T_S, with d = DIV + 1 (R55, R226). -/
def State.samplesAt (s : State) (n : Nat) (t : Tai) : Bool := decide (t % ((s.get F.lpeChCfg_DIV [n] + 1) * 15625) = 0)

/-- LOOP_SAMPLE (R55, R226, R227). -/
def execLoopSample (t : Tai) (n : Fin 256) (s : State) : Host.Outcome State Fault Refusal :=
  let s := s.at t
  .next (if s.samplesAt n t then s.sample n else s)

/-- FB_LOST (R237): more than MISS_MAX consecutive samples were missed. -/
def execFbLost (t : Tai) (n : Fin 256) (s : State) : Host.Outcome State Fault Refusal :=
  let s := s.at t
  .next (if (s.chan n).mode ≠ 0 ∧ s.get F.lpeChCfg_FB_KIND [n.val] ≠ 0 ∧ s.get F.lpeChCfg_MISS_MAX [n.val] < (s.chan n).miss then
    s.lpeFault n F.lpeChStat_FB_LOST else s)

/-- FOLLOW_ERR (R239): the following error stood beyond FE_LIM over FE_TIME. -/
def execFollowErr (t : Tai) (n : Fin 256) (s : State) : Host.Outcome State Fault Refusal :=
  let s := s.at t
  let c := s.chan n
  .next (if c.mode ≠ 0 ∧ c.eff = 2 ∧ c.forced.isNone ∧ s.get F.lpeChSup_FE_LIM [n.val] ≠ 0 ∧
      samplesOver (s.get F.lpeChSup_FE_TIME [n.val]) (s.get F.lpeChCfg_DIV [n.val] + 1) ≤ c.fe then
    s.lpeFault n F.lpeChStat_FOLLOW_ERR else s)

/-- IMPLAUS (R240): the feedback stood outside the band over BAND_TIME. -/
def execImplaus (t : Tai) (n : Fin 256) (s : State) : Host.Outcome State Fault Refusal :=
  let s := s.at t
  let c := s.chan n
  if c.mode ≠ 0 ∧ c.forced.isNone ∧ samplesOver (s.get F.lpeChSup_BAND_TIME [n.val]) (s.get F.lpeChCfg_DIV [n.val] + 1) ≤ c.bnd then
    .next (if c.eff = 2 then s.set F.lpeChStat_IMPLAUS [n.val] 1 else s.lpeFault n F.lpeChStat_IMPLAUS)
  else .next s

/-- START_TO_NORMAL (R238): a START or RECOVER channel has stayed within FE_LIM over FE_TIME. -/
def execStartToNormal (t : Tai) (n : Fin 256) (s : State) : Host.Outcome State Fault Refusal :=
  let s := s.at t
  let c := s.chan n
  .next (if (c.eff = 1 ∨ c.eff = 4) ∧ ¬ s.on F.lpeChStat_FAULTED [n.val] ∧
      samplesOver (s.get F.lpeChSup_FE_TIME [n.val]) (s.get F.lpeChCfg_DIV [n.val] + 1) ≤ c.pas then
    (s.setChan n { c with eff := 2, pas := 0 }).set F.lpeChStat_STATE [n.val] 2 else s)

/-- AUTO_RECOVER (R241): a FAULTED channel with AUTO_REC has met its recovery condition over FE_TIME. -/
def execAutoRecover (t : Tai) (n : Fin 256) (s : State) : Host.Outcome State Fault Refusal :=
  let s := s.at t
  let c := s.chan n
  .next (if s.on F.lpeChStat_FAULTED [n.val] ∧ s.on F.lpeChCfg_AUTO_REC [n.val] ∧
      samplesOver (s.get F.lpeChSup_FE_TIME [n.val]) (s.get F.lpeChCfg_DIV [n.val] + 1) ≤ c.rec_ then
    (((s.lpeRestore n).setChan n { c with eff := 4, lost := false }).chanInit n c.u true).set F.lpeChStat_STATE [n.val] 4 else s)

/-- Counts a silent frame of a channel, or ends the count at a live block (R243). -/
def State.chanSilent (s : State) (n : Nat) (silent : Bool) : State :=
  let c := s.chan n
  if ¬ silent then s.setChan n { c with sil := 0, want := false }
  else
    let k := min (c.sil + 1) 255
    let due := decide (s.get F.lpeCtrl_SIL_F [] ≤ k)
    let s := s.setChan n { c with sil := k, want := c.want || due }
    if due then s.setOnSafe n true else s

/-- Whether the newest block marks an output live. -/
def State.blockLive (s : State) (key : Nat) : Bool := s.lpe.got && s.lpe.blk.any (fun b => b.live.contains key)

/-- Plant outputs and zones that a plan claims: their keys. -/
def State.silentKeys (s : State) : List Nat :=
  ((List.range 16).map (fun i => 4096 + i) ++ (List.range 16).map (fun i => 5120 + i) ++ (List.range 16).map (fun i => 6144 + i)).filter
    (fun k => s.claimed (k / 1024) (k % 1024))

/-- SILENCE_CHECK (R243): the silence of the frame, and of each channel and claimed output; the ripples in progress end with it (R210).
With the frame sequencer stopped no edge opens the next frame's wait for a block, so the check does (R30, R34). -/
def execSilenceCheck (t : Tai) (s : State) : Host.Outcome State Fault Refusal :=
  let s := s.at t
  let s := s.set F.lpeStat_SILENT [] (b2n (!s.lpe.got))
  let s := s.set F.lpeStat_SIL_CNT [] (if s.lpe.got then 0 else min (s.get F.lpeStat_SIL_CNT [] + 1) 255)
  let s := (List.range 256).foldl (fun (s : State) n => s.chanSilent n (!s.blockLive (1024 + n))) s
  let s := s.silentKeys.foldl (fun (s : State) k =>
    { s with lpe := { s.lpe with sil := Tbl.put s.lpe.sil k (if s.blockLive k then 0 else min (Tbl.at s.lpe.sil k 0 + 1) 255) } }) s
  if s.lpe.got then .next (if s.rst.stopped then { s with lpe := { s.lpe with got := false } } else s)
  else .next ((List.range 32).foldl State.rippleAbort s)

/-- ON_SAFE (R243): takes effect where the channel's silent frames have reached SIL_F. -/
def execOnSafe (t : Tai) (n : Fin 256) (s : State) : Host.Outcome State Fault Refusal :=
  let s := s.at t
  let c := s.chan n
  .next (if s.get F.lpeCtrl_SIL_F [] ≤ c.sil then (s.setChan n { c with want := true }).setOnSafe n true else s)

end Sys2Proof.Machine
end

