-- ==== Sys2Proof/Machine/Drives.lean ====
section
/-!
DEFINITION. The drive sequencer: pump and fan drives, zones and resonance bands (spec/10_drives.md R249 to R263), and what follows when
the module starts or stops asserting ACT (R262, R280, R294).
-/
namespace Sys2Proof.Machine

/-- A pump drive beside its registers. -/
def State.pump (s : State) (p : Nat) : Pump := Tbl.at s.drv.pump p {}

/-- Replaces a pump drive. -/
def State.setPump (s : State) (p : Nat) (x : Pump) : State := { s with drv := { s.drv with pump := Tbl.put s.drv.pump p x } }

/-- A fan drive beside its registers. -/
def State.fan (s : State) (f : Nat) : Fan := Tbl.at s.drv.fan f {}

/-- Replaces a fan drive. -/
def State.setFan (s : State) (f : Nat) (x : Fan) : State := { s with drv := { s.drv with fan := Tbl.put s.drv.fan f x } }

/-- A change of a drive that is journalled and, where said, raised. -/
def drvNote (idx act item obj : Nat) (safety : Bool) (raised : Option (Nat × Nat × Nat)) : Note :=
  { who := 10, idx := idx, cls := 6, act := act, item := item, obj := obj, safety := safety, raised := raised }

/-- One resonance band (R257): the command o of the previous T_S instant decides the edge at which it holds. -/
def bandStep (lo hi o c : Nat) : Nat := if lo < c ∧ c < hi then (if hi ≤ o then hi else lo) else c

/-- Both resonance bands of a drive, from its `_BAND` register. -/
def State.banded (s : State) (r : Reg) (i o c : Nat) : Nat :=
  let w := s.rd r [i]
  bandStep (bits w 32 16) (bits w 48 16) o (bandStep (bits w 0 16) (bits w 16 16) o c)

/-- A pump's command in 0.01 % and whether a band holds it, before protection and ACT (R251, R257). -/
def State.pumpRef (s : State) (p : Nat) : Nat × Bool :=
  let c := match (s.drivers 1 p).head?.bind (fun n => (s.chan n).applied) with
    | some u => toCenti u
    | none => 0
  let c' := s.banded .drvPmpBand p (s.get F.drvPmpMeas_CMD [p]) c
  (c', decide (c' ≠ c))

/-- A pump's command: protection's, else the channel's (Table 10.2). -/
def State.pumpCmd (s : State) (p : Nat) : Nat := (s.forcedPump p).getD (s.pumpRef p).1

/-- Gates off: the pump coasts. -/
def State.pumpOff (s : State) (p : Nat) : State :=
  (s.setPump p { s.pump p with phase := 0, ref := 0, integ := 0, iq := 0, lostAt := none, isense := 0 }).set F.drvPmpStat_RUN [p] 0

/-- Whether a pump may be driven: enabled, ACT asserted or an exercise running, and not stopped by a fault (Table 10.2). -/
def State.pumpMay (s : State) (p : Nat) : Bool :=
  s.on F.drvPmpCfg_EN [p] && s.driving && !s.on F.drvPmpStat_FLT_OFF [p]

/-- Begins a start (R252): by alignment, or by a flying-start measurement. -/
def State.pumpBegin (s : State) (p : Nat) (flying : Bool) : State :=
  (s.setPump p { s.pump p with phase := if flying then 3 else 1, startAt := s.now, ref := 0, integ := 0, iq := 0, tick := 0, lostAt := none }).set
    F.drvPmpStat_RUN [p] 1

/-- A pump fault (R253): the flag, FLT_OFF, gates off, journalled and raised; a restart waits where AUTO_RST grants one. -/
def State.pumpFail (s : State) (p : Nat) (flag : Fld) : State :=
  let x := s.pump p
  let again := x.faultAt.any (fun a => decide (s.now < a + 60000000000))
  let restart := s.on F.drvPmpCfg_AUTO_RST [p] && !again
  let s := ((s.set flag [p] 1).set F.drvPmpStat_FLT_OFF [p] 1).pumpOff p
  let s := s.setPump p { s.pump p with restart := restart, faultAt := if restart then some s.now else x.faultAt }
  s.note (drvNote p 0 flag.lo (Reg.off .drvPmpStat [p]) true (some (evAlarm, 1, p)))

/-- The flag of a cause (Table 10.1). -/
def causeFlag : PumpCause → Fld
  | .oc => F.drvPmpStat_OC
  | .gateFlt => F.drvPmpStat_GATE_FLT
  | .isense => F.drvPmpStat_ISENSE
  | .lockLost => F.drvPmpStat_LOCK_LOST

/-- The measurements of a PWM period (R250, Table 10.3). -/
def State.pumpMeasure (s : State) (p : Nat) (m : PwmSample) : State :=
  let ms := (m.iu * m.iu + m.iv * m.iv + m.iw * m.iw).toNat / 3
  let s := s.set F.drvPmpMeas_SPEED [p] (min m.speed 65535)
  let s := s.set F.drvPmpMeas_I_RMS [p] (min (Num.isqrt ms) 65535)
  let s := s.set F.drvPmpMeas_VBUS [p] (min m.vbus 65535)
  s.setPump p { s.pump p with meas := some s.now }

/-- The faults that a PWM period finds (Table 10.1). -/
def State.pumpChecks (s : State) (p : Nat) (m : PwmSample) : State :=
  let x := s.pump p
  let imax : Int := s.get F.drvPmpMotor_I_MAX [p]
  let ifs : Int := s.get F.drvPmpMotor_I_FS [p]
  let isOver := fun (i : Int) => decide (5 * imax < 4 * (i.natAbs : Int))
  let bad := m.rail || decide (ifs < 10 * ((m.iu + m.iv + m.iw).natAbs : Int))
  let n := if bad then x.isense + 1 else 0
  let s := s.setPump p { x with isense := n }
  if x.phase ≠ 0 ∧ (isOver m.iu ∨ isOver m.iv ∨ isOver m.iw) then s.pumpFail p F.drvPmpStat_OC
  else if x.phase ≠ 0 ∧ 10 ≤ n then s.pumpFail p F.drvPmpStat_ISENSE
  else if x.phase = 4 ∧ ¬ m.locked ∧ 500 ≤ s.pumpCmd p then
    let since := x.lostAt.getD s.now
    if since + 50000000 ≤ s.now then s.pumpFail p F.drvPmpStat_LOCK_LOST else s.setPump p { s.pump p with lostAt := some since }
  else s.setPump p { s.pump p with lostAt := none }

/-- The reference ramp, and every fourth period the speed loop (R250, R251). The ramp's target is 5 % while open loop. -/
def State.pumpControl (s : State) (p : Nat) (m : PwmSample) : State :=
  let x := s.pump p
  let step : Int := s.get F.drvPmpCfg_ACC_MAX [p] * 2 ^ 32 / (1000 * max 1 (s.get F.drvPmpCfg_F_SW [p]))
  let goal : Int := if x.phase = 2 then 5 * 2 ^ 32 else centi (s.pumpCmd p) * 65536
  let ref := if x.phase = 2 ∨ x.phase = 4 then clampI (x.ref - step) (x.ref + step) goal else x.ref
  let x := { x with ref := ref, tick := (x.tick + 1) % 4 }
  if x.phase = 4 ∧ x.tick = 0 then
    let imax : Int := centi (s.get F.drvPmpMotor_I_MAX [p])
    let e := satI 32 (rneDiv ref 65536 - centi m.speed)
    let integ := clampI (-imax) imax (x.integ + rneDiv (s.getI F.drvPmpSpi_KSI [p] * e) 65536)
    let iq := clampI (-imax) imax (integ + rneDiv (s.getI F.drvPmpSpi_KSP [p] * e) 65536)
    s.setPump p { x with integ := integ, iq := iq }
  else s.setPump p x

/-- PWM_PERIOD (R250, R251, R253): the duties come from current loops whose gains and observer the spec does not give, so they are free
values. -/
def execPwmPeriod (t : Tai) (p : Fin 4) (m : PwmSample) (s : State) : Host.Outcome State Fault Refusal :=
  let s := ((s.at t).pumpMeasure p m).pumpChecks p m
  if (s.pump p).phase = 0 then .next s
  else
    let s := s.pumpControl p m
    let d := (s.drawn : Int)
    .next (s.draw.emit (.duty p [d % 65536, d / 65536 % 65536, d / 2 ^ 32 % 65536]))

/-- PUMP_START (R252): the reference is above 0 % and the drive may run. -/
def execPumpStart (t : Tai) (p : Fin 4) (turning : Bool) (s : State) : Host.Outcome State Fault Refusal :=
  let s := s.at t
  .next (if s.pumpMay p ∧ (s.pump p).phase = 0 ∧ s.pumpCmd p ≠ 0 then s.pumpBegin p turning else s)

/-- PUMP_ALIGN_END (R252): after 100 ms. -/
def execPumpAlignEnd (t : Tai) (p : Fin 4) (s : State) : Host.Outcome State Fault Refusal :=
  let s := s.at t
  let x := s.pump p
  .next (if x.phase = 1 ∧ x.startAt + 100000000 ≤ t then s.setPump p { x with phase := 2 } else s)

/-- FLYING_START_SYNC (R252): below 3 % the pump starts by alignment; else the drive runs closed-loop from the speed found. -/
def execFlyingStartSync (t : Tai) (p : Fin 4) (speed : Nat) (s : State) : Host.Outcome State Fault Refusal :=
  let s := s.at t
  let x := s.pump p
  .next (if x.phase ≠ 3 then s
    else if speed < 300 then s.pumpBegin p false
    else s.setPump p { x with phase := 4, ref := centi speed * 65536 })

/-- OBSERVER_LOCK (R252): within 1.5 s of the start. -/
def execObserverLock (t : Tai) (p : Fin 4) (s : State) : Host.Outcome State Fault Refusal :=
  let s := s.at t
  let x := s.pump p
  .next (if x.phase = 2 ∧ t ≤ x.startAt + 1500000000 then s.setPump p { x with phase := 4, lostAt := none } else s)

/-- START_FAIL (R253). -/
def execStartFail (t : Tai) (p : Fin 4) (s : State) : Host.Outcome State Fault Refusal :=
  let s := s.at t
  let x := s.pump p
  .next (if (x.phase = 1 ∨ x.phase = 2) ∧ x.startAt + 1500000000 ≤ t then s.pumpFail p F.drvPmpStat_START_FAIL else s)

/-- PUMP_FAULT (R253). -/
def execPumpFault (t : Tai) (p : Fin 4) (cause : PumpCause) (s : State) : Host.Outcome State Fault Refusal :=
  let s := s.at t
  let lock := decide ((s.pump p).phase = 4 ∧ 500 ≤ s.pumpCmd p)
  .next (if s.on F.drvPmpCfg_EN [p.val] ∧ (cause ≠ .lockLost ∨ lock) then s.pumpFail p (causeFlag cause) else s)

/-- PUMP_AUTO_RESTART (R253): one flying start, 1 s after the fault; journalled and raised. -/
def execPumpAutoRestart (t : Tai) (p : Fin 4) (s : State) : Host.Outcome State Fault Refusal :=
  let s := s.at t
  let x := s.pump p
  if x.restart ∧ x.faultAt.any (fun a => decide (a + 1000000000 ≤ t)) ∧ s.on F.drvPmpCfg_AUTO_RST [p.val] ∧ s.on F.drvPmpCfg_EN [p.val] ∧
      s.driving ∧ s.pumpCmd p ≠ 0 then
    let s := ((s.setPump p { x with restart := false }).set F.drvPmpStat_FLT_OFF [p.val] 0).pumpBegin p true
    .next (s.note (drvNote p 1 12 (Reg.off .drvPmpStat [p.val]) false (some (evState, 0, p.val))))
  else .next s

/-- PUMP_STOP (R252): a reference of 0 % and an estimate below 3 %. -/
def execPumpStop (t : Tai) (p : Fin 4) (s : State) : Host.Outcome State Fault Refusal :=
  let s := s.at t
  .next (if s.pumpCmd p = 0 ∧ (s.pump p).phase ≠ 0 ∧ s.get F.drvPmpMeas_SPEED [p.val] < 300 then s.pumpOff p else s)

/-- The module-cooling demand for fan 7 (Table 17.4). -/
def State.auxDemand (s : State) : Nat :=
  if s.on F.prtMcStat_STATE [] then s.get F.prtMcCfg_AUX_SPD [] else s.get F.prtMcCfg_AUX_IDLE []

/-- Whether fan 7 serves the module (R261). -/
def State.isAux (s : State) (f : Nat) : Bool := decide (f = 7) && s.on F.drvCtrl_AUX7 []

/-- A fan's command and whether a band holds it, before protection (R256, R257). -/
def State.fanRef (s : State) (f : Nat) : Nat × Bool :=
  if ¬ s.on F.drvFanCfg_EN [f] then (0, false)
  else
    let c := if s.isAux f then s.auxDemand
      else (bitList (s.get F.drvFanCfg_ZONES [f]) 16).foldl (fun (m : Nat) z => max m (s.get F.drvZone_DEMAND [z])) 0
    let c := if 0 < c ∧ c < s.get F.drvFanLim_SPD_MIN [f] then s.get F.drvFanLim_SPD_MIN [f] else c
    let c := min c 10000
    let c' := s.banded .drvFanBand f (s.get F.drvFanMeas_CMD [f]) c
    (c', decide (c' ≠ c))

/-- A fan's command: protection's exactly, else its zones' (R396). -/
def State.fanCmd (s : State) (f : Nat) : Nat :=
  if s.on F.drvFanCfg_EN [f] then (s.forcedFan f).getD (s.fanRef f).1 else 0

/-- Stage off. -/
def State.fanOff (s : State) (f : Nat) : State :=
  (s.setFan f { s.fan f with phase := 0, ref := 0, lockedAt := none }).set F.drvFanStat_RUN [f] 0

/-- Starts an attempt (R258), journalled. -/
def State.fanBegin (s : State) (f : Nat) : State :=
  let s := (s.set F.drvFanStat_RETRY_WAIT [f] 0).set F.drvFanStat_RETRY_S [f] 0
  let s := (s.setFan f { s.fan f with phase := 1, startAt := s.now, ref := 0, lockedAt := none, due := false }).set F.drvFanStat_RUN [f] 1
  s.note (drvNote (4 + f) 0 8 (Reg.off .drvFanStat [f]) false none)

/-- A failed attempt (R258, R259): STALL, the stage off, the wait of min(2^k, 64) s; the third in a row sets STALL_ALM. Journalled. -/
def State.fanFail (s : State) (f : Nat) : State :=
  let k := min (s.get F.drvFanStat_FAILS [f] + 1) 255
  let w := min (2 ^ k) 64
  let s := ((s.fanOff f).set F.drvFanStat_STALL [f] 1).set F.drvFanStat_FAILS [f] k
  let s := (s.set F.drvFanStat_RETRY_WAIT [f] 1).set F.drvFanStat_RETRY_S [f] w
  let s := s.setFan f { s.fan f with waitEnd := s.now + 1000000000 * w }
  let s := s.note (drvNote (4 + f) 0 0 (Reg.off .drvFanStat [f]) true none)
  if k = 3 then
    (s.set F.drvFanStat_STALL_ALM [f] 1).note (drvNote (4 + f) 0 1 (Reg.off .drvFanStat [f]) true (some (evAlarm, 1, f)))
  else s

/-- Whether a fan may be driven now. -/
def State.fanMay (s : State) (f : Nat) : Bool := s.on F.drvFanCfg_EN [f] && s.driving && decide (s.fanCmd f ≠ 0)

/-- FAN_ATTEMPT (R258): a fan at rest with a non-zero command that does not wait. -/
def execFanAttempt (t : Tai) (f : Fin 8) (s : State) : Host.Outcome State Fault Refusal :=
  let s := s.at t
  .next (if s.fanMay f ∧ (s.fan f).phase = 0 ∧ ¬ s.on F.drvFanStat_RETRY_WAIT [f.val] then s.fanBegin f else s)

/-- FAN_ALIGN_END (R258): after 250 ms. -/
def execFanAlignEnd (t : Tai) (f : Fin 8) (s : State) : Host.Outcome State Fault Refusal :=
  let s := s.at t
  let x := s.fan f
  .next (if x.phase = 1 ∧ x.startAt + 250000000 ≤ t then s.setFan f { x with phase := 2 } else s)

/-- FAN_ATTEMPT_RESULT (R258): success within 2.0 s on lock and, while the tachometer is in use, its agreement; else a failure. -/
def execFanAttemptResult (t : Tai) (f : Fin 8) (locked tachOk : Bool) (s : State) : Host.Outcome State Fault Refusal :=
  let s := s.at t
  let x := s.fan f
  if x.phase ≠ 1 ∧ x.phase ≠ 2 then .next s
  else
    let tach := tachOk || !s.on F.drvFanCfg_TACH_EN [f.val] || s.on F.drvFanStat_TACH_LOST [f.val]
    .next (if locked ∧ tach ∧ t ≤ x.startAt + 2000000000 then s.setFan f { x with phase := 3, lockedAt := some t, ref := 10 * 2 ^ 32 }
      else s.fanFail f)

/-- FAN_STALL (R258): a running fan that stalls counts as a failed attempt. -/
def execFanStall (t : Tai) (f : Fin 8) (s : State) : Host.Outcome State Fault Refusal :=
  let s := s.at t
  .next (if (s.fan f).phase = 3 then s.fanFail f else s)

/-- FAN_OC (Table 10.15): the stage switches off and the overcurrent counts as a failure. -/
def execFanOc (t : Tai) (f : Fin 8) (s : State) : Host.Outcome State Fault Refusal :=
  let s := s.at t
  .next (if (s.fan f).phase ≠ 0 then (s.set F.drvFanStat_OC [f.val] 1).fanFail f else s)

/-- FAN_INPUT_LOW (R460): every fan stage switches off and each running fan counts a failed attempt. -/
def execFanInputLow (t : Tai) (s : State) : Host.Outcome State Fault Refusal :=
  let s := s.at t
  .next ((List.range 8).foldl (fun (s : State) f => if (s.fan f).phase ≠ 0 then s.fanFail f else s) s)

/-- RETRY_WAIT_EXPIRY (R259): the wait ends; the next attempt starts if the command is not 0. -/
def execRetryWaitExpiry (t : Tai) (f : Fin 8) (s : State) : Host.Outcome State Fault Refusal :=
  let s := s.at t
  if ¬ s.on F.drvFanStat_RETRY_WAIT [f.val] ∨ t < (s.fan f).waitEnd then .next s
  else
    let s := (s.set F.drvFanStat_RETRY_WAIT [f.val] 0).set F.drvFanStat_RETRY_S [f.val] 0
    .next (if s.fanMay f then s.fanBegin f else s)

/-- FAILS_RESET (R259): after 10 s of continuous locked running. -/
def execFailsReset (t : Tai) (f : Fin 8) (s : State) : Host.Outcome State Fault Refusal :=
  let s := s.at t
  let x := s.fan f
  .next (if x.phase = 3 ∧ x.lockedAt.any (fun a => decide (a + 10000000000 ≤ t)) then s.set F.drvFanStat_FAILS [f.val] 0 else s)

/-- TACH_LOST (R260): a locked fan whose tachometer is in use runs on sensorless. -/
def execTachLost (t : Tai) (f : Fin 8) (s : State) : Host.Outcome State Fault Refusal :=
  let s := s.at t
  .next (if (s.fan f).phase = 3 ∧ s.on F.drvFanCfg_TACH_EN [f.val] then
    (s.set F.drvFanStat_TACH_LOST [f.val] 1).set F.drvFanStat_SENSORLESS [f.val] 1 else s)

/-- A zone's plan demand and d[z] (R256). -/
def State.zone (s : State) (z : Nat) : State :=
  let safe := !s.claimed 6 z || s.outSafe 6 z
  let plan := if safe then s.get F.drvZone_SAFE [z] else toCenti (signed 32 ((s.committed 6 z).getD 0))
  let d := (s.drivers 2 z).foldl (fun (m : Nat) n => max m (((s.chan n).applied.map toCenti).getD 0)) plan
  ((s.set F.drvZone_PLAN [z] plan).set F.drvZone_DEMAND [z] d).set F.drvZone_PLAN_SAFE [z] (b2n safe)

/-- A pump at a T_S instant (R254, R257, R261, R263). -/
def State.pumpTick (s : State) (p : Nat) : State :=
  let c := s.pumpCmd p
  let s := s.set F.drvPmpStat_IN_BAND [p] (b2n ((s.forcedPump p).isNone && (s.pumpRef p).2))
  let s := s.set F.drvPmpStat_PROT [p] (b2n (s.forcedPump p).isSome)
  let s := s.set F.drvPmpStat_OFF_ACT [p] (b2n (!s.driving))
  let s := s.set F.drvPmpMeas_CMD [p] c
  if (s.pump p).phase ≠ 0 ∧ (¬ s.driving ∨ ¬ s.on F.drvPmpCfg_EN [p]) then s.pumpOff p else s

/-- What a fan measures at a T_S instant: the plant sets it and no command carries it, so it is a free value (R263). -/
def State.fanMeasure (s : State) (f : Nat) : State :=
  let x := s.drawn
  let s := s.draw
  let run := s.on F.drvFanStat_RUN [f]
  let tach := if s.on F.drvFanCfg_TACH_EN [f] then x % 65536 else 0
  let obs := x / 65536 % 65536
  let s := s.set F.drvFanMeas_TACH_SPD [f] tach
  let s := s.set F.drvFanMeas_SPEED [f] (if s.on F.drvFanStat_SENSORLESS [f] then obs else tach)
  let s := s.set F.drvFanMeas_I_RMS [f] (if run then x / 2 ^ 32 % 65536 else 0)
  s.setFan f { s.fan f with meas := some s.now, vin := x / 2 ^ 48 % 65536 }

/-- A fan at a T_S instant (R256 to R261, R263). -/
def State.fanTick (s : State) (f : Nat) : State :=
  let c := s.fanCmd f
  let x := s.fan f
  let s := s.set F.drvFanStat_IN_BAND [f] (b2n ((s.forcedFan f).isNone && (s.fanRef f).2))
  let s := s.set F.drvFanStat_PROT [f] (b2n (s.forcedFan f).isSome)
  let s := s.set F.drvFanStat_AUX [f] (b2n (s.isAux f))
  let s := s.set F.drvFanStat_OFF_ACT [f] (b2n (!s.driving))
  let s := s.set F.drvFanStat_SENSORLESS [f] (b2n (!s.on F.drvFanCfg_TACH_EN [f] || s.on F.drvFanStat_TACH_LOST [f]))
  let s := s.set F.drvFanMeas_CMD [f] c
  let s := if s.on F.drvFanStat_RETRY_WAIT [f] then s.set F.drvFanStat_RETRY_S [f] ((x.waitEnd - s.now + 999999999) / 1000000000) else s
  let step : Int := s.get F.drvFanCfg_ACC_MAX [f] * 2 ^ 32 / 64000
  let s :=
    if x.phase ≠ 0 ∧ (¬ s.driving ∨ ¬ s.on F.drvFanCfg_EN [f]) then s.fanOff f
    else if x.phase = 3 then
      let ref := clampI (x.ref - step) (x.ref + step) (centi c * 65536)
      if c = 0 ∧ ref ≤ 0 then s.fanOff f else s.setFan f { x with ref := ref }
    else if x.phase = 2 then s.setFan f { x with ref := min (10 * 2 ^ 32) (x.ref + step) }
    else if x.due ∧ s.on F.drvFanStat_RETRY_WAIT [f] ∧ s.fanMay f then s.fanBegin f
    else s
  s.fanMeasure f

/-- ZONE_RECOMPUTE (R256, R257, R261, R263): zones, fans, pumps and outputs at a T_S instant. -/
def execZoneRecompute (t : Tai) (s : State) : Host.Outcome State Fault Refusal :=
  let s := (List.range 16).foldl State.zone (s.at t)
  let s := (List.range 8).foldl State.fanTick s
  let s := (List.range 4).foldl State.pumpTick s
  .next s.refreshOutputs

/-- Entry e of snapshot class 4 (Table 10.3), as a number. -/
def State.drvUnit (s : State) (e : Nat) : Nat :=
  if e < 4 then
    let w := s.rd .drvPmpMeas [e]
    bits w 0 32 + 2 ^ 48 * bits w 32 16 + 2 ^ 64 * bits w 48 16 + 2 ^ 96 * s.rd .drvPmpStat [e] + 2 ^ 192 * (s.pump e).meas.getD 0
  else
    let w := s.rd .drvFanMeas [e - 4]
    w + 2 ^ 64 * (s.fan (e - 4)).vin + 2 ^ 96 * s.rd .drvFanStat [e - 4] + 2 ^ 192 * (s.fan (e - 4)).meas.getD 0

/-- Journals a change of ACT (R350, R418). -/
def actNote (on : Bool) : Note :=
  { who := 0x12, cls := 0xB, act := b2n (!on), item := 3, obj := Reg.off .parStat [], safety := true }

/-- The module starts to assert ACT (R262, R280, R284, R294): drives start, outputs leave high impedance, and committed CAN frames re-enter
the queues at the next commit edge. -/
def State.actRise (s : State) : State :=
  let was := s.on F.parStat_ACT []
  let s := s.set F.parStat_ACT [] 1
  let s := if was then s else s.note (actNote true)
  let s := (List.range 4).foldl (fun (s : State) p =>
    let s := s.set F.drvPmpStat_OFF_ACT [p] 0
    if s.pumpMay p ∧ (s.pump p).phase = 0 ∧ s.pumpCmd p ≠ 0 then s.pumpBegin p true else s) s
  let s := (List.range 8).foldl (fun (s : State) f =>
    let s := s.set F.drvFanStat_OFF_ACT [f] 0
    if s.fanMay f ∧ (s.fan f).phase = 0 ∧ ¬ s.on F.drvFanStat_RETRY_WAIT [f] then s.fanBegin f else s) s
  let s := if was then s else
    (List.range 4).foldl (fun (s : State) b => s.setBus b { s.bus b with reenter := true, emerg := if s.emergMask b = 0 then none else some (s.emergMask b) }) s
  s.refreshOutputs

/-- ACT falls (R270, R280, R294): drives and outputs off, pending CAN frames cancelled. -/
def State.actFall (s : State) : State :=
  let was := s.on F.parStat_ACT []
  let s := s.set F.parStat_ACT [] 0
  let s := if was then s.note (actNote false) else s
  let s := (List.range 4).foldl (fun (s : State) p => (s.pumpOff p).set F.drvPmpStat_OFF_ACT [p] 1) s
  let s := (List.range 8).foldl (fun (s : State) f => (s.fanOff f).set F.drvFanStat_OFF_ACT [f] 1) s
  let s := (List.range 4).foldl State.canCancelAll s
  s.refreshOutputs

/-- Whether the role asserts ACT (Table 15.1). -/
def State.roleActs (s : State) : Bool := decide (s.get F.parStat_ROLE [] = 1 ∨ s.get F.parStat_ROLE [] = 2)

/-- ACT_RISE (R262): in a role that asserts ACT. -/
def execActRise (t : Tai) (s : State) : Host.Outcome State Fault Refusal :=
  let s := s.at t
  .next (if s.roleActs then s.actRise else s)

/-- ACT_FALL (R280). -/
def execActFall (t : Tai) (s : State) : Host.Outcome State Fault Refusal := .next (s.at t).actFall

end Sys2Proof.Machine
end

