-- ==== Sys2Proof/Machine/Protect.lean ====
section
/-!
DEFINITION. The trip logic: comparators, responses, re-arming, and the module's own cooling (spec/17_protection.md R392 to R410).
-/
namespace Sys2Proof.Machine

/-- Whether a drive has a speed measurement: a pump's observer runs only while its gates switch; a fan has its tachometer or
observer. -/
def State.driveMeasured (s : State) (i : Nat) : Bool :=
  if i < 4 then (s.pump i).meas.isSome && s.on F.drvPmpStat_RUN [i]
  else (s.fan (i - 4)).meas.isSome && (s.on F.drvFanStat_RUN [i - 4] || !s.on F.drvFanStat_SENSORLESS [i - 4])

/-- Whether a drive shows a fault (Table 17.1, KIND 5). -/
def State.driveFault (s : State) (i : Nat) : Bool :=
  if i < 4 then s.on F.drvPmpStat_FLT_OFF [i] else s.on F.drvFanStat_STALL [i - 4] || s.on F.drvFanStat_OC [i - 4]

/-- The raw value of a comparator's source and whether it is faulted (R393, Table 17.1). `raw` is the sampled state of the digital
inputs, which the environment sets and no command carries. -/
def State.tripSource (s : State) (kind i raw : Nat) : Int × Bool :=
  match kind with
  | 1 => (signed 32 (s.pioValue i), s.pioFaulted i)
  | 2 => (signed 32 (s.pioValue (64 + i)), s.pioFaulted (64 + i))
  | 3 => (s.getI F.fbPvalVal_VALUE [i], s.pvalFaulted i)
  | 4 => (centi (if i < 4 then s.get F.drvPmpMeas_SPEED [i] else s.get F.drvFanMeas_SPEED [i - 4]), !s.driveMeasured i)
  | 5 => (65536 * b2n (s.driveFault i), false)
  | 6 => (signed 32 (s.pioValue (96 + i)), s.pioFaulted (96 + i))
  | 7 => (65536 * b2n (bitAt raw i), false)
  | _ => (0, false)

/-- A comparator's condition (R394). -/
def tripCond (inside fltAct : Bool) (lo hi v : Int) (faulted : Bool) : Bool :=
  if faulted then fltAct
  else if inside then decide (lo ≤ v ∧ v ≤ hi) else decide (v < lo ∨ hi < v)

/-- A comparator's clear condition (R394). -/
def tripClear (inside : Bool) (lo hi hys v : Int) (faulted : Bool) : Bool :=
  !faulted && (if inside then decide (v < lo - hys ∨ hi + hys < v) else decide (lo + hys ≤ v ∧ v ≤ hi - hys))

/-- Active comparators that name a response. -/
def State.namedBy (s : State) (j : Nat) : Bool :=
  (bitList (s.get F.prtStat_ACTIVE []) 32).any (fun c => decide (s.get F.prtTripCfg_RESP [c] = j))

/-- `PRT_STAT.ANY` (R402) and LATCHED: held only by the latch (Table 17.6). -/
def State.prtFlags (s : State) : State :=
  let hold := s.get F.prtStat_HOLD []
  let s := s.set F.prtStat_ANY [] (b2n (decide (hold ≠ 0 ∨ s.get F.prtMcStat_STATE [] ≠ 0)))
  let l := (bitList hold 8).filter (fun j => bitAt s.prt.latch j && !s.namedBy j && decide (Tbl.at s.prt.holdEnd j 0 ≤ s.now))
  s.set F.prtStat_LATCHED [] (l.foldl (fun (m : Nat) j => m ||| 2 ^ j) 0)

/-- An event of the trip logic, of the safety class (R402). -/
def tripNote (idx act item obj : Nat) (raised : Option (Nat × Nat × Nat)) : Note :=
  { who := 0x11, idx := idx, cls := 0xC, act := act, item := item, obj := obj, safety := true, raised := raised }

/-- EMERG of a response: queued on each enabled bus whose nodes it names, and the named objects' frames cancelled (R399). -/
def State.emergNow (s : State) : State :=
  (List.range 4).foldl (fun (s : State) b =>
    let m := s.emergMask b
    if m = 0 ∨ ¬ s.busLive b ∨ ¬ s.on F.parStat_ACT [] then s
    else
      let s := s.setBus b { s.bus b with emerg := some m }
      let x := s.bus b
      let l := x.queue ++ (match x.onBus with | some o => [o.obj] | none => [])
      l.foldl (fun (s : State) k => if k < 256 ∧ s.objHeld b k then s.canCancel b k else s) s) s

/-- A response's decision (R396 to R399): it holds, and its actions take effect. -/
def State.decide_ (s : State) (j : Nat) : State :=
  let was := bitAt (s.get F.prtStat_HOLD []) j
  let s := { s with prt := { s.prt with latch := if s.on F.prtRespCfg_LATCH [j] then s.prt.latch ||| 2 ^ j else s.prt.latch } }
  if was then s
  else
    let s := s.set F.prtStat_HOLD [] (s.get F.prtStat_HOLD [] ||| 2 ^ j)
    let s := s.note (tripNote j 0 16 (Reg.off .prtRespCfg [j]) none)
    let s := (s.protectCaps j).emergNow
    let s := (List.range 8).foldl (fun (s : State) f =>
      if bitAt (s.get F.prtRespDrv_FMASK [j]) f ∧ s.on F.drvFanStat_RETRY_WAIT [f] ∧ s.forcedFan f ≠ some 0 then
        s.setFan f { s.fan f with due := true } else s) s
    s.refreshOutputs

/-- A comparator becomes active (R394): counted, journalled, raised with the SEV of its response, which decides. -/
def State.tripActivate (s : State) (c : Nat) : State :=
  let j := s.get F.prtTripCfg_RESP [c]
  let s := (s.set F.prtTripStat_ACTIVE [c] 1).set F.prtStat_ACTIVE [] (s.get F.prtStat_ACTIVE [] ||| 2 ^ c)
  let s := (s.bump F.prtTripStat_TRIPS [c] 1).set F.prtTripStat_LAST [c] s.frame
  let s := s.note (tripNote c 0 0 (Reg.off .prtTripStat [c]) (some (evAlarm, s.get F.prtRespCfg_SEV [j], c)))
  let s := if s.on F.prtRespCfg_EN [j] then s.decide_ j else s
  s.prtFlags

/-- A comparator becomes inactive (R394); HOLD_MS runs from the last of a response's comparators (R400). -/
def State.tripDeactivate (s : State) (c : Nat) : State :=
  let j := s.get F.prtTripCfg_RESP [c]
  let s := (s.set F.prtTripStat_ACTIVE [c] 0).set F.prtStat_ACTIVE [] (setBits (s.get F.prtStat_ACTIVE []) c 1 0)
  let s := s.note (tripNote c 1 0 (Reg.off .prtTripStat [c]) none)
  let s := if s.namedBy j then s
    else { s with prt := { s.prt with holdEnd := Tbl.put s.prt.holdEnd j (s.now + 1000000 * s.get F.prtRespCfg_HOLD_MS [j]) } }
  s.prtFlags

/-- One comparator at a T_S instant: its condition, source fault and clear condition, and the change they bring (R394). -/
def State.tripEval (raw : Nat) (s : State) (c : Nat) : State :=
  if ¬ s.on F.prtTripCfg_EN [c] ∨ s.get F.prtTripCfg_KIND [c] = 0 then s
  else
    let (v, flt) := s.tripSource (s.get F.prtTripCfg_KIND [c]) (s.get F.prtTripCfg_IDX [c]) raw
    let inside := s.on F.prtTripCfg_MODE [c]
    let lo := s.getI F.prtTripLim_LO [c]
    let hi := s.getI F.prtTripLim_HI [c]
    let cond := tripCond inside (s.on F.prtTripCfg_FLT_ACT [c]) lo hi v flt
    let clr := tripClear inside lo hi (s.getI F.prtTripHys_HYS [c]) v flt
    let prev := s.on F.prtTripStat_COND [c]
    let prevClr := bitAt s.prt.clear c
    let s := (s.set F.prtTripStat_COND [c] (b2n cond)).set F.prtTripStat_SRC_FLT [c] (b2n flt)
    let since := if cond ∧ prev then some (Tbl.at s.prt.since c s.now) else none
    let s := { s with prt := { s.prt with clear := setBits s.prt.clear c 1 (b2n clr),
                                          since := match since with | some a => Tbl.put s.prt.since c a | none => Tbl.del s.prt.since c } }
    if s.on F.prtTripStat_ACTIVE [c] then (if clr ∧ prevClr then s.tripDeactivate c else s)
    else if since.any (fun a => decide (a + 1000000 * s.get F.prtTripCfg_QUAL_MS [c] ≤ s.now)) then s.tripActivate c
    else s

/-- The release of a response (R401): every action ends at this instant. -/
def State.endResponse (s : State) (j : Nat) : State :=
  let held := (List.range 4).map (fun b => (s.bus b).msg.filterMap (fun e => if s.objHeld b e.1 then some e.1 else none))
  let s := s.set F.prtStat_HOLD [] (setBits (s.get F.prtStat_HOLD []) j 1 0)
  let s := { s with prt := { s.prt with latch := setBits s.prt.latch j 1 0 } }
  let s := s.unprotectCaps j
  let s := (List.range 4).foldl (fun (s : State) b =>
    let x := s.bus b
    let m := s.emergMask b
    s.setBus b { x with emerg := if m = 0 then none else x.emerg.map (fun _ => m),
                        resend := x.resend ++ ((held.getD b []).filter (fun k => !s.objHeld b k)) }) s
  let s := s.note (tripNote j 1 16 (Reg.off .prtRespCfg [j]) none)
  s.prtFlags.refreshOutputs

/-- Whether a response is due for release (R400). -/
def State.releaseDue (s : State) (j : Nat) : Bool :=
  bitAt (s.get F.prtStat_HOLD []) j && !s.namedBy j && !bitAt s.prt.latch j && decide (Tbl.at s.prt.holdEnd j 0 ≤ s.now)

/-- The re-arms that wait, evaluated after the comparators (R400): refused while a comparator that names the response is active. -/
def State.rearmEval (s : State) : State :=
  let l := bitList s.prt.rearm 8
  let s := { s with prt := { s.prt with rearm := 0 } }
  l.foldl (fun (s : State) j =>
    if s.namedBy j then s.note (tripNote j 2 16 (Reg.off .prtCtrl []) none)
    else { s with prt := { s.prt with latch := setBits s.prt.latch j 1 0 } }) s

/-- COMPARATOR_EVAL (R394, R400): the comparators, then waiting re-arms, then releases. -/
def execComparatorEval (t : Tai) (s : State) : Host.Outcome State Fault Refusal :=
  let s := s.at t
  let raw := s.drawn
  let s := (List.range 32).foldl (State.tripEval raw) s.draw
  let s := s.rearmEval.prtFlags
  .next ((List.range 8).foldl (fun (s : State) j => if s.releaseDue j then s.endResponse j else s) s)

/-- COMPARATOR_ACTIVATION (R394, R396): takes effect where the condition has held long enough and the comparator is not yet active. -/
def execComparatorActivation (t : Tai) (c : Fin 32) (s : State) : Host.Outcome State Fault Refusal :=
  let s := s.at t
  .next (if s.on F.prtTripCfg_EN [c.val] ∧ ¬ s.on F.prtTripStat_ACTIVE [c.val] ∧
      (Tbl.find s.prt.since c).any (fun a => decide (a + 1000000 * s.get F.prtTripCfg_QUAL_MS [c.val] ≤ t)) then s.tripActivate c else s)

/-- COMPARATOR_CLEAR (R394): takes effect where the clear condition held at the last instant. -/
def execComparatorClear (t : Tai) (c : Fin 32) (s : State) : Host.Outcome State Fault Refusal :=
  let s := s.at t
  .next (if s.on F.prtTripStat_ACTIVE [c.val] ∧ bitAt s.prt.clear c then s.tripDeactivate c else s)

/-- RESPONSE_RELEASE (R400, R401). -/
def execResponseRelease (t : Tai) (j : Fin 8) (s : State) : Host.Outcome State Fault Refusal :=
  let s := (s.at t).prtFlags
  .next (if s.releaseDue j then s.endResponse j else s)

/-- Whether the entry condition of a module-cooling state holds, lowered by a margin in K (Table 17.4). -/
def State.mcCond (s : State) (k margin die inlet : Nat) : Bool :=
  match k with
  | 1 => decide (s.get F.prtMcCfg_WARN_C [] ≤ die + margin ∨ s.get F.prtMcCfg_INLET_C [] ≤ inlet + margin)
  | 2 => decide (s.get F.prtMcCfg_LOST_C [] ≤ die + margin)
  | 3 => decide (s.get F.prtMcCfg_CRIT_C [] ≤ die + margin)
  | _ => false

/-- The time a condition must hold for its state (Table 17.4). -/
def mcTime (k : Nat) : Nat :=
  match k with
  | 1 => 1000000000
  | 2 => 100000000
  | _ => 10000000

/-- Changes the module-cooling state, journalled and raised (R402, R405); below CRITICAL plans start again (R407). -/
def State.setCooling (s : State) (k : Nat) : State :=
  let old := s.get F.prtMcStat_STATE []
  if old = k then s
  else
    let s := s.set F.prtMcStat_STATE [] k
    let s := if old = 0 then s.bump F.prtMcStat_ENTRIES [] 1 else s
    let s := if k < 3 then { s with rst := { s.rst with crit := false } } else s
    (s.note { tripNote 0 (b2n (decide (k < old))) (8 + k) (Reg.off .prtMcStat []) (some (if old < k then evAlarm else evState, if old < k then min k 2 else 0, k)) with
      old := old, new := k }).prtFlags

/-- MODULE_COOLING_STATE (R405): the readings, and the states they bring. -/
def execModuleCoolingState (t : Tai) (dieC inletC : Nat) (s : State) : Host.Outcome State Fault Refusal :=
  let s := s.at t
  let s := (s.set F.prtMcStat_DIE_C [] (min dieC 255)).set F.prtMcStat_INLET [] (min inletC 255)
  let since := fun (tb : Tbl Nat) (k : Nat) (b : Bool) => if b then Tbl.put tb k (Tbl.at tb k t) else Tbl.del tb k
  let tb := [1, 2, 3].foldl (fun (tb : Tbl Nat) k =>
    since (since tb k (s.mcCond k 0 dieC inletC)) (8 + k) (!s.mcCond k 5 dieC inletC)) s.prt.mcSince
  let s := { s with prt := { s.prt with mcSince := tb } }
  let st := s.get F.prtMcStat_STATE []
  if 4 ≤ st then .next s
  else
    let up := [1, 2, 3].foldl (fun (m : Nat) k => if (Tbl.find tb k).any (fun a => decide (a + mcTime k ≤ t)) then k else m) 0
    let down := decide (st ≠ 0) && [1, 2, 3].all (fun k => decide (k < st) || (Tbl.find tb (8 + k)).any (fun a => decide (a + 10000000000 ≤ t)))
    .next (if st < up then s.setCooling up else if down then s.setCooling (st - 1) else s)

end Sys2Proof.Machine
end

