-- ==== Sys2Proof/Machine/Ladder.lean ====
section
/-!
DEFINITION. Runs that are abandoned, and the plan ladder (spec/06_plans.md R164 to R168, spec/17_protection.md R406).
-/
namespace Sys2Proof.Machine

/-- The placement of a plan by index. -/
def placeOf (p : Plan) (i : Nat) : Placement := (p.placements[i]?).getD ⟨[], 0, []⟩

/-- Plans of the set in force, which has partitions 0 to 7 (R23). -/
def State.plans (s : State) : List Plan := ((s.pln.inForce.map PlanSet.plans).getD []).filter (fun q => decide (q.partition < 8))

/-- The plan in force of a partition. -/
def State.partPlan (s : State) (p : Nat) : Option Plan := s.plans.find? (fun q => decide (q.partition = p))

/-- The plan in force of a role. -/
def State.rolePlan (s : State) (r : Role) : Option Plan := s.plans.find? (fun q => decide (q.role = r))

/-- Tussocks in service of a partition: those that its placement in force maps (R170). -/
def State.inService (s : State) (q : Plan) : List Nat := (placeOf q (s.get F.plnPart_PLACE [q.partition])).tussocks

/-- Why runs are abandoned: a missed deadline (R44), a ladder step (R168), or a reset, CRITICAL or handover (R383). -/
inductive Why where
  | miss | rung | reset
deriving DecidableEq, Repr

/-- A run is abandoned (R44): its staging, writes and transmits are dropped, the abandonment is counted by its cause and journalled
by the frame sequencer (R147). -/
def State.abandoned (s : State) (w : Why) (r : Run) : State :=
  let s := match w with
    | .miss => s
    | .rung => { s.bump F.obsPart1_RUNG_AB [r.part] 1 with rcd := { s.rcd with abRung := s.rcd.abRung ||| 2 ^ r.part } }
    | .reset => { s.bump F.obsPart1_RESET_AB [r.part] 1 with rcd := { s.rcd with abReset := s.rcd.abReset ||| 2 ^ r.part } }
  s.note { who := 0, cls := 4, act := 1, item := r.part, obj := Reg.off .obsPart1 [r.part], old := r.start, new := s.frame }

/-- Abandons the runs that a test selects. -/
def State.abandon (s : State) (w : Why) (sel : Run → Bool) : State :=
  let gone := s.runs.filter sel
  gone.foldl (fun (s : State) r => s.abandoned w r) { s with runs := s.runs.filter (fun r => !sel r) }

/-- Stops the issue of tussocks for the rest of the frame (R44). -/
def State.stopTussocks (s : State) (l : List Nat) : State :=
  l.foldl (fun (s : State) t => s.setTus t { s.tus t with stopped := true, wait := none }) s

/-- FORCED (R406): the slowest of the module-cooling rung and the RUNG of every holding response. -/
def State.forcedRung (s : State) : Nat :=
  let mc := match s.get F.prtMcStat_STATE [] with
    | 0 => 0
    | 1 => 2
    | _ => 3
  (bitList (s.get F.prtStat_HOLD []) 8).foldl (fun (m : Nat) j =>
    if s.on F.prtRespCfg_RUNG_EN [j] then max m (s.get F.prtRespCfg_RUNG [j]) else m) mc

/-- Largest number of misses of one counted partition in the window that ends before frame n (R166). -/
def State.missWindow (s : State) (n : Nat) : Nat :=
  let lo := max (n - 2 ^ s.get F.plnLadderCfg_DN_WLOG []) s.lad.last
  s.lad.misses.foldl (fun (m : Nat) (e : Nat × List Nat) =>
    max m (e.2.filter (fun f => decide (lo ≤ f ∧ f < n))).length) 0

/-- Counts a miss of a partition for the ladder (R165); the learning partition and a standby's shadow are not counted (R168). -/
def State.ladderMiss (s : State) (q : Plan) : State :=
  if q.role = .learning ∨ s.standby then s
  else
    let n := s.frame
    let l := (Tbl.at s.lad.misses q.partition []).filter (fun f => decide (n < f + 32768))
    let s := { s with lad := { s.lad with misses := Tbl.put s.lad.misses q.partition (n :: l), missed := true } }
    s.set F.plnLadderStat_MISSWIN [] (min 15 (s.missWindow (n + 1)))

/-- A step to another rung at an edge (R166 to R168): counts restart, probation runs after a step up, runs in flight are abandoned. -/
def State.ladderStep (s : State) (rung : Nat) (up : Bool) : State :=
  let old := s.get F.plnLadderStat_RUNG []
  let s := s.set F.plnLadderStat_RUNG [] rung
  let s := ((s.set F.plnLadderStat_LAST_STEP [] s.frame).set F.plnLadderStat_PROBATION [] (b2n up)).set F.plnLadderStat_MISSWIN [] 0
  let s := { s with lad := { s.lad with misses := [], missed := false, last := s.frame }, rcd := { s.rcd with stepped := true } }
  let n := s.frame
  let s := s.abandon .rung (fun r => decide (r.start < n))
  s.note { who := 0, cls := 4, item := rung, obj := Reg.off .plnLadderStat [], old := old, new := rung }

/-- A standby's rung (R168, R358): that of the shadow run, or a slower one that its own protection forces. -/
def State.shadowRung (s : State) (rung : Nat) : State :=
  let r := max rung (s.get F.plnLadderStat_FORCED [])
  if r = s.get F.plnLadderStat_RUNG [] then s
  else
    let n := s.frame
    { (s.set F.plnLadderStat_RUNG [] r) with runs := s.runs.filter (fun q => decide (n ≤ q.start)) }

/-- The step down of R166 that falls due at an edge: the rung it goes to, and whether U doubles. -/
def State.stepDown (s : State) : Option (Nat × Bool) :=
  let rung := s.get F.plnLadderStat_RUNG []
  let prob := s.on F.plnLadderStat_PROBATION [] && s.lad.missed
  let one := prob || decide (s.get F.plnLadderCfg_DN_M [] ≤ s.missWindow s.frame)
  let goal := min 3 (max (if one then rung + 1 else rung) (max (s.get F.plnLadderCfg_CEIL []) (s.get F.plnLadderStat_FORCED [])))
  if rung < goal then some (goal, prob) else none

/-- Whether a step up may be made at an edge (R167). -/
def State.stepUpMay (s : State) (epochEdge : Bool) : Bool :=
  let rung := s.get F.plnLadderStat_RUNG []
  epochEdge && !s.lad.blocked && decide (s.get F.plnLadderCfg_CEIL [] < rung) && decide (s.get F.plnLadderStat_FORCED [] < rung) &&
  !s.on F.plnLadderCfg_UP_INH [] && !s.lad.missed && decide (s.lad.last + 2 ^ s.get F.plnLadderStat_UP_CUR_LOG [] ≤ s.frame) &&
  !s.on F.prtStat_ANY []

/-- UP_LOG written before this edge acts (R167): U follows U0 where it equals the former U0, and is never below U0. -/
def State.ladderU (s : State) : State :=
  match s.lad.up0 with
  | none => s
  | some u =>
    let up := s.get F.plnLadderCfg_UP_LOG []
    let cur := s.get F.plnLadderStat_UP_CUR_LOG []
    let s := { s with lad := { s.lad with up0 := none } }
    s.set F.plnLadderStat_UP_CUR_LOG [] (if cur = u then up else max cur up)

/-- The ladder at a frame edge (Table 2.4, step 4; R166, R167). On a standby MISSWIN and UP_CUR_LOG are those of the active's images
(R168). -/
def State.ladderEdge (s : State) (epochEdge : Bool) : State :=
  let s := s.set F.plnLadderStat_FORCED [] s.forcedRung
  if s.standby then { s with lad := { s.lad with up0 := none } }.shadowRung (s.get F.plnLadderStat_RUNG [])
  else
    let s := s.ladderU
    let s := s.set F.plnLadderStat_MISSWIN [] (min 15 (s.missWindow s.frame))
    match s.stepDown with
    | some (goal, prob) =>
      let s := if prob then s.set F.plnLadderStat_UP_CUR_LOG [] (min 16 (s.get F.plnLadderStat_UP_CUR_LOG [] + 1)) else s
      s.ladderStep goal false
    | none =>
      let s := if s.on F.plnLadderStat_PROBATION [] ∧ s.lad.last + 2 ^ s.get F.plnLadderCfg_PROB_LOG [] ≤ s.frame then
          (s.set F.plnLadderStat_PROBATION [] 0).set F.plnLadderStat_UP_CUR_LOG [] (s.get F.plnLadderCfg_UP_LOG [])
        else s
      if s.stepUpMay epochEdge then s.ladderStep (s.get F.plnLadderStat_RUNG [] - 1) true else s

/-- Whether a partition has no variant for the rung in force and is suspended (R164). -/
def State.suspended (s : State) (q : Plan) : Bool :=
  !bitAt (placeOf q (s.get F.plnPart_PLACE [q.partition])).rungs (s.get F.plnLadderStat_RUNG [])

end Sys2Proof.Machine
end

