-- ==== Sys2Proof/Machine/SetImage.lean ====
section
/-!
DEFINITION. The bytes of a plan set image in the staging window (spec/06_plans.md R151 to R153, Tables 6.1 and 6.2): header, directory, plan
headers and signature block. What the spec lays out in bytes is read from HBM; the contents of the sections and of the row section, whose
bytes it does not lay out, come with the command (notes/assumptions/135.md).
-/
namespace Sys2Proof.Machine

/-- Where a bank of the staging window starts (R157). -/
def stageBase (bank : Nat) : Nat := if bank = 0 then 0x2A00000000 else 0x2C00000000

/-- Largest image (R151). -/
def imageMax : Nat := 2 ^ 33

/-- Roles as Table 6.2 codes them. -/
def roleOf (x : Nat) : Option Role :=
  match x with
  | 0 => some .control
  | 1 => some .sensorFusion
  | 2 => some .learning
  | 3 => some .domain
  | 4 => some .auxiliary
  | _ => none

/-- A plan's header (Table 6.2) over its sections. -/
def planHead (m : Mem) (a : Nat) (p : Plan) : Plan :=
  { p with
    planId := Mem.num m a 8, role := (roleOf (Mem.num m (a + 8) 1)).getD p.role, partition := Mem.num m (a + 9) 1,
    cadenceJ := Mem.num m (a + 0xA) 1, phase := Mem.num m (a + 0xB) 1, depth := Mem.num m (a + 0xC) 1, rungs := Mem.num m (a + 0xD) 1,
    placements := p.placements.take (Mem.num m (a + 0xE) 1), infMode := bitAt (Mem.num m (a + 0xF) 1) 0, hummocks := Mem.num m (a + 0x10) 4,
    completion := Mem.num m (a + 0x14) 2 }

/-- Whether a plan image of `len` bytes at an address has a role and placements in range, its reserved fields 0 and its sections inside it
(R153, check 0x02). -/
def planHeadOk (m : Mem) (a len : Nat) (p : Plan) : Bool :=
  let n := Mem.num m (a + 0xE) 1
  decide (0x98 ≤ len) && (roleOf (Mem.num m (a + 8) 1)).isSome && decide (1 ≤ n ∧ n ≤ 4 ∧ n ≤ p.placements.length) &&
  decide (Mem.num m (a + 0xF) 1 < 2 ∧ Mem.num m (a + 0x16) 2 = 0) &&
  (List.range 8).all (fun i => decide (Mem.num m (a + 0x18 + 16 * i) 8 + Mem.num m (a + 0x20 + 16 * i) 8 ≤ len))

/-- Entry i of the directory of an image: offset and length (Table 6.1). -/
def dirEntry (m : Mem) (base i : Nat) : Nat × Nat := (Mem.num m (base + 0x70 + 16 * i) 8, Mem.num m (base + 0x78 + 16 * i) 8)

/-- Whether a header's reserved field, unused directory entries, counts and directory are as Table 6.1 has them; `end_` is where the
signature block starts. -/
def headOk (m : Mem) (base end_ : Nat) : Bool :=
  let n := Mem.num m (base + 0x1A) 1
  let rows := Mem.num m (base + 0x1B) 1
  decide (n ≤ 8 ∧ rows ≤ 1 ∧ (n = 0 → rows = 1) ∧ Mem.num m (base + 0x1C) 4 = 0) &&
  (List.range 9).all (fun i =>
    let e := dirEntry m base i
    if i < n ∨ (i = 8 ∧ rows = 1) then decide (e.1 + e.2 ≤ end_) else decide (e = (0, 0)))

/-- Whether the key of an identity asks for a co-signature (R427, R428). -/
def State.keyCosigned (s : State) (id : Nat) : Bool := s.nv.keys.any (fun e => decide (e.2.keyId = id) && e.2.req)

/-- Length of the signature block of an image of `size` bytes (R152): key identity, RSA-4096 signature, and the ML-DSA-87 co-signature where
the key that stands at the longer block's start requires it. -/
def State.sigLen (s : State) (base size : Nat) : Nat :=
  if 5143 ≤ size ∧ s.keyCosigned (Mem.num s.hbm (base + (size - 5143)) 4) then 5143 else 516

/-- What the digest covers: every byte before the signature block, with the DIGEST field taken as zero (R152). -/
def digestInput (m : Mem) (base n : Nat) : List Byte :=
  (Mem.bytes m base 0x30 ++ List.replicate 64 0 ++ Mem.bytes m (base + 0x70) (n - 0x70)).take n

/-- The plan set in a bank of the staging window; `img` brings the contents of its sections, `clean` whether their reserved fields are 0. -/
def State.imageRead (s : State) (bank : Nat) (img : SetContents) (clean : Bool) : PlanSet :=
  let m := s.hbm
  let b := stageBase bank
  let size := Mem.num m (b + 0x28) 8
  let sig := s.sigLen b size
  let end_ := size - sig
  let digest := Mem.num m (b + 0x30) 64
  let n := Mem.num m (b + 0x1A) 1
  let entries := (List.range n).map (fun i => (dirEntry m b i, img.plans.getD i Plan.blank))
  { digestOk := decide (516 ≤ size) && decide (Config.sha512 (digestInput m b end_) = BitVec.ofNat 512 digest),
    fieldsOk := clean && headOk m b end_ && entries.all (fun e => planHeadOk m (b + e.1.1) e.1.2 e.2),
    cosignature := if sig = 5143 then some (Mem.num m (b + end_ + 516) 4627) else none,
    format := Mem.num m b 8, setId := Mem.num m (b + 8) 8, predId := Mem.num m (b + 0x10) 8, periodK := Mem.num m (b + 0x18) 1,
    epochMMin := Mem.num m (b + 0x19) 1, tool := Mem.num m (b + 0x20) 8, size := size,
    row := if Mem.num m (b + 0x1B) 1 = 1 then some (img.row.getD ⟨[], []⟩) else none,
    plans := entries.map (fun e => planHead m (b + e.1.1) e.2),
    keyId := Mem.num m (b + end_) 4, digest := digest, signature := Mem.num m (b + end_ + 4) 512 }

end Sys2Proof.Machine
end

