-- ==== Sys2Proof/Machine/Checker.lean ====
section
/-!
DEFINITION. The plan checker (spec/06_plans.md R151 to R156, R160, R172): the checks of Table 6.5 of a plan set image; those of its tracks
are those of `Resource.lean`.
-/
namespace Sys2Proof.Machine

/-- Where a check fails: its code, the plan's directory entry (8 the row section), tussock and position. -/
structure Finding where
  code : Nat
  plan : Nat := 0
  tussock : Nat := 0xFFFF
  pos : Nat := 0
deriving DecidableEq, Repr

/-- A change of Table 2.3 accepted at `a` is eligible at the edge `te` that ends a frame of length `tF` (R53). -/
def eligible (a te tF : Nat) : Bool := decide (a * 16 + tF < te * 16)

/-- TAI time of the next epoch edge. -/
def State.nextEpoch (s : State) : Nat :=
  let step := s.eLen * s.tF
  s.fab.tai0 + ((s.get F.frmNextEpoch_NEXT [] - s.frame) * s.tF + (if s.get F.frmNextEpoch_NEXT [] ≤ s.frame then step else 0))

/-- Whether a pending change may no longer be withdrawn (R53): slot 60 of the last frame before its edge has opened. -/
def State.pastPoint (s : State) (a : Nat) : Bool :=
  eligible a s.nextEpoch s.tF && decide (s.nextEpoch * 16 ≤ s.now * 16 + s.tF)

/-- The least multiple of `m` from `a` on. -/
def ceilTo (a m : Nat) : Nat := if m = 0 then a else (a + m - 1) / m * m

/-- Frame period and epoch length exponents in force at the epoch edge that opens an epoch (R50, R51, R160). -/
def State.valuesAt (s : State) (target : Nat) : Nat × Nat :=
  let k := s.get F.frmStat_PERIOD_K []
  let m := s.get F.frmStat_EPOCH_M []
  let te := s.nextEpoch
  let ef := s.eLen * s.tF
  let first := fun a => if eligible a te s.tF then te else te + ef
  let by_ := fun (a step : Nat) => decide (s.get F.frmEpoch_EPOCH [] + 1 + (ceilTo (first a) (max ef step) - te) / ef ≤ target)
  match s.pln.period, s.pln.epochLen with
  | none, none => (k, m)
  | none, some (m', b) => if by_ b (2 ^ m' * s.tF) then (k, m') else (k, m)
  | some (k', a), none => if by_ a (2 ^ m * periodNs k') then (k', m) else (k, m)
  | some (k', a), some (m', b) => if by_ (max a b) (2 ^ m' * periodNs k') then (k', m') else (k, m)

/-- Whether two ranges (first, count) meet. -/
def meets (a b : Nat × Nat) : Bool := decide (0 < a.2 ∧ 0 < b.2 ∧ a.1 < b.1 + b.2 ∧ b.1 < a.1 + a.2)

/-- Whether two lists of ranges meet. -/
def rangesMeet (a b : List (Nat × Nat)) : Bool := a.any (fun x => b.any (meets x))

/-- Whether the ranges (kind, first, count) of two plans meet within a kind. -/
def claimsMeet (a b : List (Nat × Nat × Nat)) : Bool := a.any (fun x => b.any (fun y => decide (x.1 = y.1) && meets x.2 y.2))

/-- Bytes from the base of a window on: every position of a RING window (R213). -/
def spanOf (w : Window) : Nat := match w.ring with | some m => 2 ^ m * w.len | none => w.len

/-- What a plan may write: its write windows and both banks of its carried-state regions (R45, R79). -/
def writeRanges (p : Plan) : List (Nat × Nat) :=
  (p.windows.filter Window.write).map (fun w => (w.base, spanOf w)) ++ p.carried.flatMap (fun c => [(c.bank0, c.len), (c.bank1, c.len)])

/-- Claims that stay exclusive towards an outgoing run in flight (R155): sluices, write windows, domain ports. -/
def overlapClaims (a b : Plan) : Bool :=
  rangesMeet (a.sluices.map (fun x => (x.1, x.2.1))) (b.sluices.map (fun x => (x.1, x.2.1))) ||
  rangesMeet (writeRanges a) (writeRanges b) || decide (a.ports &&& b.ports ≠ 0)

/-- Exclusive claims of two plans of one set (Table 6.3). -/
def exclusiveMeet (a b : Plan) : Bool :=
  decide (a.hummocks &&& b.hummocks ≠ 0) || overlapClaims a b || claimsMeet a.outputs b.outputs || claimsMeet a.canObjs b.canObjs

/-- Pairs of different entries of a list. -/
def pairs {α : Type} : List α → List (α × α)
  | [] => []
  | a :: r => r.map (fun b => (a, b)) ++ pairs r

/-- Signature block (check 0x01): the key's slot, its PLAN class, both signatures and the digest (R152, R427). -/
def State.sigOk (s : State) (img : PlanSet) : Bool :=
  match s.nv.keys.find? (fun e => decide (e.2.keyId = img.keyId)) with
  | none => false
  | some (_, k) =>
    bitAt k.classes 3 && img.digestOk && Config.rsaVerify k.modulus (BitVec.ofNat 512 img.digest) img.signature &&
    (!k.req || img.cosignature.any (fun c => Config.mldsaVerify k.mldsa (BitVec.ofNat 512 img.digest) c))

/-- A plan's header fields (check 0x02, Table 6.2). -/
def planFormatOk (p : Plan) : Bool :=
  decide (p.partition < 8 ∧ p.cadenceJ ≤ 8 ∧ p.phase < 2 ^ p.cadenceJ ∧ p.depth ≤ 15 ∧ 0 < p.rungs ∧ p.rungs < 16 ∧
    1 ≤ p.placements.length ∧ p.placements.length ≤ 4 ∧ p.hummocks < 2 ^ 32 ∧ p.completion < 8192)

/-- Header fields of the set (check 0x02, Table 6.1, R151). -/
def formatOk (img : PlanSet) : Bool :=
  img.fieldsOk && decide (img.format = 0x4B500001 ∧ img.setId ≠ 0 ∧ img.size ≤ 2 ^ 33 ∧ img.plans.length ≤ 8 ∧ img.periodK ≤ 6 ∧
    img.epochMMin ≤ 12) && (!img.plans.isEmpty || img.row.isSome)

/-- Period, epoch length and cadence (check 0x03). -/
def periodOk (img : PlanSet) (km : Nat × Nat) : Bool :=
  decide (img.periodK = km.1 ∧ img.epochMMin ≤ km.2) && img.plans.all (fun p => decide (p.cadenceJ ≤ km.2))

/-- Where sequencer windows begin: trace, staging and journal (R435, R157, R27). -/
def sequencerBase : Nat := 0x29C0000000

/-- Whether a range lies in a plan's HBM claim (R79). -/
def inClaim (p : Plan) (base len : Nat) : Bool := p.hbm.any (fun c => decide (c.1 ≤ base ∧ base + len ≤ c.1 + c.2))

/-- Whether a range of whole granules lies in a plan's HBM claim. -/
def granules (p : Plan) (base len : Nat) : Bool := decide (base % 4096 = 0 ∧ len % 4096 = 0) && inClaim p base len

/-- The RING mark (R213, R214): a write window holds records of the sensor-fusion plan; a read window is an elastic one of the learning plan
and advances by an odd STEP. -/
def ringOk (p : Plan) (w : Window) : Bool :=
  match w.ring with
  | none => true
  | some m =>
    decide (8 ≤ m ∧ m ≤ 18 ∧ 2 ^ m * w.len ≤ 2 ^ 37) && [0, 1, 2, 3].any (fun q => decide (w.len = 2 ^ (19 + q))) &&
    (!w.write || decide (p.role = .sensorFusion)) && (!w.read || w.write || (decide (p.role = .learning ∧ w.kind = 3 ∧ w.step % 2 = 1)))

/-- KIND of the promotion region that a role may declare (R216, Table 8.9). -/
def promoKindOf (r : Role) : Nat :=
  match r with
  | .control => 1
  | .sensorFusion => 2
  | _ => 0

/-- A plan's promotion regions (R197, R216): at most one, of its role's KIND, with two equal banks inside its HBM claim. -/
def promosOk (p : Plan) : Bool :=
  decide (p.promos.length ≤ 1) && p.promos.all (fun e =>
    decide (e.kind = promoKindOf p.role ∧ e.kind ≠ 0) && granules p e.bankA e.len && granules p e.bankB e.len && !meets (e.bankA, e.len) (e.bankB, e.len) &&
    (if e.kind = 1 then decide (e.len ≤ 2 ^ 33) else decide (e.len = 2 ^ 19)))

/-- A plan's carried-state regions: two banks of whole granules inside its HBM claim (R45, R79). -/
def carriedOk (p : Plan) : Bool :=
  p.carried.all (fun c => granules p c.bank0 c.len && granules p c.bank1 c.len && !meets (c.bank0, c.len) (c.bank1, c.len))

/-- A plan's claims within the module's counts and its own claim (check 0x04; R79, R134, R216, Table 6.3). -/
def claimOk (p : Plan) : Bool :=
  p.sluices.all (fun x => decide (x.1 + x.2.1 ≤ 8192) && bitAt p.hummocks x.2.2) &&
  p.sluices.any (fun x => decide (x.1 ≤ p.completion ∧ p.completion < x.1 + x.2.1)) &&
  p.streams.all (fun x => decide (x.1 + x.2 ≤ 65536)) &&
  p.hbm.all (fun x => decide (x.1 % 4096 = 0 ∧ x.2 % 4096 = 0 ∧ x.1 + x.2 ≤ sequencerBase)) &&
  p.windows.all (fun w => granules p w.base (spanOf w) && decide (w.len % 4096 = 0) && ringOk p w) && carriedOk p && promosOk p &&
  p.initData.all (fun d => inClaim p d.1 d.2.length) &&
  p.outputs.all (fun o => decide (o.2.1 + o.2.2 ≤ classOutputs o.1)) &&
  p.canObjs.all (fun o => decide (o.1 < 4 ∧ o.2.1 + o.2.2 ≤ 256)) && decide (p.ports < 16)

/-- The learning plan's write windows on a promotion region are elastic (R216), and only it holds elastic windows (R80). -/
def elasticOk (img : PlanSet) (p : Plan) : Bool :=
  p.windows.all (fun w =>
    if w.kind = 3 then decide (p.role = .learning)
    else !(decide (p.role = .learning) && w.write && img.plans.any (fun q => q.promo.any (fun e =>
      meets (w.base, spanOf w) (e.bankA, e.len) || meets (w.base, spanOf w) (e.bankB, e.len)))))

/-- No analog output or CAN object bound to a channel that is not in OFF is claimed (R225). -/
def State.channelClaimOk (s : State) (p : Plan) : Bool :=
  (List.range 256).all (fun n =>
    let i := s.get F.lpeChCfg_ACT_IDX [n]
    decide (s.get F.lpeChCfg_MODE [n] = 0) ||
    (match s.get F.lpeChCfg_ACT_KIND [n] with
     | 3 => !planClaims p 4 i
     | 4 => !planClaimsObj p (i / 256) (i % 256)
     | _ => true))

/-- Bytes of the state copy of one frame, at most: the streams and companion entries that the set can ingest and the carried
state, outputs and header of an image (R355). -/
def copyBytes (img : PlanSet) : Nat :=
  64 * sumOf (fun (p : Plan) => sumOf Prod.snd p.streams) img.plans + 64 * 1422 + sumOf (fun (p : Plan) => sumOf Carried.len p.carried) img.plans +
  89088

/-- Whether a set's packages, racks and throttle pairs lie within the module's counts (R2, R176, check 0x04). -/
def rowCounts (r : RowSection) : Bool :=
  r.pkgs.all (fun p => decide (p.1 < 640 ∧ p.2.1 < 32)) && r.racks.all (fun k => decide (k.1 < 32 ∧ k.2 < 32))

/-- Whether an incoming plan's claims meet an outgoing run still in flight (R155, R161). -/
def overlapBad (old : PlanSet) (p : Plan) : Bool :=
  old.plans.any (fun o => decide (0 < o.depth ∧ o.hummocks &&& p.hummocks = 0) && overlapClaims o p)

/-- Check 0x04 CLAIM. -/
def State.claimFinding (s : State) (img : PlanSet) : Option Finding :=
  let each := (List.zipIdx img.plans).find? (fun e =>
    !(claimOk e.1 && elasticOk img e.1 && s.channelClaimOk e.1) ||
    (s.pln.inForce.any (fun o => decide (o.setId = img.predId) && overlapBad o e.1)))
  match each with
  | some e => some { code := 4, plan := e.2 }
  | none =>
    if (pairs img.plans).any (fun e => exclusiveMeet e.1 e.2) ∨ 96 * 2 ^ 20 * 2 ^ img.periodK < 8 * copyBytes img then some { code := 4 }
    else if img.row.any (fun r => !rowCounts r) then some { code := 4, plan := 8 }
    else none

/-- Output classes that a role may claim (Table 1.3). -/
def roleClasses (r : Role) : List Nat :=
  match r with
  | .control => [0, 1, 4, 5, 6]
  | .sensorFusion => [2, 3]
  | _ => []

/-- The domain operations of a plan without the domain role: tussock and position of the first (R149). -/
def domainOp (p : Plan) : Option (Nat × Nat) :=
  if p.role = .domain then none
  else p.tracks.findSome? (fun t => (t.bundles.zipIdx.find? (fun e => hasX 0xAD e.1 || hasX 0xAE e.1)).map (fun e => (t.tussock, e.2)))

/-- Check 0x05 ROLE (R23, R25, R149). -/
def State.roleFinding (s : State) (img : PlanSet) : Option Finding :=
  let count := fun (r : Role) => (img.plans.filter (fun p => decide (p.role = r))).length
  let caps := img.plans.any (fun p => p.outputs.any (fun o => decide (o.1 = 0 ∧ 0 < o.2.2)))
  let dup := (pairs img.plans).any (fun e => decide (e.1.partition = e.2.partition))
  let bad := (List.zipIdx img.plans).find? (fun e =>
    decide (e.1.hummocks = 0) || e.1.outputs.any (fun o => !(roleClasses e.1.role).contains o.1) ||
    (decide (e.1.role ≠ .control) && !e.1.canObjs.isEmpty) || decide (e.1.role ≠ .domain ∧ e.1.ports ≠ 0) ||
    decide (e.1.role = .domain ∧ s.get F.parDomStat_STATE [] ≠ 2))
  match bad with
  | some e => some { code := 5, plan := e.2 }
  | none =>
    if 1 < count .control ∨ 1 < count .sensorFusion ∨ 1 < count .learning ∨ 1 < count .domain ∨ dup ∨ (caps ∧ count .control ≠ 1) then
      some { code := 5 }
    else (List.zipIdx img.plans).findSome? (fun e => (domainOp e.1).map (fun d => { code := 5, plan := e.2, tussock := d.1, pos := d.2 }))

/-- Tussocks for which a plan brings images, in order. -/
def storeTussocks (p : Plan) : List Nat := (p.tracks.map TrackImage.tussock ++ p.consts.map ConstImage.tussock).eraseDups

/-- Check 0x06 STORE (R95): the tracks of every variant and placement of a tussock together, and its constant images, fit its stores. -/
def storeFinding (img : PlanSet) : Option Finding :=
  (List.zipIdx img.plans).findSome? (fun e =>
    ((storeTussocks e.1).find? (fun t =>
      decide (16384 < sumOf (fun (k : TrackImage) => if k.tussock = t then k.bundles.length else 0) e.1.tracks) ||
      e.1.consts.any (fun k => decide (k.tussock = t ∧ 65536 < k.offset + k.bytes.length)))).map
        (fun t => { code := 6, plan := e.2, tussock := t }))

/-- A plan reads an exchange window of another. -/
def readsExchange (reader writer : Plan) : Bool :=
  writer.windows.any (fun w => decide (w.kind = 2) && w.write && reader.windows.any (fun r => r.read && meets (r.base, r.len) (w.base, w.len)))

/-- Check 0x0A RUNG (R164). -/
def rungFinding (img : PlanSet) : Option Finding :=
  (List.zipIdx img.plans).findSome? (fun e =>
    let p := e.1
    let four := decide (p.role = .control ∨ p.role = .sensorFusion ∨ p.role = .domain)
    let ok := p.placements.all (fun q => decide (q.rungs ≠ 0 ∧ q.rungs &&& p.rungs = q.rungs)) &&
      (bitList p.rungs 4).all (fun r => p.devBound.any (fun d => decide (d.1 = r ∧ d.2.length = 7))) &&
      (!four || (decide ((placeOf p 0).rungs = 15) && p.placements.all (fun q => bitAt q.rungs 3))) &&
      (decide (p.role ≠ .auxiliary) || img.plans.all (fun q => !readsExchange q p || decide (q.rungs &&& p.rungs = q.rungs)))
    if ok then none else some { code := 0xA, plan := e.2 })

/-- Logical tussocks of a mask of hummocks. -/
def tussocksOf (hum : Nat) : List Nat := (bitList hum 32).flatMap (fun h => (List.range 8).map (fun i => 8 * h + i))

/-- Check 0x0B PLACE (R169). -/
def placeFinding (img : PlanSet) : Option Finding :=
  (List.zipIdx img.plans).findSome? (fun e =>
    let p := e.1
    let all := tussocksOf p.hummocks
    let ok := p.placements.all (fun q => q.tussocks.all all.contains && decide (q.tussocks.eraseDups.length = q.tussocks.length) &&
        decide (q.routes.length = q.map.length)) &&
      all.all (placeOf p 0).tussocks.contains
    if ok then none else some { code := 0xB, plan := e.2 })

/-- Carried-state regions of a set in order. -/
def carriedOf (l : List Plan) : List Carried := l.flatMap Plan.carried

/-- Check 0x0C CARRY (R153): inherit entries match the predecessor. A set has one list of regions for all rungs and placements, so their
layout hashes are the same (notes/assumptions/135.md). -/
def State.carryFinding (s : State) (img : PlanSet) : Option Finding :=
  let pred := carriedOf s.plans
  (List.zipIdx img.plans).findSome? (fun e =>
    if e.1.carried.all (fun c => match c.inherit_ with
      | none => true
      | some i => (pred[i]?).any (fun q => decide (q.layout = c.layout ∧ q.len = c.len))) then none
    else some { code := 0xC, plan := e.2 })

/-- SET_ID in force, 0 when none. -/
def State.setId (s : State) : Nat := (s.pln.inForce.map PlanSet.setId).getD 0

/-- Check 0x0D PRED (R159). -/
def State.predOk (s : State) (img : PlanSet) : Bool := decide (img.predId = 0 ∨ img.predId = s.setId)

/-- Check 0x0E ROW (R172), against the control plan that will be in force. -/
def State.rowOk (s : State) (img : PlanSet) : Bool :=
  match img.row with
  | none => true
  | some r =>
    let ctl := if img.plans.isEmpty then s.rolePlan .control else img.plans.find? (fun p => decide (p.role = .control))
    r.pkgs.all (fun p => decide (p.2.2.2 < 64) && r.racks.any (fun k => decide (k.1 = p.2.1)) &&
      ctl.any (fun c => planClaims c 0 p.1 && c.streams.any (fun x => decide (x.1 ≤ p.2.2.1 ∧ p.2.2.1 < x.1 + x.2)))) &&
    (pairs r.racks).all (fun e => decide (e.1.2 ≠ e.2.2 ∧ e.1.1 ≠ e.2.1)) && (pairs r.pkgs).all (fun e => decide (e.1.1 ≠ e.2.1))

/-- What the set in force holds of HBM: its windows, every position of a RING window, its carried-state and promotion banks. -/
def heldRanges (l : List Plan) : List (Nat × Nat) :=
  l.flatMap (fun p => p.windows.map (fun w => (w.base, spanOf w)) ++ p.carried.flatMap (fun c => [(c.bank0, c.len), (c.bank1, c.len)]) ++
    p.promos.flatMap (fun e => [(e.bankA, e.len), (e.bankB, e.len)]))

/-- Whether a range of HBM meets a window of the set in force (R158, R159). -/
def State.inUse (s : State) (r : Nat × Nat) : Bool := (heldRanges s.plans).any (meets r)

/-- The window of a plan that an INIT chunk belongs to: the window or carried-state bank that holds its start, else the chunk itself. -/
def initWindow (p : Plan) (d : Nat × List Byte) : Nat × Nat :=
  let l := p.windows.map (fun w => (w.base, spanOf w)) ++ p.carried.map (fun c => (c.bank0, c.len))
  (l.find? (fun r => decide (r.1 ≤ d.1 ∧ d.1 < r.1 + r.2))).getD (d.1, d.2.length)

/-- Check 0x0F INIT (R159): at most 64 MB of contents for windows in use. -/
def State.initOk (s : State) (img : PlanSet) : Bool :=
  decide (sumOf (fun (p : Plan) => sumOf (fun (d : Nat × List Byte) => if s.inUse (initWindow p d) then d.2.length else 0) p.initData) img.plans ≤ 2 ^ 26)

/-- The checks made again at arming and at the swap edge (R160): PERIOD, PRED, INIT, in the order of their codes. -/
def State.edgeFinding (s : State) (img : PlanSet) (km : Nat × Nat) : Nat :=
  if ¬ periodOk img km then 3 else if ¬ s.predOk img then 0xD else if ¬ s.initOk img then 0xF else 0

/-- Checks 0x07 to 0x09 of an image (R156): the overlap frames are counted with the outgoing set that PRED_ID names. -/
def State.trackFinding (s : State) (img : PlanSet) : Option Finding :=
  let out := match s.pln.inForce with
    | some o => if o.setId = img.predId then o.plans else []
    | none => []
  (tracksFinding img.periodK s.transmits img.plans out).map (fun f => { code := f.2.1, plan := f.1, tussock := f.2.2.1, pos := f.2.2.2 })

/-- The first finding of Table 6.5 at staging, if any (R156). An image above 8 GB has code FORMAT (R151). -/
def State.checkSet (s : State) (img : PlanSet) : Option Finding :=
  if imageMax < img.size then some { code := 2 }
  else if ¬ s.sigOk img then some { code := 1 }
  else if ¬ formatOk img then some { code := 2 }
  else ((List.zipIdx img.plans).find? (fun e => !planFormatOk e.1)).map (fun e => { code := 2, plan := e.2 })
    |>.orElse (fun _ => if periodOk img (s.valuesAt (s.get F.frmEpoch_EPOCH [] + 1)) then none else some { code := 3 })
    |>.orElse (fun _ => s.claimFinding img)
    |>.orElse (fun _ => s.roleFinding img)
    |>.orElse (fun _ => storeFinding img)
    |>.orElse (fun _ => s.trackFinding img)
    |>.orElse (fun _ => rungFinding img)
    |>.orElse (fun _ => placeFinding img)
    |>.orElse (fun _ => s.carryFinding img)
    |>.orElse (fun _ => if s.predOk img then none else some { code := 0xD })
    |>.orElse (fun _ => if s.rowOk img then none else some { code := 0xE, plan := 8 })

end Sys2Proof.Machine
end

