-- ==== Sys2Proof/Machine/Plans.lean ====
section
/-!
DEFINITION. Staging, arming and swapping plan sets, placements and retirement (spec/06_plans.md R157 to R163, R169 to R173).
-/
namespace Sys2Proof.Machine

/-- A staging transition, which is journalled (R158). -/
def State.setStage (s : State) (st : Nat) : State :=
  let old := s.get F.plnStageStatus_STATE []
  (s.set F.plnStageStatus_STATE [] st).note
    { who := 6, cls := 2, item := st, obj := Reg.off .plnStageStatus [], old := old, new := st, data := s.get F.plnSetStaged_STAGED [] }

/-- Shows a finding, or none, in `PLN_STAGE_STATUS` (Table 20.9). -/
def State.showFinding (s : State) (f : Option Finding) : State :=
  let f := f.getD { code := 0 }
  (((s.set F.plnStageStatus_CODE [] f.code).set F.plnStageStatus_PLAN [] f.plan).set F.plnStageStatus_TUSSOCK [] f.tussock).set
    F.plnStageStatus_POS [] f.pos

/-- Empties the staging bank: the result of an earlier check is discarded (R157, R158). -/
def State.emptyStage (s : State) : State :=
  let s := (({ s with pln := { s.pln with staged := none } }.set F.plnSetStaged_STAGED [] 0).showFinding none).set
    F.plnStageStatus_BANK [] (1 - s.pln.force)
  s.setStage 0

/-- CHECK starts the checker, from EMPTY only (Table 20.9). -/
def State.stageCheck (s : State) : State := if s.get F.plnStageStatus_STATE [] = 0 then s.setStage 1 else s

/-- CLEAR empties the bank, from PASSED or REJECTED only. -/
def State.stageClear (s : State) : State :=
  let st := s.get F.plnStageStatus_STATE []
  if st = 2 ∨ st = 3 then s.emptyStage else s

/-- The checker ends on an image (R156). -/
def State.stageResult (s : State) (img : PlanSet) : State :=
  let f := s.checkSet img
  let s := s.showFinding f
  match f with
  | none =>
    ({ s with pln := { s.pln with staged := some img } }.set F.plnSetStaged_STAGED [] img.setId).setStage 2
  | some f => (s.set F.plnSetStaged_STAGED [] (if f.code = 1 then 0 else img.setId)).setStage 3

/-- The code that a write of TARGET fails with, if it is refused; 0 where no check of R160 names it. -/
def State.armRefusal (s : State) (target : Nat) : Option Nat :=
  match s.pln.staged with
  | none => some 0
  | some img =>
    if s.get F.plnStageStatus_STATE [] ≠ 2 ∨ target ≤ s.get F.frmEpoch_EPOCH [] then some 0
    else
      let c := s.edgeFinding img (s.valuesAt target)
      if c = 0 then none else some c

/-- A write of TARGET that the checks of R160 let through starts ARMING. -/
def State.armStart (s : State) (target : Nat) : State :=
  ((s.set F.plnArm_TARGET [] target).set F.plnStageStatus_CODE [] 0).setStage 4

/-- Whether an ARMED set may still be withdrawn (R53): slot 60 before its swap edge has not opened. -/
def State.withdrawMay (s : State) : Bool :=
  decide (s.get F.plnStageStatus_STATE [] = 5) &&
  !(decide (s.get F.plnArm_TARGET [] ≤ s.get F.frmEpoch_EPOCH [] + 1) && s.pastPoint s.pln.armedAt)

/-- The role whose plan declares a kind's promotion region (R216). -/
def promoRole (k : Nat) : Role := if k = 0 then .control else .sensorFusion

/-- The promotion entry of a kind in a list of plans. -/
def promoOf (l : List Plan) (k : Nat) : Option PromoEntry := (l.find? (fun p => decide (p.role = promoRole k))).bind Plan.promo

/-- Whether a swap carries the bank in force over from one promotion region to another (Table 8.9). -/
def carriesOver (o e : PromoEntry) : Bool := decide (o.layout = e.layout ∧ o.len = e.len)

/-- What does not start from INIT contents: regions that inherit, and promotion regions whose bank in force is carried over (R163, R200). -/
def State.inherits (s : State) (img : PlanSet) : List (Nat × Nat) :=
  ((carriedOf img.plans).filter (fun c => c.inherit_.isSome)).flatMap (fun c => [(c.bank0, c.len), (c.bank1, c.len)]) ++
  [0, 1].flatMap (fun k =>
    match promoOf s.plans k, promoOf img.plans k with
    | some o, some e => if carriesOver o e then [(e.bankA, e.len), (e.bankB, e.len)] else []
    | _, _ => [])

/-- Zeroes carried-state windows that do not inherit and loads INIT contents, for windows that a test selects (R158, R159, R163). -/
def State.loadInit (s : State) (img : PlanSet) (sel : Nat × Nat → Bool) : State :=
  let keep := s.inherits img
  let zero := (carriedOf img.plans).filter (fun c => c.inherit_.isNone && sel (c.bank0, c.len))
  let m := zero.foldl (fun (m : Mem) c => Mem.setBytes m c.bank0 (List.replicate c.len 0)) s.hbm
  let data := img.plans.flatMap (fun p => p.initData.filter (fun d => sel (initWindow p d) && !keep.any (meets (d.1, d.2.length))))
  { s with hbm := data.foldl (fun (m : Mem) d => Mem.setBytes m d.1 d.2) m }

/-- The constant store that a set's images fill for a tussock (R95, R153). -/
def storeOf (img : PlanSet) (t : Nat) : Mem :=
  ((img.plans.flatMap Plan.consts).filter (fun c => decide (c.tussock = t))).foldl (fun (m : Mem) c => Mem.setBytes m c.offset c.bytes) []

/-- The track images that a set has for a tussock. -/
def tracksOf (img : PlanSet) (t : Nat) : List TrackImage := (img.plans.flatMap Plan.tracks).filter (fun k => decide (k.tussock = t))

/-- Tracks and constants of a set go to the inactive store banks (R157, R158). -/
def State.loadStores (s : State) (img : PlanSet) : State :=
  (img.plans.flatMap (fun p => tussocksOf p.hummocks)).foldl (fun (s : State) t =>
    s.setTus t { s.tus t with trackAlt := tracksOf img t, cstAlt := storeOf img t }) s

/-- Whether a run of the outgoing set is still in flight (R157, R161). -/
def State.oldRuns (s : State) : Bool := s.runs.any Run.old

/-- Loading ends and the set is ARMED; it waits while an outgoing run is in flight. Over P0 the active forwards the armed set to its
standby (R159). -/
def State.armed (s : State) : State :=
  match s.pln.staged with
  | none => s
  | some img =>
    if s.get F.plnStageStatus_STATE [] ≠ 4 ∨ s.oldRuns then s
    else
      let s := (s.loadStores img).loadInit img (fun r => !s.inUse r)
      let s := { s with pln := { s.pln with armedAt := s.now } }.setStage 5
      if s.get F.parStat_ROLE [] = 2 ∧ s.on F.parStat_P0_UP [] then s.emit (.p0Forward 0 img.setId (leBytes 4 (s.get F.plnArm_TARGET []))) else s

/-- Tussocks that runs of the outgoing set use. -/
def State.oldTussocks (s : State) : List Nat := (s.runs.filter Run.old).flatMap (fun r => (placeOf r.plan r.place).tussocks)

/-- Store banks change over: the loaded bank comes into force. -/
def State.flipStores (s : State) (l : List Nat) : State :=
  l.foldl (fun (s : State) t =>
    let x := s.tus t
    s.setTus t { x with track := x.trackAlt, trackAlt := x.track, cst := x.cstAlt, cstAlt := x.cst }) s

/-- Frees sluices of a range (first, count). -/
def State.freeSluices (s : State) (r : Nat × Nat) : State :=
  (List.range r.2).foldl (fun (s : State) i => s.wr .slu [r.1 + i] 0) s

/-- Whether a plan of the superseded set still holds a sluice, whose last run has not ended (R136). -/
def State.heldSluice (s : State) (n : Nat) : Bool := ((s.pln.old.map PlanSet.plans).getD []).any (fun p => (homeOf p n).isSome)

/-- Claims the sluices of a plan in force: idle, claimed, of its partition (Table 5.6). A sluice that an outgoing run can still use is not
touched (R136). -/
def State.claimSluices (s : State) (p : Plan) : State :=
  p.sluices.foldl (fun (s : State) x =>
    (List.range x.2.1).foldl (fun (s : State) i =>
      if s.heldSluice (x.1 + i) then s
      else ((s.wr .slu [x.1 + i] 0).set F.slu_OWNER [x.1 + i] p.partition).set F.slu_CLAIMED [x.1 + i] 1) s) s

/-- The sluices of a plan return to their reset values. -/
def State.freePlan (s : State) (p : Plan) : State := p.sluices.foldl (fun (s : State) x => s.freeSluices (x.1, x.2.1)) s

/-- Whether a plan of the outgoing set has a run in flight. -/
def State.stillRuns (s : State) (p : Plan) : Bool := s.runs.any (fun r => r.old && decide (r.part = p.partition))

/-- Plans of the superseded set whose last run has ended give back their sluices, which take OWNER and CLAIMED from the claims in force
(R136). -/
def State.freeEnded (s : State) : State :=
  match s.pln.old with
  | none => s
  | some o =>
    let gone := o.plans.filter (fun p => !s.stillRuns p)
    if gone.isEmpty then s
    else
      let s := gone.foldl State.freePlan { s with pln := { s.pln with old := some { o with plans := o.plans.filter s.stillRuns } } }
      s.plans.foldl (fun (s : State) p =>
        p.sluices.foldl (fun (s : State) x => (List.range x.2.1).foldl (fun (s : State) i =>
          if gone.any (fun g => (homeOf g (x.1 + i)).isSome) then
            (s.set F.slu_OWNER [x.1 + i] p.partition).set F.slu_CLAIMED [x.1 + i] 1
          else s) s) s) s

/-- An incoming carried-state region and the HBM after it was set up (R163): it inherits the predecessor's current bank, in place
where the banks are the same. -/
def State.newRegion (s : State) (preds : List Carried) (part : Nat) (c : Carried) : Region × Mem :=
  let g : Region := { bank0 := c.bank0, bank1 := c.bank1, len := c.len, layout := c.layout, cur := false, part := part, old := false }
  match c.inherit_.bind (fun i => preds[i]?) with
  | none => (g, s.hbm)
  | some p =>
    match s.regions.find? (fun r => decide (r.bank0 = p.bank0) && !r.old) with
    | none => (g, s.hbm)
    | some r =>
      if r.bank0 = c.bank0 ∧ r.bank1 = c.bank1 then ({ g with cur := r.cur }, s.hbm)
      else (g, Mem.setBytes s.hbm c.bank0 (Mem.bytes s.hbm (if r.cur then r.bank1 else r.bank0) c.len))

/-- Carried-state regions at a swap: regions of outgoing plans with a run in flight stay, for those runs (R161, R163). -/
def State.swapRegions (s : State) (img : PlanSet) : State :=
  let preds := carriedOf s.plans
  let keep := (s.regions.filter (fun g => s.runs.any (fun r => r.old && decide (r.part = g.part)))).map (fun (g : Region) => { g with old := true })
  let all := img.plans.flatMap (fun p => p.carried.map (fun c => (p.partition, c)))
  let made := all.foldl (fun (q : List Region × Mem) e =>
    let x := { s with hbm := q.2 }.newRegion preds e.1 e.2
    (q.1 ++ [x.1], x.2)) ([], s.hbm)
  { s with regions := made.1 ++ keep, hbm := made.2 }

/-- The promotion of a kind: 0 weights, 1 calibration. -/
def State.promoAt (s : State) (k : Nat) : Promo := Tbl.at s.pln.promo k {}

/-- Replaces the promotion of a kind. -/
def State.setPromo (s : State) (k : Nat) (p : Promo) : State := { s with pln := { s.pln with promo := Tbl.put s.pln.promo k p } }

/-- Base of the bank in force, and of the candidate bank. -/
def bankInForce (p : Promo) (e : PromoEntry) : Nat := if p.bankB then e.bankB else e.bankA
def bankCandidate (p : Promo) (e : PromoEntry) : Nat := if p.bankB then e.bankA else e.bankB

/-- A promotion state change, which is journalled. -/
def State.promoState (s : State) (k st : Nat) : State :=
  let old := s.get F.plnPromoStat_STATE [k]
  (s.set F.plnPromoStat_STATE [k] st).note { who := 0, cls := 3, item := st, obj := Reg.off .plnPromoStat [k], old := old, new := st, data := (s.promoAt k).digest }

/-- Whether a kind's READY candidate is eligible at this edge. -/
def State.promoDue (s : State) (k : Nat) : Bool :=
  decide (s.get F.plnPromoStat_STATE [k] = 3) && eligible (s.promoAt k).readyAt s.now s.fab.closed

/-- A READY candidate whose banks a swap replaces at the edge at which it would be applied is refused with SWAP (Table 8.11). -/
def State.refuseReady (s : State) (k : Nat) : State :=
  if s.promoDue k then (s.set F.plnPromoStat_CODE [k] 0xA).promoState k 4 else s

/-- A promotion region at a swap (Table 8.9, R200): the bank in force is carried over to a region of the same KIND and LAYOUT, whose
version stays; another region starts from INIT with version 1. A candidate in other banks is gone. -/
def State.swapPromo (s : State) (img : PlanSet) (k : Nat) : State :=
  let p := s.promoAt k
  let s := if (promoOf img.plans k).any (fun e => (promoOf s.plans k).any (fun o => carriesOver o e && decide (o.bankA = e.bankA ∧ o.bankB = e.bankB)))
    then s else s.refuseReady k
  let fresh := fun (s : State) (ver : Nat) =>
    let st := s.get F.plnPromoStat_CODE [k]
    let refused := decide (s.get F.plnPromoStat_STATE [k] = 4)
    ((((s.wr .plnPromoStat [k] 0).set F.plnPromoStat_CODE [k] st).set F.plnPromoStat_STATE [k] (if refused then 4 else 0)).set F.plnPromoStat_VERSION [k] ver).setPromo k { clamp := p.clamp, clampPrev := p.clampPrev, discards := p.discards }
  match promoOf s.plans k, promoOf img.plans k with
  | some o, some e =>
    if ¬ carriesOver o e then fresh s 1
    else if o.bankA = e.bankA ∧ o.bankB = e.bankB then s
    else
      let d := Mem.bytes s.hbm (bankInForce p o) e.len
      fresh { s with hbm := Mem.setBytes s.hbm e.bankA d } (s.get F.plnPromoStat_VERSION [k])
  | none, some _ => fresh s 1
  | _, none => fresh s 0

/-- `PLN_PART[p]` for the plans in force (Table 20.9). -/
def State.partRegs (s : State) : State :=
  let s := (List.range 8).foldl (fun (s : State) p => s.wr .plnPart [p] 0) s
  s.plans.foldl (fun (s : State) q =>
    let i := [q.partition]
    let role := match q.role with | .control => 0 | .sensorFusion => 1 | .learning => 2 | .domain => 3 | .auxiliary => 4
    ((s.set F.plnPart_HUMMOCKS i q.hummocks).set F.plnPart_ROLE i role).set F.plnPart_PRESENT i 1) s

/-- RETIRE_HOLD and PLACE_NONE (Table 6.8). -/
def State.ladderFlags (s : State) : State :=
  let any := fun (f : Fld) => b2n ((List.range 8).any (fun p => s.on f [p]))
  (s.set F.plnLadderStat_RETIRE_HOLD [] (any F.plnPart_HELD)).set F.plnLadderStat_PLACE_NONE [] (any F.plnPart_NO_PLACE)

/-- First frame in which each incoming plan may start a run (R161). -/
def State.startFrames (s : State) (img : PlanSet) : Tbl Nat :=
  img.plans.foldl (fun (t : Tbl Nat) p =>
    let d := s.plans.foldl (fun (m : Nat) o => if o.hummocks &&& p.hummocks ≠ 0 then max m o.depth else m) 0
    Tbl.put t p.partition (s.frame + d)) []

/-- A full plan set comes into force at an epoch edge (R161 to R163, R200). It ends the holds that stand: the spec does not say what a swap
does to them (DESIGN CHOICE, notes/assumptions/140.md). Outputs that no plan claims any more keep their values (R145). -/
def State.swapFull (s : State) (img : PlanSet) : State :=
  let use := fun (r : Nat × Nat) => s.inUse r
  let start := s.startFrames img
  let hadControl := (s.rolePlan .control).isSome
  let s := { s with runs := s.runs.map (fun (r : Run) => { r with old := true }) }
  let s := (((s.swapRegions img).swapPromo img 0).swapPromo img 1).loadInit img use
  let s := match s.pln.inForce with
    | some o => (o.plans.filter (fun p => !s.stillRuns p)).foldl State.freePlan s
    | none => s
  let new : PlanSet := { img with row := img.row.orElse (fun _ => s.pln.inForce.bind PlanSet.row) }
  let all := img.plans.flatMap (fun p => tussocksOf p.hummocks)
  let busy := s.oldTussocks
  let s := s.flipStores (all.filter (fun t => !busy.contains t))
  let p := s.pln
  let old := p.inForce.map (fun o => { o with plans := o.plans.filter s.stillRuns })
  let p := { p with old := old, inForce := some new, staged := none, force := 1 - p.force, startFrom := start, holds := [], flips := all.filter busy.contains }
  let s := { s with pln := p, cap := { s.cap with first := s.cap.first && hadControl, live := if hadControl then s.cap.live else [] } }
  let s := img.plans.foldl State.claimSluices s
  let s := (s.set F.plnSetId_IN_FORCE [] img.setId).set F.plnSetStaged_STAGED [] 0
  ((s.set F.plnStageStatus_BANK [] s.pln.force).partRegs.ladderFlags).setStage 6

/-- A row-only image replaces the row section in force; the plan set stays, and the bank, IN_FORCE at the edge, supersedes no store and is
empty again (R158, R172, R173; notes/assumptions/41.md). -/
def State.swapRow (s : State) (img : PlanSet) : State :=
  let cur := s.pln.inForce.getD { img with plans := [], row := none }
  { s with pln := { s.pln with inForce := some { cur with row := img.row } } }.setStage 6 |>.emptyStage

/-- A plan swap at an epoch edge that has opened epoch FRM_EPOCH (R159 to R161, R422): refused where a check of R160 fails; moved to the
next edge where the set is not ARMED in time or JOURNAL_FULL stands. -/
def State.swapEdge (s : State) : State :=
  let st := s.get F.plnStageStatus_STATE []
  match s.pln.staged with
  | none => s
  | some img =>
    if (st ≠ 4 ∧ st ≠ 5) ∨ s.get F.frmEpoch_EPOCH [] < s.get F.plnArm_TARGET [] then s
    else if st = 4 ∨ ¬ eligible s.pln.armedAt s.now s.fab.closed ∨ s.on F.jrnStat_JOURNAL_FULL [] then
      s.set F.plnArm_TARGET [] (s.get F.frmEpoch_EPOCH [] + 1)
    else
      let c := s.edgeFinding img (s.get F.frmStat_PERIOD_K [], s.get F.frmStat_EPOCH_M [])
      if c ≠ 0 then (s.showFinding (some { code := c })).setStage 3
      else
        let s := { s with lad := { s.lad with blocked := true } }
        if img.plans.isEmpty then s.swapRow img else s.swapFull img

/-- The superseded set's store and staging banks are released once no outgoing run is in flight (R161). -/
def State.releaseOld (s : State) : State :=
  if s.get F.plnStageStatus_STATE [] ≠ 6 ∨ s.oldRuns then s
  else
    let s := s.freeEnded
    { s with pln := { s.pln with old := none }, regions := s.regions.filter (fun g => !g.old) }.emptyStage

/-- Where the last outgoing run has ended, tussocks take the bank that was loaded for them, and sluices the claims in force (R136, R157). -/
def State.lateFlips (s : State) : State :=
  let s := s.freeEnded
  let busy := s.oldTussocks
  let l := s.pln.flips.filter (fun t => !busy.contains t)
  { s.flipStores l with pln := { s.pln with flips := s.pln.flips.filter busy.contains } }

/-- Whether a logical tussock is retired or has no position (Table 20.9). -/
def State.retired (s : State) (t : Nat) : Bool := bitAt (s.get F.plnRetired_RETIRED [t / 64]) (t % 64)

/-- A tussock leaves service for good (R171): its bit, the usable count, and a journal entry of the safety class (R418). -/
def State.retire (s : State) (t : Nat) : State :=
  if s.retired t then s
  else
    let s := s.set F.plnRetired_RETIRED [t / 64] (setBits (s.get F.plnRetired_RETIRED [t / 64]) (t % 64) 1 1)
    let s := s.set F.plnRetireReq_REQ [t / 64] (setBits (s.get F.plnRetireReq_REQ [t / 64]) (t % 64) 1 0)
    let s := { s with pln := { s.pln with retireAt := Tbl.del s.pln.retireAt t } }
    let s := s.set F.glbStat_USABLE [] (s.get F.glbStat_USABLE [] - 1)
    s.note { who := 0, cls := 2, obj := Reg.off .plnRetired [t / 64], new := t, safety := true }

/-- Planned retirements that are eligible at an epoch edge (R171). -/
def State.retireEdge (s : State) : State :=
  (s.pln.retireAt.filter (fun e => eligible e.2 s.now s.fab.closed)).foldl (fun (s : State) e => s.retire e.1) s

/-- Placement requests that are eligible at an epoch edge come to stand, unless JOURNAL_FULL defers them (R169, R422). -/
def State.requestEdge (s : State) : State :=
  if s.on F.jrnStat_JOURNAL_FULL [] then s
  else
    (s.pln.placeAt.filter (fun e => eligible e.2 s.now s.fab.closed)).foldl (fun (s : State) e =>
      let v := bits (s.rd .plnPlaceReq []) (4 * e.1) 3
      { s with pln := { s.pln with placeAt := Tbl.del s.pln.placeAt e.1, placeReq := Tbl.put s.pln.placeReq e.1 v } }) s

/-- The placement that a partition takes (R170): the requested one where it has no retired tussock, else the lowest such. -/
def State.choosePlace (s : State) (q : Plan) : Option Nat :=
  let ok := fun (i : Nat) => decide (i < q.placements.length) && !(placeOf q i).tussocks.any s.retired
  let r := Tbl.at s.pln.placeReq q.partition 0
  if bitAt r 2 ∧ ok (r % 4) then some (r % 4) else (List.range 4).find? ok

/-- A partition's placement at an epoch edge (R170, R171): a hold whose retirement is eligible ends. Without a placement its outputs are not
refreshed, so that its runs in flight are abandoned (DESIGN CHOICE, notes/assumptions/141.md). -/
def State.placeEdge (s : State) (q : Plan) : State :=
  let p := q.partition
  let s := match Tbl.find s.pln.holds p with
    | some a =>
      if eligible a s.now s.fab.closed then { s with pln := { s.pln with holds := Tbl.del s.pln.holds p } }.set F.plnPart_HELD [p] 0 else s
    | none => s
  if s.on F.plnPart_NO_PLACE [p] then s
  else
    match s.choosePlace q with
    | none =>
      let s := s.abandon .miss (fun r => decide (r.part = p) && !r.old)
      (s.set F.plnPart_NO_PLACE [p] 1).note { who := 0, cls := 2, item := 40, obj := Reg.off .plnPart [p], new := 1 }
    | some i =>
      let old := s.get F.plnPart_PLACE [p]
      if i = old then s
      else
        let s := { s with lad := { s.lad with blocked := true } }.set F.plnPart_PLACE [p] i
        s.note { who := 0, cls := 2, item := 36, obj := Reg.off .plnPart [p], old := old, new := i }

/-- Placements at an epoch edge (Table 2.4, step 3). -/
def State.placesEdge (s : State) : State :=
  let s := s.retireEdge.requestEdge
  (s.plans.foldl State.placeEdge s).ladderFlags

/-- The step that placements force (R166): to the fastest slower rung of a placement that lacks the rung in force though its plan
provides it. -/
def State.placeStep (s : State) : State :=
  let rung := s.get F.plnLadderStat_RUNG []
  let goal := s.plans.foldl (fun (m : Nat) q =>
    let pl := placeOf q (s.get F.plnPart_PLACE [q.partition])
    if bitAt q.rungs rung ∧ ¬ bitAt pl.rungs rung then
      match (List.range 4).find? (fun r => decide (rung < r) && bitAt pl.rungs r) with
      | some r => max m r
      | none => m
    else m) rung
  if rung < goal ∧ ¬ s.standby then s.ladderStep goal false else s

/-- SUSPENDED of each partition for the rung in force (R164). -/
def State.suspendFlags (s : State) : State :=
  s.plans.foldl (fun (s : State) q => s.set F.plnPart_SUSPENDED [q.partition] (b2n (s.suspended q))) s

/-- CHECK_COMPLETE (R156): the checker ends on the image in the staging bank, whose sections `img` brings; no effect unless a check is under
way. -/
def execCheckComplete (t : Tai) (img : SetContents) (clean : Bool) (s : State) : Host.Outcome State Fault Refusal :=
  let s := s.at t
  .next (if s.get F.plnStageStatus_STATE [] = 1 then s.stageResult (s.imageRead (1 - s.pln.force) img clean) else s)

/-- ARMING_COMPLETE (R158). -/
def execArmingComplete (t : Tai) (s : State) : Host.Outcome State Fault Refusal := .next (s.at t).armed

/-- SUPERSEDED_BANK_RELEASE (R161). -/
def execSupersededBankRelease (t : Tai) (s : State) : Host.Outcome State Fault Refusal := .next (s.at t).releaseOld

end Sys2Proof.Machine
end

