-- ==== Sys2Proof/Machine/Runs.lean ====
section
/-!
DEFINITION. Runs and frame sections: what starts in a frame, the deadline, the seal of tussocks, and what a finished run commits
(spec/02_frame.md R43 to R48, spec/05_isa_control.md R140, R141, R145, spec/08_calibration.md R213 to R220).
-/
namespace Sys2Proof.Machine

/-- Whether a compute reset is asserted on a partition's hummocks (R381, R383). -/
def State.underReset (s : State) (q : Plan) : Bool := s.rst.objs.any (fun o => o.active && decide (o.hum &&& q.hummocks ≠ 0))

/-- Whether a drain request keeps a partition from starting runs (R382). -/
def State.draining (s : State) (q : Plan) : Bool := s.rst.objs.any (fun o => o.drain && !o.active && decide (o.hum &&& q.hummocks ≠ 0))

/-- Whether plans run in a frame at all: live in roles STANDALONE and ACTIVE, as a shadow on a standby that has the snapshot of the
frame (Table 15.1, R358); not in CRITICAL, in a fabric reset or in the handover frame (R354, R385, R407). -/
def State.plansRun (s : State) : Bool :=
  let r := s.get F.parStat_ROLE []
  (decide (r = 1 ∨ r = 2) || (s.standby && decide (s.pair.shadow = some s.work))) &&
  !s.rst.crit && !s.rst.fabric && !s.rst.stopped && !(decide (r = 2) && s.pair.handover.any (fun e => decide (e ≤ s.frame)))

/-- Whether a partition in force runs a frame section (Table 19.2, IDLE; R164, R170, R171, R161). -/
def State.sectionRuns (s : State) (q : Plan) : Bool :=
  s.plansRun && !s.suspended q && !s.on F.plnPart_HELD [q.partition] && !s.on F.plnPart_NO_PLACE [q.partition] && !s.underReset q &&
  !(s.standby && decide (q.role = .learning)) && decide (Tbl.at s.pln.startFrom q.partition 0 ≤ s.work)

/-- Whether a run of a plan falls in the frame (R47). -/
def State.cadenceNow (s : State) (q : Plan) : Bool := decide (s.work % 2 ^ q.cadenceJ = q.phase)

/-- Beats that a plan's windows ask for on a pseudo-channel in a slot, at the rung in force (R77, R80). -/
def State.beatsOf (s : State) (slot pc : Nat) (q : Plan) : Nat :=
  sumOf (fun (w : Window) =>
    if w.slot0 ≤ slot ∧ slot ≤ w.slot1 ∧ touches w.base w.len pc then w.beats.getD (s.get F.plnLadderStat_RUNG []) 0 else 0) q.windows

/-- Plans whose windows are served in the frame beside the learning plan's. -/
def State.servedPlans (s : State) : List Plan :=
  ((s.plans.filter (fun q => s.sectionRuns q && decide (q.role ≠ .learning))) ++ (s.runs.filter Run.old).map Run.plan).eraseDups

/-- The elastic windows of the learning plan are granted whole, or none is (R26, R80): every beat is free on its pseudo-channel. -/
def State.beatsFree (s : State) (q : Plan) : Bool :=
  let others := s.servedPlans
  (List.range 60).all (fun slot => (List.range 128).all (fun pc =>
    let own := s.beatsOf slot pc q
    decide (own = 0) || decide (own + sumOf (s.beatsOf slot pc) others ≤ slotBeats (s.get F.frmStat_PERIOD_K []))))

/-- Whether a plan has a write window on a kind's promotion region (R216). -/
def writesPromo (q : Plan) (e : PromoEntry) : Bool :=
  q.windows.any (fun w => w.write && (meets (w.base, w.len) (e.bankA, e.len) || meets (w.base, w.len) (e.bankB, e.len)))

/-- Whether the write windows on the candidate bank of a kind may be granted (R217, R220, Table 8.13). A demotion that is pending does not bar
them: no rule names it (DESIGN CHOICE, notes/assumptions/143.md). -/
def State.candidateFree (s : State) (k : Nat) : Bool :=
  let st := s.get F.plnPromoStat_STATE [k]
  !(decide (st = 1 ∨ st = 2 ∨ st = 3)) && decide ((s.promoAt k).grantFrom ≤ s.frame)

/-- Whether the learning plan's windows are all granted in a frame (R80, R217, R220). -/
def State.learningGranted (s : State) (q : Plan) : Bool :=
  s.beatsFree q && (List.range 2).all (fun k =>
    (promoOf s.plans k).all (fun e => !writesPromo q e || s.candidateFree k))

/-- The first grant on a former bank clears PREV_VALID (R220). -/
def State.grantTaken (s : State) (q : Plan) : State :=
  (List.range 2).foldl (fun (s : State) k =>
    if (promoOf s.plans k).any (writesPromo q) then s.set F.plnPromoStat_PREV_VALID [k] 0 else s) s

/-- Where the promotion regions of a run lie (R216, R220). -/
def State.promoBanks (s : State) : List (Nat × Nat × Nat) :=
  (List.range 2).flatMap (fun k =>
    match promoOf s.plans k with
    | some e => let b := bankInForce (s.promoAt k) e; [(e.bankA, e.len, b), (e.bankB, e.len, b)]
    | none => [])

/-- Where the RING read windows of a plan lie in the frame: they advance by STEP records a frame (R214). -/
def State.ringBanks (s : State) (q : Plan) : List (Nat × Nat × Nat) :=
  q.windows.filterMap (fun w =>
    match w.ring with
    | some m => if w.read then some (w.base, w.len, w.base + (s.work * w.step) % 2 ^ m * w.len) else none
    | none => none)

/-- A run in a new frame: its RING read windows have advanced. -/
def State.advanceRun (s : State) (r : Run) : Run :=
  let ring := s.ringBanks r.plan
  { r with banks := r.banks.take (r.banks.length - ring.length) ++ ring }

/-- Where a run's candidate writes and RING writes go (R213, R216). -/
def State.runWbanks (s : State) (q : Plan) : List (Nat × Nat × Nat) :=
  let promo := (List.range 2).flatMap (fun k =>
    match promoOf s.plans k with
    | some e => let b := bankCandidate (s.promoAt k) e; [(e.bankA, e.len, b), (e.bankB, e.len, b)]
    | none => [])
  let ring := q.windows.filterMap (fun w =>
    match w.ring with
    | some m => if w.write then some (w.base, w.len, w.base + (s.work / 2 ^ q.cadenceJ) % 2 ^ m * w.len) else none
    | none => none)
  (if q.role = .learning then promo else []) ++ ring

/-- A skipped learning step (R26, R164). -/
def State.skipLearning (s : State) (q : Plan) : State :=
  { s.bump F.obsPart2_SKIP [q.partition] 1 with rcd := { s.rcd with learnSkip := true } }

/-- A tussock whose registers hold nothing: nothing in a register passes from one run to the next (R101). -/
def Tus.forget (t : Tus) : Tus := { t.landAll with v := [], s := [], p := [], a := [], str := [], tile := [] }

/-- A run starts where one falls in the frame (R47, R101, R382). -/
def State.startRun (s : State) (q : Plan) : State :=
  if ¬ s.cadenceNow q ∨ s.draining q then s
  else
    let r : Run := { part := q.partition, plan := q, start := s.work, rung := s.get F.plnLadderStat_RUNG [], place := s.get F.plnPart_PLACE [q.partition],
                     old := false, writes := [], banks := s.promoBanks ++ s.ringBanks q, wbanks := s.runWbanks q, emits := [], can := [], annots := [] }
    let s := if q.role = .learning then s.grantTaken q else s
    let s := if s.runs.any (fun x => decide (x.part = q.partition) && !x.old) then s
      else (s.inService q).foldl (fun (s : State) t => s.setTus t (s.tus t).forget) s
    { s with runs := s.runs ++ [r] }

/-- A tussock at clock 0 of its frame section: everything of the last frame has landed (R141). -/
def Tus.newSection (t : Tus) : Tus :=
  { t.landAll with loops := [], lastPos := 0, lastClk := 0, lastRep := 0, started := false, slip := 0, maxSlip := 0, wait := none, stopped := false,
                   ended := false, endClk := 0xFFFFFFFF }

/-- A frame section starts: its completion sluice is armed with the number of its tussocks and BOUND 0 (R141). -/
def State.startSection (s : State) (q : Plan) (old : Bool) (l : List Nat) : State :=
  let s := s.arm q.completion l.length 0
  let s := l.foldl (fun (s : State) t => s.setTus t (s.tus t).newSection) s
  { s with rcd := { s.rcd with secs := s.rcd.secs ++ [(q.partition, old, l)] } }

/-- Runs of the outgoing set go on in the frame, each partition in one section (R161). -/
def State.oldSections (s : State) : State :=
  (s.runs.filter Run.old).foldl (fun (s : State) r =>
    if s.rcd.secs.any (fun e => e.2.1 && decide (e.1 = r.part)) then s
    else if s.plansRun then s.startSection r.plan true (placeOf r.plan r.place).tussocks
    else s) s

/-- One plan in force at slot 0. In a frame that does not grant the learning plan's windows its section does not start, and the step is
skipped (R26, R80). -/
def State.startPlan (s : State) (q : Plan) : State :=
  if s.sectionRuns q then
    if q.role = .learning ∧ ¬ s.learningGranted q then s.skipLearning q else (s.startRun q).startSection q false (s.inService q)
  else if q.role = .learning ∧ s.plansRun ∧ s.suspended q then s.skipLearning q
  else if s.on F.plnPart_HELD [q.partition] then s.bump F.obsPart2_HELD [q.partition] 1
  else s

/-- Clocks of what is in flight are counted from the new edge, `n` clocks after the last one; releases of the frame are over (R138). -/
def State.shiftClocks (s : State) (n : Nat) : State :=
  let s := s.landHum n
  { s with fab := { s.fab with
      hfly := s.fab.hfly.map (fun e => (e.1 - n, e.2)), msgs := s.fab.msgs.map (fun (m : Msg) => { m with at_ := m.at_ - n }), relAt := [],
      sends := s.fab.sends.map (fun (x : Sending) => { x with at_ := x.at_ - n }),
      tus := s.fab.tus.map (fun e => (e.1, { e.2 with xfers := e.2.xfers.map (fun (x : Xfer) => { x with due := x.due - n }) })) } }

/-- What has reached its place by the first clock of slot 60: staging and sluices (R44, R145). -/
def State.landDue (s : State) : State :=
  let n := slotClock (s.get F.frmStat_PERIOD_K []) (s.get F.plnLadderStat_RUNG []) 60
  (s.enterAll (fun x => decide (x.at_ < n))).landArms (fun m => decide (m.at_ < n))

/-- Plans start slot 0 (Table 2.4, step 5): tussocks of no section issue nothing. -/
def State.startPlans (s : State) : State :=
  let s := { s with rcd := { s.rcd with secs := [] }, runs := s.runs.map s.advanceRun }
  let s := s.fab.tus.foldl (fun (s : State) e => s.setTus e.1 { s.tus e.1 with stopped := true, wait := none }) s
  s.plans.foldl State.startPlan s.oldSections

/-- Counts of overdue waits and of replacements over the module. -/
def State.overdueSum (s : State) : Nat := sumOf (fun p => s.get F.obsPart0_OVERDUE [p]) (List.range 8)
def State.replSum (s : State) : Nat :=
  sumOf (fun (e : Nat × Word) => if 0x52000 ≤ e.1 ∧ e.1 < 0x60000 then e.2.toNat % 2 ^ 32 else 0) s.regs

/-- The plan of a section. -/
def State.secPlan (s : State) (e : Nat × Bool × List Nat) : Option Plan :=
  if e.2.1 then (s.runs.find? (fun r => r.old && decide (r.part = e.1))).map Run.plan else s.partPlan e.1

/-- Whether a sluice of a plan reads ABSORBED (R140). -/
def State.absorbedAny (s : State) (q : Plan) : Bool :=
  q.sluices.any (fun x => (List.range x.2.1).any (fun i => decide (s.get F.slu_STATUS [x.1 + i] = sluAbsorbed)))

/-- Whether a section has finished the frame (R43, R140, R141). -/
def State.secDone (s : State) (q : Plan) (e : Nat × Bool × List Nat) : Bool :=
  decide (s.get F.slu_STATUS [q.completion] = sluMet) && e.2.2.all (fun t => (s.tus t).ended) && !s.absorbedAny q &&
  !bitAt s.rcd.missNow e.1

/-- A missed deadline (R44). -/
def State.missSection (s : State) (q : Plan) (e : Nat × Bool × List Nat) : State :=
  let s := (s.stopTussocks e.2.2).abandon .miss (fun r => decide (r.part = e.1) && (r.old == e.2.1))
  let s := (s.bump F.obsPart0_MISS [e.1] 1).ladderMiss q
  { s with rcd := { s.rcd with missed := s.rcd.missed ||| 2 ^ e.1, done := Tbl.put s.rcd.done e.1 0xFE } }

/-- The slot in which a section's completion sluice became MET: its last signal left with the last XEND (R137, Table 19.2). -/
def State.doneSlot (s : State) (q : Plan) (l : List Nat) : Nat :=
  let home := (homeOf q q.completion).getD 0
  let clk := l.foldl (fun (m : Nat) t => max m ((s.tus t).endClk + 2 + meshHops (hummockOf t) home)) 0
  min 59 (4 * clk / (3125 * 2 ^ s.get F.frmStat_PERIOD_K [] * (4 - s.get F.plnLadderStat_RUNG [])))

/-- A section at slot 60. -/
def State.checkSection (s : State) (e : Nat × Bool × List Nat) : State :=
  match s.secPlan e with
  | none => s
  | some q =>
    if s.secDone q e then
      { s with rcd := { s.rcd with finished := s.rcd.finished ||| 2 ^ e.1, done := Tbl.put s.rcd.done e.1 (s.doneSlot q e.2.2) } }
    else s.missSection q e

/-- The partition whose flag word takes a tussock's flags: that of its section, outgoing or in force (R93, R161). -/
def State.flagPart (s : State) (t : Nat) : Option Nat :=
  ((s.rcd.secs.find? (fun e => e.2.2.contains t)).map Prod.fst).orElse (fun _ =>
    (s.plans.find? (fun p => bitAt p.hummocks (hummockOf t))).map Plan.partition)

/-- The fold of the flag registers (R93) and the seal of the TUS block (Table 20.10); a retired tussock keeps its last seal. -/
def State.sealTus (s : State) (t : Nat) : State :=
  let (f, x) := (s.tus t).takeFold
  let s := s.setTus t x
  let h := hummockOf t
  let q := s.plans.find? (fun p => bitAt p.hummocks h)
  let p := (q.map Plan.partition).getD 0
  let s := match s.flagPart t with
    | some k => if f ≠ 0 then { s with rcd := { s.rcd with flagW := Tbl.put s.rcd.flagW k (Tbl.at s.rcd.flagW k 0 ||| f) } } else s
    | none => s
  if s.retired t then s.set F.tusStat_RETIRED [t] 1
  else
    let s := s.set F.tusStat_PHYS [t] (bits (s.get F.humMap_LOG [h]) (4 * (t % 8)) 4)
    let s := (s.set F.tusStat_IN_SERVICE [t] (b2n (q.any (fun p => (s.inService p).contains t)))).set F.tusStat_RETIRED [t] 0
    let s := (s.set F.tusStat_IN_RESET [t] (b2n x.inReset)).set F.tusStat_PART [t] p
    let s := (s.set F.tusStat_ASSIGNED [t] (b2n q.isSome)).set F.tusFold_FLAGS [t] f
    let s := (s.set F.tusRun_MAX_SLIP [t] x.maxSlip).set F.tusRun_END_CLK [t] x.endClk
    (s.set F.tusCnt_SRAM_CE [t] x.corrected).set F.tusCnt_OVERDUE [t] x.overdue

/-- Bytes that a run has written, from an address on. -/
def State.applyWrites (s : State) (w : Tbl Byte) (lo hi dst : Nat) : State :=
  { s with hbm := (w.filter (fun c => decide (lo ≤ c.1 ∧ c.1 < hi))).foldl (fun (m : Mem) c => Mem.setByte m (c.1 - lo + dst) c.2) s.hbm }

/-- A completed run's writes to a carried-state region become current: the other bank takes the current contents and the writes
(R45). -/
def State.commitRegion (s : State) (r : Run) (i : Nat) : State :=
  match s.regions[i]? with
  | none => s
  | some g =>
    if g.part ≠ r.part ∨ g.old ≠ r.old then s
    else
      let src := if g.cur then g.bank1 else g.bank0
      let dst := if g.cur then g.bank0 else g.bank1
      let s := { s with hbm := Mem.setBytes s.hbm dst (Mem.bytes s.hbm src g.len) }
      { s.applyWrites r.writes g.bank0 (g.bank0 + g.len) dst with regions := s.regions.set i { g with cur := !g.cur } }

/-- Writes to exchange windows become current (R80). -/
def State.commitExchange (s : State) (r : Run) : State :=
  (r.plan.windows.filter (fun w => decide (w.kind = 2))).foldl (fun (s : State) w => s.applyWrites r.writes w.base (w.base + w.len) w.base) s

/-- Annotations of a completed run are journalled with the plan as origin (R147, Tables 18.2, 18.3). -/
def State.commitAnnots (s : State) (r : Run) : State :=
  let set := if r.old then (s.pln.old.map PlanSet.setId).getD 0 else s.setId
  r.annots.foldl (fun (s : State) a =>
    s.journal { s.entry 2 (r.part + 16 * r.place) kAnnot (0xF000 + a.reason) (0xF0000000 + a.tus) with
      old := r.plan.planId, new := set, data := a.data.toNat }) s

/-- Runs whose last frame this is (R48). -/
def State.ending (s : State) : List Run := s.runs.filter (fun r => decide (r.start + r.plan.depth = s.work))

/-- A completed run commits its outputs, transmits, carried state, exchange windows and annotations (R45, R145 to R147, R161). -/
def State.commitRun (s : State) (r : Run) : State :=
  let s := (List.range s.regions.length).foldl (fun (s : State) i => s.commitRegion r i) s
  let s := (s.commitExchange r).commitAnnots r
  let f := { s.frm with outs := r.emits.foldl (fun (t : Tbl Nat) (e : Nat × Nat) => Tbl.put t e.1 e.2) s.frm.outs,
                        can := r.can.foldl (fun (t : Tbl (Nat × List Byte)) (e : Nat × Nat × List Byte) => Tbl.put t e.1 e.2) s.frm.can }
  let first := s.cap.first || (decide (r.plan.role = .control) && r.emits.any (fun e => decide (e.1 < 1024)))
  let live := s.cap.live ++ (r.emits.map Prod.fst).filter (fun k => decide (k < 1024) && !s.cap.live.contains k)
  { s with frm := f, cap := { s.cap with first := first, live := live } }.bump F.obsPart3_RUNS [r.part] 1

/-- CLAMP of the control plan's completion: the first 128 bytes of its first exchange window (R437). -/
def State.takeClamp (s : State) (l : List Run) : State :=
  match l.find? (fun r => decide (r.plan.role = .control)) with
  | none => s
  | some r =>
    let v := match r.plan.windows.find? (fun w => decide (w.kind = 2)) with
      | some w => Mem.num s.hbm w.base 128
      | none => 0
    { s with rcd := { s.rcd with clamp := v, clampNew := true } }

/-- Live runs that end commit, those of the outgoing set first, so that the incoming value stands (R161). -/
def State.commitRuns (s : State) : State :=
  let l := s.ending
  let s := (l.filter (fun r => !r.old)).foldl State.commitRun ((l.filter Run.old).foldl State.commitRun s)
  let s := s.takeClamp l
  { s with runs := s.runs.filter (fun r => !decide (r.start + r.plan.depth = s.work)) }.lateFlips

/-- Whether an output of a claimed class and index counts as live: its partition is in service for the block (R243, R407). -/
def State.liveKeys (s : State) : List Nat :=
  if s.rst.crit then []
  else
    s.plans.flatMap (fun q =>
      if s.suspended q ∨ s.on F.plnPart_NO_PLACE [q.partition] then []
      else q.outputs.flatMap (fun o => (List.range o.2.2).map (fun i => 1024 * o.1 + o.2.1 + i)))

/-- The sealed output block of a frame: every standing output and the transmits committed in it (R145, R438). -/
def State.sealBlock (s : State) : OutBlock :=
  { frame := s.frame, outs := s.frm.outs.map (fun e => (e.1, BitVec.ofNat 32 e.2)),
    can := s.frm.can.map (fun e => (e.1, e.2.1, e.2.2)), live := s.liveKeys }

end Sys2Proof.Machine
end

