-- ==== Sys2Proof/Machine/Promo.lean ====
section
/-!
DEFINITION. Promotion of weights and calibration (spec/08_calibration.md R216 to R222): the record of Table 8.10, the checks of Table
8.11, the edge, probation and demotion; and the ripple streams of R211.
-/
namespace Sys2Proof.Machine

/-- The entry in force of a kind. -/
def State.promoEntry (s : State) (k : Nat) : Option PromoEntry := promoOf s.plans k

/-- A number of the candidate's record: n bytes at an offset. -/
def State.recNum (s : State) (k : Nat) (e : PromoEntry) (off n : Nat) : Nat := Mem.num s.hbm (bankCandidate (s.promoAt k) e + off) n

/-- An FP32 figure of the candidate's record. -/
def State.recFig (s : State) (k : Nat) (e : PromoEntry) (off : Nat) : Num := decodeNum Fmt.fp32 (s.recNum k e off 4)

/-- An FP32 figure of a promotion entry. -/
def figure (b : BitVec 32) : Num := decodeNum Fmt.fp32 b.toNat

/-- The sealing value of SEAL. -/
def sealValue : Nat := 0x5345414C

/-- Digests of a kind's candidate bank and bank in force. -/
def State.candidateDigest (s : State) (k : Nat) (e : PromoEntry) : Nat := digest (Mem.bytes s.hbm (bankCandidate (s.promoAt k) e) e.len)
def State.forceDigest (s : State) (k : Nat) : Nat :=
  match s.promoEntry k with
  | some e => digest (Mem.bytes s.hbm (bankInForce (s.promoAt k) e) e.len)
  | none => 0

/-- A candidate leaves without being applied: the bank returns to write grants at the next frame (Table 8.13). -/
def State.promoDrop (s : State) (k st code : Nat) : State :=
  let p := s.promoAt k
  let sp := (s.promoEntry k).map (s.candidateDigest k)
  let s := s.setPromo k { p with spent := sp, begun := false, grantFrom := max p.grantFrom (s.frame + 1) }
  let s := if code = 0 then s else s.set F.plnPromoStat_CODE [k] code
  (s.set F.plnPromoStat_DEFER [k] 0).promoState k st

/-- A candidate of the learning plan (source 0) or of the host (1) is sealed (R217, R218): its digest is computed from here on. -/
def State.promoSeal (s : State) (k source : Nat) (e : PromoEntry) : State :=
  let p := s.promoAt k
  let s := s.setPromo k { p with digest := s.candidateDigest k e, source := source, begun := false, sealEpoch := s.get F.frmEpoch_EPOCH [] }
  (s.set F.plnPromoStat_DEFER [k] 0).promoState k 1

/-- The record of one candidate bank is read at slot 62 (R217). A bank unchanged since its candidate left is not sealed anew
(notes/assumptions/42.md). -/
def State.readRecord (s : State) (k : Nat) : State :=
  match s.promoEntry k with
  | none => s
  | some e =>
    let st := s.get F.plnPromoStat_STATE [k]
    if (st ≠ 0 ∧ st ≠ 4) ∨ s.recNum k e 0 8 ≠ sealValue ∨ s.standby ∨ (s.promoAt k).spent = some (s.candidateDigest k e) then s
    else s.promoSeal k 0 e

/-- Whether a number is above another. -/
def above (a b : Num) : Bool := b.lt a

/-- Whether bytes of the bank at `b` are zero: offset and count. -/
def zeroAt (m : Mem) (b off n : Nat) : Bool := (List.range n).all (fun i => decide (Mem.byte m (b + off + i) = 0))

/-- Whether every reserved byte of a calibration set is zero (Tables 8.1, 8.3, R198). -/
def calReservedZero (m : Mem) (b : Nat) : Bool :=
  zeroAt m b (0x1000 + 32 * 6752) (32 * 1440) && (List.range 1024).all (fun g => zeroAt m b (0x41000 + 16 * g + 5) 3) && zeroAt m b 0x4D000 0x33000

/-- Check FORMAT of Table 8.11. -/
def State.promoFormatBad (s : State) (k : Nat) (e : PromoEntry) : Bool :=
  let figs := [36, 40, 44, 48, 52, 56].map (s.recFig k e)
  let zero := (List.range (4096 - 60)).all (fun i => decide (s.recNum k e (60 + i) 1 = 0))
  decide (s.recNum k e 8 4 ≠ (s.promoAt k).sealEpoch ∨ s.recNum k e 12 1 ≠ k + 1 ∨ s.recNum k e 14 2 ≠ 0 ∨ s.recNum k e 32 4 < e.valMin) ||
  figs.any (fun f => f.isNan || (f.neg? && !f.isZero)) || !zero ||
  (decide (k = 1) && !calReservedZero s.hbm (bankCandidate (s.promoAt k) e))

/-- Check METRIC. -/
def State.metricBad (s : State) (k : Nat) (e : PromoEntry) : Bool :=
  let cand := s.recFig k e 36
  let lim := (Num.one.add (figure e.improve).opp).mul (s.recFig k e 40)
  above cand lim || above cand (figure e.mAbs) || (decide (k = 0) && above (s.recFig k e 44) (Num.one.add (figure e.groupTol)))

/-- A sensor entry of a calibration bank (Table 8.2), at its bank's base. -/
structure SensorEntry where
  off : Num
  gain : Num
  quad : Num
  sigma : Num
  group : Nat
  flags : Nat
  lo : Num
  hi : Num
deriving DecidableEq, Repr

/-- Reads sensor entry i of the bank at `b`. -/
def sensorAt (m : Mem) (b i : Nat) : SensorEntry :=
  let a := b + 0x1000 + 32 * i
  let f := fun o => decodeNum Fmt.fp32 (Mem.num m (a + o) 4)
  { off := f 0, gain := f 4, quad := f 8, sigma := f 12, group := Mem.num m (a + 16) 2, flags := Mem.num m (a + 18) 2, lo := f 24, hi := f 28 }

/-- The calibrated value of R199, without rounding. -/
def SensorEntry.at (e : SensorEntry) (x : Num) : Num := (e.off.add (e.gain.mul x)).add (e.quad.mul (x.mul x))

/-- Whether bytes of two banks differ. -/
def bytesDiffer (m : Mem) (a b n : Nat) : Bool := decide (Mem.bytes m a n ≠ Mem.bytes m b n)

/-- Sensor entries in use (R198). -/
def sensorCount : Nat := 6752

/-- A sensor entry's move beyond OFF_STEP (check TRUST). -/
def sensorMoves (e : PromoEntry) (old new : SensorEntry) : Bool :=
  let step := figure (e.offStep.getD (bits new.flags 4 2) 0)
  let mid := (new.lo.add new.hi).mul (.fin false 1 (-1) false)
  [new.lo, mid, new.hi].any (fun x => above ((new.at x).add (old.at x).opp).mag step)

/-- The sign of a number changes. -/
def signFlips (a b : Num) : Bool := !a.isZero && !b.isZero && (a.neg? != b.neg?)

/-- Gain entry i of a bank: FLAGS, GAIN and SE (Table 8.4). -/
def gainAt (m : Mem) (b i : Nat) : Nat × Num × Num :=
  let a := b + 0x45000 + 16 * i
  (Mem.num m (a + 3) 1, decodeNum Fmt.fp32 (Mem.num m (a + 4) 4), decodeNum Fmt.fp32 (Mem.num m (a + 8) 4))

/-- Check TRUST. A gain that is VALID in both banks is held to the 25 %, since a gain that is not VALID has no in-force value to move from
(DESIGN CHOICE, notes/assumptions/148.md). -/
def State.trustBad (s : State) (k : Nat) (e : PromoEntry) : Bool :=
  if k = 0 then above (s.recFig k e 48) (figure e.tr)
  else
    let p := s.promoAt k
    let a := bankInForce p e
    let b := bankCandidate p e
    let host := decide (p.source = 1)
    (List.range sensorCount).any (fun i =>
      let o := sensorAt s.hbm a i
      let n := sensorAt s.hbm b i
      bytesDiffer s.hbm (a + 0x1000 + 32 * i) (b + 0x1000 + 32 * i) 32 && !(host && bitAt n.flags 1) && sensorMoves e o n) ||
    (List.range 2048).any (fun i =>
      let o := gainAt s.hbm a i
      let n := gainAt s.hbm b i
      bitAt n.1 0 && bitAt o.1 0 && above (((n.2.1.add o.2.1.opp).mag).mul (.fin false 4 0 false)) o.2.1.mag)

/-- Check OUTDEV. -/
def State.outdevBad (s : State) (k : Nat) (e : PromoEntry) : Bool :=
  above (s.recFig k e 52) (figure e.outdevW) || above (s.recFig k e 56) (figure e.outdevSp)

/-- Check SIGN. A gain that is VALID in the candidate is asked for its sign (DESIGN CHOICE, notes/assumptions/148.md). -/
def State.signBad (s : State) (k : Nat) (e : PromoEntry) : Bool :=
  if k = 0 then false
  else
    let a := bankInForce (s.promoAt k) e
    let b := bankCandidate (s.promoAt k) e
    (List.range sensorCount).any (fun i =>
      let n := sensorAt s.hbm b i
      signFlips (sensorAt s.hbm a i).gain n.gain || !above n.sigma Num.zero) ||
    (List.range 2048).any (fun i =>
      let o := gainAt s.hbm a i
      let n := gainAt s.hbm b i
      (bitAt n.1 0 && signFlips o.2.1 n.2.1) ||
      (bytesDiffer s.hbm (a + 0x45000 + 16 * i) (b + 0x45000 + 16 * i) 16 && above (n.2.2.mul (.fin false 4 0 false)) n.2.1.mag))

/-- Check FIXED. -/
def State.fixedBad (s : State) (k : Nat) (e : PromoEntry) : Bool :=
  if k = 0 then false
  else
    let p := s.promoAt k
    let a := bankInForce p e
    let b := bankCandidate p e
    let learn := decide (p.source = 0)
    (learn && bytesDiffer s.hbm (a + 0x41000) (b + 0x41000) 0x4000) ||
    (List.range sensorCount).any (fun i =>
      let o := sensorAt s.hbm a i
      let n := sensorAt s.hbm b i
      (bitAt o.flags 2 && bytesDiffer s.hbm (a + 0x1000 + 32 * i) (b + 0x1000 + 32 * i) 32) ||
      (learn && (decide (o.group ≠ n.group) || (bitAt n.flags 1 && !bitAt o.flags 1))))

/-- The first failing check at sealing, 0 where none fails (Table 8.11, R218). -/
def State.promoCheck (s : State) (k : Nat) (e : PromoEntry) : Nat :=
  let host := decide ((s.promoAt k).source = 1)
  if s.promoFormatBad k e then 1
  else if s.recNum k e 16 4 ≠ s.get F.plnPromoStat_VERSION [k] then 2
  else if s.recNum k e 24 8 ≠ e.layout then 3
  else if !host && s.metricBad k e then 4
  else if s.trustBad k e then 5
  else if !host && s.outdevBad k e then 6
  else if s.signBad k e then 7
  else if s.fixedBad k e then 8
  else 0

/-- A candidate is approved (R219). -/
def State.promoReady (s : State) (k : Nat) : State := (s.setPromo k { s.promoAt k with readyAt := s.now }).promoState k 3

/-- The checks end (R217): PASSED, and READY where AUTO is set; or REFUSED. An active forwards a PASSED candidate (R356). -/
def State.promoChecked (s : State) (k : Nat) : State :=
  match s.promoEntry k with
  | none => s
  | some e =>
    if s.get F.plnPromoStat_STATE [k] ≠ 1 then s
    else
      let c := s.promoCheck k e
      if c ≠ 0 then s.promoDrop k 4 c
      else
        let s := s.promoState k 2
        let s := if s.get F.parStat_ROLE [] = 2 ∧ s.on F.parStat_P0_UP [] then
            s.emit (.p0Forward (1 + k) (s.promoAt k).digest (Mem.bytes s.hbm (bankCandidate (s.promoAt k) e) e.len))
          else s
        if s.on (if k = 0 then F.plnPromoCtrl_AUTO_W else F.plnPromoCtrl_AUTO_C) [] then s.promoReady k else s

/-- GO_W and GO_C: ignored but in PASSED (Table 8.12). -/
def State.promoGo (s : State) (k : Nat) : State := if s.get F.plnPromoStat_STATE [k] = 2 then s.promoReady k else s

/-- Whether a withdrawal comes after the point of R53. -/
def State.promoLate (s : State) (k : Nat) : Bool :=
  decide (s.get F.plnPromoStat_STATE [k] = 3) && s.pastPoint (s.promoAt k).readyAt

/-- WITHDRAW_W and WITHDRAW_C discard a SEALED, PASSED or READY candidate. -/
def State.promoWithdraw (s : State) (k : Nat) : State :=
  let st := s.get F.plnPromoStat_STATE [k]
  if st = 1 ∨ st = 2 ∨ st = 3 then s.promoDrop k 0 0 else s

/-- A demotion becomes pending (R222). -/
def State.promoDemote (s : State) (k : Nat) : State :=
  if ¬ s.on F.plnPromoStat_PREV_VALID [k] ∨ s.get F.plnPromoStat_STATE [k] = 5 then s
  else (s.setPromo k { s.promoAt k with demoteAt := some s.now }).promoState k 5

/-- Whether the standby has confirmed the candidate with its digest (R219). -/
def State.confirmed_ (s : State) (k : Nat) : Bool :=
  !s.on F.parCfg_MODE [] || s.pair.rec_.any (fun r => decide ((if k = 0 then r.digestW else r.digestC) = (s.promoAt k).digest))

/-- The checks at the edge that do not depend on the other kind: SWAP, PAIR, JOURNAL; 0 where none fails. -/
def State.edgeChecks (s : State) (k : Nat) (swapped : Bool) : Nat :=
  if swapped then 0xA else if ¬ s.confirmed_ k then 0xB else if s.on F.jrnStat_JOURNAL_FULL [] then 0xC else 0

/-- Whether a kind's demotion is eligible at this edge. -/
def State.demoteDue (s : State) (k : Nat) : Bool :=
  decide (s.get F.plnPromoStat_STATE [k] = 5) && (s.promoAt k).demoteAt.any (fun a => eligible a s.now s.fab.closed)

/-- Calibration version in force after the edge (check CALVER). -/
def State.calAfter (s : State) (swapped : Bool) : Nat :=
  s.get F.plnPromoStat_VERSION [1] +
    b2n ((s.promoDue 1 && decide (s.edgeChecks 1 swapped = 0)) || (s.demoteDue 1 && !s.on F.jrnStat_JOURNAL_FULL []))

/-- The bank mapping flips and VERSION increments (R220, R222). -/
def State.promoFlip (s : State) (k : Nat) (prev : Bool) : State :=
  let p := s.promoAt k
  let former := s.forceDigest k
  let ver := s.get F.plnPromoStat_VERSION [k]
  let s := s.setPromo k { p with bankB := !p.bankB, demoteAt := none, spent := some former, begun := false,
                                 grantFrom := if prev then s.frame + (if k = 0 then s.eLen else 16) else p.grantFrom }
  let s := ((s.bumpWrap F.plnPromoStat_VERSION [k] 1).set F.plnPromoStat_PREV_VALID [k] (b2n prev)).set F.plnPromoStat_DEFER [k] 0
  let s := { s with lad := { s.lad with blocked := true } }.promoState k 0
  s.note { who := 0, cls := 3, act := b2n (!prev), item := 16, obj := Reg.off .plnPromoStat [k], old := ver, new := ver + 1, data := p.digest }

/-- The figures of a promoted record, journalled with its source (R220). -/
def State.promoFigures (s : State) (k : Nat) (e : PromoEntry) : State :=
  s.note { who := 0, cls := 3, item := 17, obj := Reg.off .plnPromoStat [k], old := (s.promoAt k).source, new := s.recNum k e 32 4,
           data := s.recNum k e 0 60 }

/-- A READY candidate at an epoch edge (R219, R220). -/
def State.promoApply (s : State) (k : Nat) (e : PromoEntry) (swapped : Bool) : State :=
  let code := if k = 0 ∧ s.recNum 0 e 20 4 ≠ s.calAfter swapped then 9 else s.edgeChecks k swapped
  if code = 0 then
    let s := ((s.promoFigures k e).promoFlip k true)
    if k = 0 then s.set F.plnPromoStat_PROBATION [0] 1 else s
  else if code = 0xB then
    let n := s.get F.plnPromoStat_DEFER [k] + 1
    if 4 ≤ n then s.promoDrop k 4 0xB else s.set F.plnPromoStat_DEFER [k] n
  else s.promoDrop k 4 code

/-- One kind at an epoch edge (Table 2.4, step 3; R220, R222). -/
def State.promoKind (s : State) (swapped : Bool) (k : Nat) : State :=
  match s.promoEntry k with
  | none => s
  | some e =>
    if s.demoteDue k then
      if s.on F.jrnStat_JOURNAL_FULL [] then
        ((s.setPromo k { s.promoAt k with demoteAt := none }).set F.plnPromoStat_CODE [k] 0xC).promoState k 4
      else s.promoFlip k false
    else if s.promoDue k then s.promoApply k e swapped
    else s

/-- Weight and then calibration promotion; the clamp sum of the epoch that ends is kept (R220, R222). -/
def State.promoEdge (s : State) (swapped : Bool) : State :=
  let s := s.set F.plnPromoStat_PROBATION [0] 0
  let p := s.promoAt 0
  let s := s.setPromo 0 { p with clamp := 0, clampPrev := p.clamp }
  (s.promoKind swapped 0).promoKind swapped 1

/-- Sum of the residual-at-clamp counts of a record (Table 19.2, R175). -/
def clampSum (v : Nat) : Nat := sumOf (fun i => bits v (16 * i) 16) (List.range 64)

/-- Probation (R222): the sum over the epoch's frame records; beyond the allowance a demotion becomes pending. -/
def State.probation (s : State) : State :=
  let p := s.promoAt 0
  let p := { p with clamp := p.clamp + clampSum s.rcd.clamp }
  let s := s.setPromo 0 p
  match s.promoEntry 0 with
  | some e => if s.on F.plnPromoStat_PROBATION [0] ∧ p.clampPrev + e.demoteClamp < p.clamp then s.promoDemote 0 else s
  | none => s

/-- The ripple descriptors in their module streams (R211). -/
def State.rippleStreams (s : State) : State :=
  (List.range 16).foldl (fun (s : State) j =>
    let half := fun (i : Nat) =>
      let r := s.ripple i
      s.rd .lpeRplCfg [i] + 2 ^ 64 * s.rd .lpeRplAmp [i] + 2 ^ 128 * (encodeNum Fmt.fp32 false .rne (Num.ofInt r.off (-16))).1 + 2 ^ 160 * r.st
    { s with tel := { s.tel with recs := Tbl.put s.tel.recs (0xFF68 + j) (half (2 * j) + 2 ^ 256 * half (2 * j + 1)) } }) s

/-- PROMOTION_RECORD_READ (R217). -/
def execPromotionRecordRead (t : Tai) (s : State) : Host.Outcome State Fault Refusal := .next (((s.at t).readRecord 0).readRecord 1)

/-- PROMOTION_CHECK_COMPLETE (R217). -/
def execPromotionCheckComplete (t : Tai) (k : Fin 2) (s : State) : Host.Outcome State Fault Refusal := .next ((s.at t).promoChecked k)

end Sys2Proof.Machine
end

