-- ==== Sys2Proof/Machine/Observe.lean ====
section
/-!
DEFINITION. Observation: frame records, output blocks and epoch pages in the trace region, and the trace ring
(spec/19_observation.md R435 to R440).
-/
namespace Sys2Proof.Machine

/-- Bases of the trace region (Table 19.1). -/
def blockBase : Nat := 0x29C0000000
def recordBase : Nat := 0x29E0000000
def pageBase : Nat := 0x29E1000000

/-- Partitions in force that ran no frame section (Table 19.2, IDLE). -/
def State.idleMask (s : State) : Nat :=
  s.plans.foldl (fun (m : Nat) q => if s.rcd.secs.any (fun e => decide (e.1 = q.partition)) then m else m ||| 2 ^ q.partition) 0

/-- FLAGS of the frame record. -/
def State.recordFlags (s : State) : Nat :=
  b2n s.rcd.learnSkip + 2 * b2n (decide (s.tel.decLvls ≠ 0)) + 4 * s.get F.jrnStat_JOURNAL_FULL [] + 8 * s.get F.prtStat_ANY [] +
  16 * b2n s.rcd.stepped + 32 * b2n s.standby + 64 * b2n (!s.rcd.clampNew)

/-- Byte p of DONE_SLOT. -/
def State.doneByte (s : State) (p : Nat) : Nat := Tbl.at s.rcd.done p 0xFF

/-- The frame record (Table 19.2): of the frame that ends, or of the shadowed frame on a standby. -/
def State.recordBytes (s : State) : List Byte :=
  let tai := if s.standby then s.fab.tai0 - s.tF else s.fab.tai0
  leBytes 8 s.work ++ leBytes 8 tai ++ leBytes 4 (s.get F.frmEpoch_EPOCH []) ++ leBytes 4 (s.get F.parLease_EPOCH []) ++
  leBytes 1 (s.get F.plnLadderStat_RUNG []) ++ leBytes 1 (s.get F.plnLadderStat_FORCED []) ++ leBytes 1 s.rcd.finished ++ leBytes 1 s.rcd.missed ++
  leBytes 1 s.rcd.abRung ++ leBytes 1 s.rcd.abReset ++ leBytes 1 s.idleMask ++ leBytes 1 s.recordFlags ++
  (List.range 8).flatMap (fun p => leBytes 1 (s.doneByte p)) ++
  leBytes 4 (sumOf (fun p => 16 ^ p * s.get F.plnPart_PLACE [p]) (List.range 8)) ++
  leBytes 2 (min 0xFFFF (s.overdueSum - s.rcd.overdue)) ++ leBytes 2 (min 0xFFFF (s.replSum - s.rcd.repl)) ++ leBytes 8 s.setId ++ leBytes 8 0 ++
  (List.range 8).flatMap (fun p => leBytes 8 (Tbl.at s.rcd.flagW p 0)) ++ leBytes 128 s.rcd.clamp

/-- Writes the frame record to its slot (R436). -/
def State.writeRecord (s : State) : State :=
  { s with hbm := Mem.setBytes s.hbm (recordBase + 256 * (s.work % 65536)) s.recordBytes }

/-- A section of an output block: its code, entries and their bytes (R438). -/
def sectionBytes (code : Nat) (l : List (List Byte)) : List Byte :=
  if l.isEmpty then [] else leBytes 2 code ++ leBytes 2 l.length ++ leBytes 4 0 ++ l.flatten

/-- Entries of an output class, and of CAN transmits. -/
def blockEntries (b : OutBlock) (c : Nat) : List (List Byte) :=
  (b.outs.filter (fun e => decide (e.1 / 1024 = c))).map (fun e => leBytes 2 (e.1 % 1024) ++ leBytes 2 0 ++ leBytes 4 e.2.toNat)
def blockCan (b : OutBlock) : List (List Byte) :=
  b.can.map (fun e => leBytes 2 e.1 ++ leBytes 1 e.2.1 ++ leBytes 5 0 ++ (e.2.2 ++ List.replicate 64 0).take 64)

/-- The bytes of a sealed output block (R438). -/
def blockBytes (b : OutBlock) : List Byte :=
  let secs := ((List.range 7).map (fun c => sectionBytes c (blockEntries b c))) ++ [sectionBytes 0x10 (blockCan b)]
  let body := secs.flatten
  leBytes 8 b.frame ++ leBytes 4 (64 + body.length) ++ leBytes 2 (secs.filter (fun x => !x.isEmpty)).length ++ leBytes 50 0 ++ body

/-- Copies the sealed block to its slot (R438). -/
def State.writeBlock (s : State) (d : List Byte) (n : Nat) : State :=
  { s with hbm := Mem.setBytes s.hbm (blockBase + 0x80000 * (n % 1024)) d }

/-- The OBS block as epoch page of the epoch in force (R439). -/
def State.writePage (s : State) : State :=
  let word := fun (i : Nat) =>
    match Tbl.find s.regs (0x50000 + 8 * i) with
    | some w => w.toNat
    | none => if i = 0 then Reg.resetWord .obsCfg [] else 0
  let d := (List.range 512).flatMap (fun i => leBytes 8 (word i))
  { s with hbm := Mem.setBytes s.hbm (pageBase + 4096 * (s.get F.frmEpoch_EPOCH [] % 256)) d }

/-- Whether a trace record is to be made (R440, Table 19.3). -/
def State.traceWanted (s : State) (r : TraceRec) : Bool :=
  let byte := fun (i : Nat) => r.body.getD i 0
  s.on F.obsCfg_TRACE_EN [] && decide (1 ≤ r.type ∧ r.type ≤ 5) && bitAt (s.get F.obsCfg_TYPES []) (r.type - 1) &&
  (decide (r.type ≠ 2) || (bitAt (s.get F.obsCfg_WAIT_PART []) r.part &&
    (decide (byte 12 = sluOverdue) ||
     decide (s.get F.obsCfg_SLIP_MIN [] ≤ byte 8 + 256 * byte 9 + 65536 * byte 10 + 16777216 * byte 11))))

/-- TRACE_RECORD (R440, R441): generated and sent to ring 2 in its turn, or dropped and counted. -/
def execTraceRecord (t : Tai) (r : TraceRec) (s : State) : Host.Outcome State Fault Refusal :=
  let s := s.at t
  if ¬ s.traceWanted r then .next s
  else if s.get F.obsCfg_TRACE_MAX [] ≤ s.rcd.traced then .next (s.bump F.obsTrace_CAPPED [] 1)
  else
    let s : State := { s.bump F.obsTrace_GENERATED [] 1 with rcd := { s.rcd with traced := s.rcd.traced + 1 } }
    if ¬ s.on F.hstRingCfg_EN [2] then .next s
    else if s.ringFree 2 = 0 ∨ 4096 ≤ s.hst.traces.length then .next (s.bump F.hstRingCnt_LOST [2] 1)
    else .next { s with hst := { s.hst with traces := s.hst.traces ++ [s.traceBytes r] } }.sendTraces

end Sys2Proof.Machine
end

