-- ==== Sys2Proof/Machine/Pair.lean ====
section
/-!
DEFINITION. The redundant pair: roles, the lease and its words, claims' conditions, fencing, handover and the in-place exercise
(spec/15_pairing.md R343 to R361).
-/
namespace Sys2Proof.Machine

/-- Whether the module holds the lease (Table 15.1). -/
def State.holder (s : State) : Bool := s.roleActs

/-- The module's identifier. -/
def State.modId (s : State) : Nat := s.get F.glbId_MODID []

/-- A change of role: journalled in the safety class and raised (R343, R418). -/
def State.setRole (s : State) (r : Nat) : State :=
  let old := s.get F.parStat_ROLE []
  if old = r then s
  else (s.set F.parStat_ROLE [] r).note
    { who := 4, cls := 0xB, item := r, obj := Reg.off .parStat [], old := old, new := r, safety := true, raised := some (evState, 1, r) }

/-- A flag of `PAR_STAT` is set, journalled and raised once. -/
def State.pairFlag (s : State) (f : Fld) : State :=
  if s.on f [] then s
  else (s.set f [] 1).note { who := 4, cls := 0xB, item := f.lo, obj := Reg.off .parStat [], new := 1, raised := some (evAlarm, 1, f.lo) }

/-- A standby goes back to STANDBY_SYNC, and CLEAN_F restarts (R344). -/
def State.toSync (s : State) : State :=
  let s := s.set F.parStat_CLEAN_F [] 0
  if s.get F.parStat_ROLE [] = 4 then s.setRole 3 else s

/-- Epochs that a claim must exceed (R349): held, stored, seen on P0, the lease pair and the field buses, and in telemetry records. -/
def State.epochFloor (s : State) : Nat :=
  let caps := s.tel.recs.foldl (fun (m : Nat) (e : Nat × Nat) => if bits e.2 16 7 = 1 then max m (bits e.2 192 32) else m) 0
  max (max (s.get F.parLease_EPOCH []) s.nv.epoch) (max s.pair.seenEpoch (max s.can.seen caps))

/-- Takes a fresh lease epoch (R349), to be stored within 50 ms; journalled in the safety class (R418). -/
def State.freshEpoch (s : State) : State :=
  let old := s.get F.parLease_EPOCH []
  let e := (s.epochFloor + 1) % 2 ^ 32
  ({ s with pair := { s.pair with storing := true } }.set F.parLease_EPOCH [] e).note
    { who := 4, cls := 0xB, item := 64, obj := Reg.off .parLease [], old := old, new := e, safety := true }

/-- CRC-16/CCITT-FALSE over bytes (Table 15.2): polynomial 0x1021, initial value 0xFFFF. -/
def crcByte (c : Nat) (b : Byte) : Nat :=
  (List.range 8).foldl (fun (c : Nat) _ => if bitAt c 15 then ((2 * c) ^^^ 0x1021) % 65536 else 2 * c % 65536) (c ^^^ (256 * b.toNat))
def crc16 (l : List Byte) : Nat := l.foldl crcByte 0xFFFF

/-- The lease pair word of the module (Table 15.2): the CRC covers the first eight bytes, least significant first. -/
def State.leaseWordOf (s : State) (kind x : Nat) : BitVec 80 :=
  let w := s.get F.parLease_EPOCH [] + 2 ^ 32 * s.modId + 2 ^ 46 * kind + 2 ^ 48 * (x % 65536)
  BitVec.ofNat 80 (w + 2 ^ 64 * crc16 (leBytes 8 w))

/-- The record that the module sends over P0 (R346). -/
def State.p0Of (s : State) (renewal release : Bool) (x : Nat) : P0Record :=
  let ctl := (s.rolePlan .control).any (fun q => s.on F.plnPart_NO_PLACE [q.partition])
  { modId := s.modId, role := s.get F.parStat_ROLE [], epoch := s.get F.parLease_EPOCH [], renewal := renewal, release := release, endX := x,
    noPlace := ctl, forced := s.get F.plnLadderStat_FORCED [], prot := s.on F.prtStat_ANY [], cleanF := s.get F.parStat_CLEAN_F [], setId := s.setId,
    digestW := (s.promoAt 0).digest, digestC := (s.promoAt 1).digest }

/-- Sends a P0 record where P0 is up. -/
def State.sendP0 (s : State) (r : P0Record) : State := if s.on F.parStat_P0_UP [] then s.emit (.p0Record r) else s

/-- A renewal with validity end X, on both paths and to the companion (R346). -/
def State.renew (s : State) (x : Nat) : State :=
  let s := ({ s with pair := { s.pair with word := some (x, s.get F.parLease_EPOCH []) } }.set F.parLease_END [] x).set F.parStat_LEASE_PAIR_OK [] 1
  ((s.emit (.leaseWord x (s.get F.parLease_EPOCH []))).emit (.leasePair (s.leaseWordOf 0 x))).sendP0 (s.p0Of true false x)

/-- Conditions that end renewals while the fabric runs: a handover under way, a fabric reset or CRITICAL of an ACTIVE module whose partner is
STANDBY_ELIG, in CRITICAL one without protection in force (R347, R385, R407). -/
def State.mustStop (s : State) : Bool :=
  let elig := decide (s.get F.parStat_ROLE [] = 2) && s.pair.rec_.any (fun r => decide (r.role = 4))
  s.pair.handover.any (fun e => decide (e ≤ s.frame)) || (elig && s.rst.fabric) || (elig && s.rst.crit && s.pair.rec_.any (fun r => !r.prot))

/-- The lease at a frame edge (R346, R347): a holder renews unless it has stopped in its tenure; any other module sends its standby record. -/
def State.leaseEdge (s : State) : State :=
  if s.holder then
    let s := if s.mustStop then { s with pair := { s.pair with stopped := true } } else s
    if s.pair.stopped then s.set F.parStat_LEASE_PAIR_OK [] 0 else s.renew (s.frame + s.get F.parCfg_DUR_F [])
  else
    let s := s.set F.parStat_LEASE_PAIR_OK [] 0
    if s.standby then s.sendP0 (s.p0Of false false 0) else s

/-- A renewal or release of the partner is seen (R346, R348). -/
def State.seeRenewal (s : State) (epoch x : Nat) (release : Bool) : State :=
  let p := s.pair
  let p := { p with seenEpoch := max p.seenEpoch epoch, partnerEpoch := max p.partnerEpoch epoch, xs := if release then p.xs else max p.xs x, lost := false,
                    releaseX := if release then some x else none, seenAt := some s.frame }
  let s := { s with pair := p }
  if s.holder then s else s.set F.parLease_END [] x

/-- The full validity end nearest to the frame in progress that has the given low bits. -/
def nearX (n low : Nat) : Nat :=
  let b := n / 65536 * 65536 + low
  if b + 32768 < n then b + 65536 else if n + 32768 < b ∧ 65536 ≤ b then b - 65536 else b

/-- LEASE_PAIR_WORD (R346, Table 15.2). -/
def execLeasePairWord (t : Tai) (w : BitVec 80) (s : State) : Host.Outcome State Fault Refusal :=
  let s := s.at t
  let x := w.toNat
  let id := bits x 32 14
  let kind := bits x 46 2
  if crc16 (leBytes 8 (x % 2 ^ 64)) ≠ bits x 64 16 ∨ 2 ≤ kind ∨ (id ≠ s.modId ∧ id ≠ s.get F.parCfg_PARTNER_ID []) then
    .next (s.bump F.parCnt_CRC_ERR [] 1)
  else
    let s := s.set F.parStat_LEASE_PAIR_OK [] 1
    .next (if id = s.modId then s else s.seeRenewal (x % 2 ^ 32) (nearX s.frame (bits x 48 16)) (decide (kind = 1)))

/-- P0_PARTNER_RECORD (R346): the newest record of the partner. -/
def execP0PartnerRecord (t : Tai) (r : P0Record) (s : State) : Host.Outcome State Fault Refusal :=
  let s := s.at t
  if ¬ s.on F.parStat_P0_UP [] then .next s
  else if r.modId ≠ s.get F.parCfg_PARTNER_ID [] then .next (if r.modId = s.modId then s else s.bump F.parCnt_CRC_ERR [] 1)
  else
    let s := { s with pair := { s.pair with rec_ := some r, seenEpoch := max s.pair.seenEpoch r.epoch } }
    .next (if r.renewal ∨ r.release then s.seeRenewal r.epoch r.endX r.release else s)

/-- TAI time of the edge that opens a frame, counted from the last edge. -/
def State.edgeTime (s : State) (n : Nat) : Nat := s.fab.tai0 + (n - s.frame) * s.tF

/-- LEASE_EXPIRY (R346): in pair mode the companion controller releases ACT at t_X. -/
def execLeaseExpiry (t : Tai) (s : State) : Host.Outcome State Fault Refusal :=
  let s := s.at t
  .next (if s.on F.parCfg_MODE [] ∧ s.on F.parStat_ACT [] ∧ s.edgeTime s.pair.compX ≤ t then s.actFall else s)

/-- LEASE_WORD_ARRIVAL (R17, R346): the companion controller takes the validity end. -/
def execLeaseWordArrival (t : Tai) (s : State) : Host.Outcome State Fault Refusal :=
  let s := s.at t
  .next (match s.pair.word with
    | some (x, _) => { s with pair := { s.pair with compX := x, word := none } }
    | none => s)

/-- A renewal of the partner was seen within the last DUR_F frames. -/
def State.partnerLive (s : State) : Bool := s.pair.seenAt.any (fun n => decide (s.frame ≤ n + s.get F.parCfg_DUR_F []))

/-- Whether some bus reports a device that knows a higher epoch (R279). -/
def State.fencedDev (s : State) : Bool := (List.range 4).any (fun b => s.on F.fbErr_FENCED_DEV [b])

/-- The module becomes FENCED (R351): ACT falls, renewals stop, pending CAN frames are cancelled, plans end. -/
def State.becomeFenced (s : State) : State :=
  let s := ({ s with pair := { s.pair with stopped := true, handover := none } }.set F.parStat_HANDOVER_PEND [] 0).setRole 5
  let s := s.actFall
  (s.abandon .reset (fun _ => true)).stopTussocks (s.fab.tus.map Prod.fst)

/-- FENCE (R351). -/
def execFence (t : Tai) (s : State) : Host.Outcome State Fault Refusal :=
  let s := s.at t
  let higher := decide (s.get F.parLease_EPOCH [] < s.pair.partnerEpoch)
  .next (if s.holder ∧ (higher ∨ (s.fencedDev ∧ (s.on F.parStat_ACT_IN [] ∨ s.partnerLive))) then s.becomeFenced else s)

/-- REEPOCH (R351): a fresh epoch falls due at the next frame edge. -/
def execReepoch (t : Tai) (s : State) : Host.Outcome State Fault Refusal :=
  let s := s.at t
  .next (if s.holder ∧ s.fencedDev ∧ ¬ s.on F.parStat_ACT_IN [] ∧ ¬ s.partnerLive then { s with pair := { s.pair with reepoch := true } } else s)

/-- The fresh epoch at the edge: BEAT carries it, and REEPOCH is set (R351). -/
def State.reepochEdge (s : State) : State :=
  if ¬ s.pair.reepoch then s
  else
    let s := { s with pair := { s.pair with reepoch := false } }
    if ¬ s.holder then s
    else
      let s := s.freshEpoch.pairFlag F.parStat_REEPOCH
      (List.range 4).foldl (fun (s : State) b => if s.busLive b ∧ s.on F.fbBeat_EN [b] then s.queueBeat b else s) s

/-- Whether the validity seen has run out long enough for a claim (R348), or a release word and the complete image of the frame before
the handover frame allow it without the guard (R354). -/
def State.leaseFree (s : State) : Bool :=
  let c := s.frame
  decide (s.pair.xs + s.get F.parCfg_GUARD_F [] ≤ c) ||
  s.pair.releaseX.any (fun x => decide (x ≤ c) && s.pair.img.any (fun i => decide (x ≤ i.frame + 2)))

/-- A module that has seen no renewal since its start claims at the first epoch edge that lies DUR_F + GUARD_F frames after its first
frame edge, the one with the higher identifier an epoch later (R348). -/
def State.startClaimMay (s : State) : Bool :=
  s.pair.seenAt.isSome ||
  (let base := (s.pair.first.getD 0) + s.get F.parCfg_DUR_F [] + s.get F.parCfg_GUARD_F []
   let base := if s.get F.parCfg_PARTNER_ID [] < s.modId then base + s.eLen else base
   decide (base ≤ s.frame ∧ s.frame + s.eLen = s.get F.frmNextEpoch_NEXT []))

/-- The conditions of a claim at an edge (R348). -/
def State.claimMay (s : State) : Bool :=
  let r := s.get F.parStat_ROLE []
  (decide (r = 4) || (decide (r = 3) && s.on F.parCfg_CLAIM_INELIG [])) && s.leaseFree && s.startClaimMay &&
  (!s.on F.parStat_ACT_IN [] || !s.on F.parStat_PEER_PRSNT []) && s.on F.frmStat_TIME_VALID []

/-- PATHS_LOST (R348): no renewal on either path, while the partner asserts ACT. -/
def execPathsLost (t : Tai) (s : State) : Host.Outcome State Fault Refusal :=
  let s := s.at t
  .next (if s.standby ∧ s.on F.parStat_ACT_IN [] ∧ ¬ s.pair.lost ∧ decide (s.pair.xs + s.get F.parCfg_GUARD_F [] ≤ s.frame) then
      { s with pair := { s.pair with lost := true } }.pairFlag F.parStat_PATHS_LOST else s)

/-- Whether a handover may be asked for (R354). -/
def State.handoverMay (s : State) : Bool :=
  decide (s.get F.parStat_ROLE [] = 2) && s.on F.parStat_P0_UP [] && s.pair.rec_.any (fun r => decide (r.role = 4)) && s.pair.handover.isNone

/-- A handover is scheduled two frames ahead. -/
def State.handoverStart (s : State) : State :=
  { s with pair := { s.pair with handover := some (s.frame + 2) } }.set F.parStat_HANDOVER_PEND [] 1

/-- HANDOVER_FRAME (R354): runs in flight are abandoned and the release word goes out with X = e + 1. -/
def execHandoverFrame (t : Tai) (s : State) : Host.Outcome State Fault Refusal :=
  let s := s.at t
  if s.pair.handover ≠ some s.frame ∨ s.get F.parStat_ROLE [] ≠ 2 then .next s
  else
    let x := s.frame + 1
    let s := s.abandon .reset (fun _ => true)
    let s := { s with pair := { s.pair with stopped := true, word := some (x, s.get F.parLease_EPOCH []) } }.set F.parLease_END [] x
    .next (((s.emit (.leaseWord x (s.get F.parLease_EPOCH []))).emit (.leasePair (s.leaseWordOf 1 x))).sendP0 (s.p0Of false true x))

/-- HANDOVER_ACT_FALL (R354): at t_{e+1} ACT falls and the old active becomes STANDBY_SYNC. -/
def execHandoverActFall (t : Tai) (s : State) : Host.Outcome State Fault Refusal :=
  let s := s.at t
  if s.get F.parStat_ROLE [] ≠ 2 ∨ ¬ s.pair.handover.any (fun e => decide (e < s.frame)) then .next s
  else
    let s := s.actFall
    let s := { s with pair := { s.pair with handover := none, xs := s.get F.parLease_END [], seenAt := some s.frame } }
    .next ((((s.set F.parStat_HANDOVER_PEND [] 0).set F.parStat_CLEAN_F [] 0)).setRole 3)

/-- AUTO_HANDOVER_REQUEST (R354): an active without a placement for its control partition. -/
def execAutoHandoverRequest (t : Tai) (s : State) : Host.Outcome State Fault Refusal :=
  let s := s.at t
  .next (if s.handoverMay ∧ s.on F.parCfg_AUTO_HANDOVER [] ∧ (s.rolePlan .control).any (fun q => s.on F.plnPart_NO_PLACE [q.partition]) then
      s.handoverStart.note { who := 4, cls := 0xB, item := 12, obj := Reg.off .parStat [], new := 1 } else s)

/-- REJOIN: FENCED to STANDBY_SYNC, ignored in other roles (Table 15.8). -/
def State.rejoined (s : State) : State :=
  if s.get F.parStat_ROLE [] = 5 then { s with pair := { s.pair with stopped := false, partnerEpoch := 0 } }.setRole 3 else s

/-- Whether an exercise may start (R360): a standby whose partner asserts ACT and reports no protection action. -/
def State.exerMay (s : State) : Bool := s.standby && s.on F.parStat_ACT_IN [] && s.pair.rec_.any (fun r => !r.prot)

/-- Channels that are not in OFF. -/
def State.liveChans (s : State) : List Nat := (List.range 256).filter (fun n => decide (s.get F.lpeChCfg_MODE [n] ≠ 0))

/-- The exercise starts (R360): a TEST frame on each enabled bus, every channel's effective state TEST. -/
def State.exerStart (s : State) : State :=
  let l := s.liveChans
  let s := { s with pair := { s.pair with exerEff := l.foldl (fun (t : Tbl Nat) n => Tbl.put t n (s.chan n).eff) [] } }
  let s := ((s.set F.parExer_BUSY [] 1).set F.parExer_PASS [] 0).set F.parExer_STEP [] 0
  let s := l.foldl (fun (s : State) n => (s.setChan n { s.chan n with eff := 3 }).set F.lpeChStat_STATE [n] 3) s
  ((List.range 4).foldl (fun (s : State) b => if s.on F.fbCfg_EN [b] then s.setBus b { s.bus b with test := some 0 } else s) s).refreshOutputs

/-- The exercise ends: channels return to the effective states they had. -/
def State.exerEnd (s : State) : State :=
  let l := s.pair.exerEff.filter (fun e => decide (e.1 < 256))
  let s := { s with pair := { s.pair with exerEff := [] } }.set F.parExer_BUSY [] 0
  let s := l.foldl (fun (s : State) e => (s.setChan e.1 { s.chan e.1 with eff := e.2 }).set F.lpeChStat_STATE [e.1] e.2) s
  ((List.range 4).foldl (fun (s : State) b => s.setBus b { s.bus b with test := none }) s).refreshOutputs

/-- An exercise that is under way is aborted (R360). -/
def State.exerAbort (s : State) : State :=
  if s.on F.parExer_BUSY [] then
    (s.exerEnd.set F.parExer_FAIL [] 1).note { who := 4, cls := 0xB, act := 1, item := 3, obj := Reg.off .parExer [], new := 1 }
  else s

/-- EXERCISE_ABORT (R360). -/
def execExerciseAbort (t : Tai) (s : State) : Host.Outcome State Fault Refusal := .next (s.at t).exerAbort

/-- EXERCISE_COMPLETE (R360, Table 15.10): the first step that failed, 0 where every step passed. -/
def execExerciseComplete (t : Tai) (failed : Fin 7) (s : State) : Host.Outcome State Fault Refusal :=
  let s := s.at t
  if ¬ s.on F.parExer_BUSY [] then .next s
  else
    let s := s.exerEnd.set F.parExer_STEP [] failed.val
    let n : Note := { who := 4, cls := 0xB, item := if failed.val = 0 then 2 else 3, obj := Reg.off .parExer [], new := failed.val }
    if failed.val = 0 then
      let s := { s with pair := { s.pair with passAt := some t } }
      .next ((((s.set F.parExer_PASS [] 1).set F.parExer_AGE_H [] 0).set F.parStat_EXER_DUE [] 0).note n)
    else .next ((s.set F.parExer_FAIL [] 1).note n)

/-- Hours since the last pass (Table 15.10). -/
def State.exerAge (s : State) : State :=
  match s.pair.passAt with
  | some a => s.set F.parExer_AGE_H [] (min 0xFFFFFFFF ((s.now - a) / 3600000000000))
  | none => s

/-- EXER_DUE (R361): set while the last pass is older than EXER_DAYS. -/
def execExerDue (t : Tai) (s : State) : Host.Outcome State Fault Refusal :=
  let s := (s.at t).exerAge
  let old := s.pair.passAt.all (fun a => decide (a + s.get F.parCfg_EXER_DAYS [] * 86400000000000 < t))
  .next (if old then s.set F.parStat_EXER_DUE [] 1 else s)

/-- LEASE_EPOCH_STORED (R349). -/
def execLeaseEpochStored (t : Tai) (s : State) : Host.Outcome State Fault Refusal :=
  let s := s.at t
  .next (if s.pair.storing then { s with nv := { s.nv with epoch := s.get F.parLease_EPOCH [] }, pair := { s.pair with storing := false } } else s)

/-- P0_LINK_CHANGE (R33, R346): without P0 there is no current record of the partner. -/
def execP0LinkChange (t : Tai) (up : Bool) (s : State) : Host.Outcome State Fault Refusal :=
  let s := s.at t
  if s.on F.parStat_P0_UP [] = up then .next s
  else
    let s := (s.set F.parStat_P0_UP [] (b2n up)).note { who := 4, cls := 0xB, act := b2n (!up), item := 6, obj := Reg.off .parStat [], old := b2n (!up), new := b2n up }
    .next (if up then s else { s with pair := { s.pair with rec_ := none, snapNext := none, transfer := s.pair.conf.isSome } })

/-- P0_TIME_EXCHANGE (R357): the standby's timebase follows the active's edges; a command's instant is the module's own time, so that no
other state changes. -/
def execP0TimeExchange (t : Tai) (_ : Int) (s : State) : Host.Outcome State Fault Refusal := .next (s.at t)

/-- CONFIG_TRANSFER_REQUEST (R391): a standby in STANDBY_SYNC with P0 up asks its partner. -/
def execConfigTransferRequest (t : Tai) (s : State) : Host.Outcome State Fault Refusal :=
  let s := s.at t
  .next (if s.get F.parStat_ROLE [] = 3 ∧ s.on F.parStat_P0_UP [] ∧ ¬ s.pair.transfer then
      { s with pair := { s.pair with transfer := true } }.emit (.p0Request 1) else s)

/-- P0_PLAN_SET_RECEIVED (R159, R356): the image's bytes go to the bank that is not in force, and the standby checks the set and arms it for the
same edge. The reserved fields of its sections are 0, since the active has checked them. -/
def execP0PlanSetReceived (t : Tai) (img : SetContents) (data : List Byte) (target : BitVec 32) (s : State) : Host.Outcome State Fault Refusal :=
  let s := s.at t
  let st := s.get F.plnStageStatus_STATE []
  if ¬ s.standby ∨ 3 < st then .next s
  else
    let s := if st = 2 ∨ st = 3 then s.emptyStage else s
    let b := 1 - s.pln.force
    let s : State := { s with hbm := Mem.setBytes s.hbm (stageBase b) (data.take imageMax) }
    let s := (s.setStage 1).stageResult (s.imageRead b img true)
    .next (if s.get F.plnStageStatus_STATE [] = 2 ∧ (s.armRefusal target.toNat).isNone then s.armStart target.toNat else s)

/-- P0_CANDIDATE_RECEIVED (R219, R356): the standby holds the candidate and confirms its digest. -/
def execP0CandidateReceived (t : Tai) (k : Fin 2) (data : List Byte) (s : State) : Host.Outcome State Fault Refusal :=
  let s := s.at t
  match s.promoEntry k with
  | none => .next s
  | some e =>
    if ¬ s.standby ∨ data.length ≠ e.len then .next s
    else
      let p := s.promoAt k
      .next ({ s with hbm := Mem.setBytes s.hbm (bankCandidate p e) data }.setPromo k { p with digest := digest data })

end Sys2Proof.Machine
end

