-- ==== Sys2Proof/Machine/Domain.lean ====
section
/-!
DEFINITION. The coupled domain: joining and leaving, alignment, boundary records and lost positions (spec/02_frame.md R60 to R62,
spec/15_pairing.md R362 to R366).
-/
namespace Sys2Proof.Machine

/-- An event of the domain relay. -/
def domNote (act item : Nat) (obj old new : Nat) : Note :=
  { who := 5, cls := 0xB, act := act, item := item, obj := obj, old := old, new := new, raised := some (evState, 1, new) }

/-- Changes `PAR_DOM_STAT.STATE`, journalled and raised. -/
def State.domState (s : State) (st : Nat) : State :=
  let old := s.get F.parDomStat_STATE []
  if old = st then s else (s.set F.parDomStat_STATE [] st).note (domNote 0 st (Reg.off .parDomStat []) old st)

/-- A join is asked for (R363): from the holder of the lease, at the domain time reference. -/
def State.domAsk (s : State) : State :=
  if ¬ s.holder then s
  else
    let s := { s with dom := { s.dom with askAt := some s.now, join := none, leaveAt := none } }.set F.parDomStat_REFUSE [] 0
    (s.domState 1).emit (.domain (.request s.modId (s.get F.parCfg_PARTNER_ID []) (s.get F.parDomCfg_POS []) (s.get F.frmStat_PERIOD_K [])
      (s.get F.frmStat_EPOCH_M []) (s.get F.parDomCfg_REC_LEN [])))

/-- A leave is asked for (R366): at the next epoch edge for a member, at once for a module that only asks or was refused. -/
def State.domLeaveAsk (s : State) : State :=
  match s.get F.parDomStat_STATE [] with
  | 2 => { s with dom := { s.dom with leaveAt := some (s.dom.leaveAt.getD s.now) } }
  | 0 => s
  | _ => { s with dom := { s.dom with askAt := none, join := none } }.domState 0

/-- A join is refused with a code of Table 15.6. -/
def State.domRefuse (s : State) (code : Nat) : State :=
  ({ s with dom := { s.dom with askAt := none, join := none } }.set F.parDomStat_REFUSE [] code).domState 3

/-- DOMAIN_JOIN_NO_LINK (R363): no domain link came up within 1 s. -/
def execDomainJoinNoLink (t : Tai) (s : State) : Host.Outcome State Fault Refusal :=
  let s := s.at t
  .next (if s.get F.parDomStat_STATE [] = 1 ∧ s.dom.join.isNone ∧ s.dom.links = 0 ∧ s.dom.askAt.any (fun a => decide (a + 1000000000 ≤ t)) then
      s.domRefuse 6 else s)

/-- Active members (Table 15.11). -/
def State.memberCount (s : State) : Nat := ((List.range 16).filter (fun p => s.on F.parDomMemb_PRESENT [p])).length

/-- Whether a position is held by the pair of a module (R363). -/
def State.heldByPair (s : State) (pos modId partner : Nat) : Bool :=
  let m := s.get F.parDomMemb_MODULE [pos]
  s.on F.parDomMemb_PRESENT [pos] && decide (m = modId ∨ m = partner)

/-- The code with which the time reference answers a request (Table 15.6), 0 for admission. A module takes the place that its
pair holds without a further one (R4, R363). -/
def State.admission (s : State) (modId partner pos k m recLen : Nat) : Nat :=
  let wait := s.dom.admits.length
  let dup := fun (p : Nat) => s.on F.parDomMemb_PRESENT [p] && decide (s.get F.parDomMemb_MODULE [p] = modId) &&
    !(decide (p = pos) && s.on F.parDomMemb_LOST [p])
  if 16 ≤ s.memberCount + wait ∧ ¬ s.heldByPair pos modId partner then 1
  else if (List.range 16).any dup then 2
  else if k ≠ s.get F.frmStat_PERIOD_K [] ∨ m ≠ s.get F.frmStat_EPOCH_M [] then 3
  else if (s.on F.parDomMemb_PRESENT [pos] ∧ ¬ s.heldByPair pos modId partner) ∨ s.dom.admits.any (fun a => decide (a.1 = pos)) then 4
  else if recLen ≠ s.get F.parDomCfg_REC_LEN [] then 5
  else 0

/-- DOMAIN_ADMISSION (R363): the answer to the module's own request, or, at the time reference, a member's request. -/
def execDomainAdmission (t : Tai) (m : DomainMsg) (s : State) : Host.Outcome State Fault Refusal :=
  let s := s.at t
  match m with
  | .answer code count epoch =>
    if s.get F.parDomStat_STATE [] ≠ 1 ∨ s.dom.join.isSome then .next s
    else if code ≠ 0 then .next (s.domRefuse code)
    else .next { s with dom := { s.dom with join := some (t, count, epoch), askAt := none } }
  | .request modId partner pos k mm recLen =>
    if s.get F.parDomStat_STATE [] ≠ 2 ∨ ¬ s.on F.parDomStat_REFERENCE [] ∨ 16 ≤ pos then .next s
    else
      let c := s.admission modId partner pos k mm recLen
      let s := if c = 0 then { s with dom := { s.dom with admits := s.dom.admits ++ [(pos, modId, partner, t)] } } else s
      .next (s.emit (.domain (.answer c s.frame (s.get F.frmEpoch_EPOCH []))))

/-- DOMAIN_TIME_EXCHANGE (R60 to R62; notes/assumptions/45.md, 88.md): beyond ±50 ns ALIGN_ERR, beyond ±1 µs a leave at the next epoch edge. -/
def execDomainTimeExchange (t : Tai) (x : DomainTime) (s : State) : Host.Outcome State Fault Refusal :=
  let s := s.at t
  let offset := x.offset
  if s.get F.parDomStat_STATE [] ≠ 2 then .next s
  else
    let s := { s with dom := { s.dom with heard := some x } }
    let was := decide (50 < (s.getI F.parDomStat_OFFSET []).natAbs)
    let s := s.setI F.parDomStat_OFFSET [] (satI 16 offset)
    let s := if 50 < offset.natAbs then s.set F.parDomStat_ALIGN_ERR [] 1 else s
    let s := if 50 < offset.natAbs ∧ ¬ was then
        (s.bump F.parDomStat_ALIGN_CNT [] 1).note (domNote 0 3 (Reg.off .parDomStat []) 0 (unsigned 16 (satI 16 offset))) else s
    .next (if 1000 < offset.natAbs then s.domLeaveAsk else s)

/-- Whether a position's records are stale: its offset to the reference exceeds 1 µs (R62). -/
def State.farPos (s : State) (pos : Nat) : Bool := s.dom.heard.any (fun x => bitAt x.far pos)

/-- A boundary record of a position is heard; one of a misaligned position counts as missing (R62, R364, R366). -/
def State.hear (s : State) (d : List Byte) : State :=
  let id := ofLeBytes (d.take 2)
  let pos := (d.getD 2 0).toNat
  let flags := (d.getD 3 0).toNat
  let epoch := ofLeBytes ((d.drop 4).take 4)
  if 16 ≤ pos ∨ bitAt flags 0 ∨ s.farPos pos then s
  else
    let s := { s with dom := { s.dom with got := s.dom.got ||| 2 ^ pos, missing := Tbl.put s.dom.missing pos 0 } }
    if ¬ s.on F.parDomMemb_PRESENT [pos] then
      if s.dom.admits.any (fun a => decide (a.1 = pos)) then s
      else { s with dom := { s.dom with admits := s.dom.admits ++ [(pos, id, 0, s.now)] } }
    else if s.on F.parDomMemb_LOST [pos] ∧ (id = s.get F.parDomMemb_MODULE [pos] ∨ (id = s.get F.parDomMemb_PARTNER [pos] ∧ 0 < epoch)) then
      { s with dom := { s.dom with back := Tbl.put s.dom.back pos id } }
    else s

/-- A record as it is delivered: one of a misaligned position is flagged EMPTY (R62; notes/assumptions/45.md). -/
def State.fresh (s : State) (d : List Byte) : List Byte :=
  if s.farPos (d.getD 2 0).toNat then d.set 3 (d.getD 3 0 ||| 1#8) else d

/-- A record goes to the oldest buffer posted on its port, truncated to it and counted, and signals its sluice; a tussock under reset
absorbs it (R149, R381). Buffers of one port are served in the order of their posting (DESIGN CHOICE, notes/assumptions/145.md). A
stale record is delivered as an EMPTY one (R62; notes/assumptions/45.md). -/
def State.deliver (s : State) (port : Nat) (rec : List Byte) : State :=
  let d := s.fresh rec
  match s.fab.recv.find? (fun r => decide (r.port = port)) with
  | none => s
  | some r =>
    let s := { s with fab := { s.fab with recv := s.fab.recv.erase r } }
    let s := if r.len < d.length then s.bump F.obsSlu_TRUNC [] 1 else s
    let t := s.tus r.tus
    if t.inReset then (s.bump F.humStat_ABSORB_CNT [hummockOf r.tus] 1).absorbSignal r.slu
    else
      let s := if r.write then s.setTus r.tus { t with sram := Mem.setBytes t.sram r.addr (d.take r.len) } else s
      s.signal (s.clockAt s.now) (hummockOf r.tus) r.slu

/-- The relay passes a record on (R364): the first on P4 goes east, every row record south and north, the first four on P1 south. -/
def State.relayOn (s : State) (port : Nat) (d : List Byte) : State :=
  let i := Tbl.at s.dom.cnt port 0
  let s := { s with dom := { s.dom with cnt := Tbl.put s.dom.cnt port (i + 1) } }
  match port with
  | 3 => let s := if i = 0 then s.relaySend 1 2 d else s; (s.relaySend 2 1 d).relaySend 0 1 d
  | 1 => (s.relaySend 2 1 d).relaySend 0 1 d
  | 0 => if i < 4 then s.relaySend 2 2 d else s
  | _ => s

/-- BOUNDARY_RECORD_ARRIVAL (R149, R364). -/
def execBoundaryRecordArrival (t : Tai) (port : Fin 4) (record : List Byte) (s : State) : Host.Outcome State Fault Refusal :=
  let s := s.at t
  if s.get F.parDomStat_STATE [] ≠ 2 then .next s
  else .next (((s.hear record).relayOn port record).deliver port record)

/-- DOMAIN_LINK_DOWN (R365, R366): from here on records go round the other way. -/
def execDomainLinkDown (t : Tai) (port : Fin 4) (s : State) : Host.Outcome State Fault Refusal :=
  let s := s.at t
  if ¬ bitAt s.dom.links port then .next s
  else
    .next ({ s with dom := { s.dom with links := setBits s.dom.links port 1 0 } }.note (domNote 1 32 (Reg.off .parDomStat []) 1 port))

/-- DOMAIN_LINK_UP (R366). -/
def execDomainLinkUp (t : Tai) (port : Fin 4) (s : State) : Host.Outcome State Fault Refusal :=
  let s := s.at t
  if bitAt s.dom.links port then .next s
  else .next ({ s with dom := { s.dom with links := s.dom.links ||| 2 ^ port.val } }.note (domNote 0 32 (Reg.off .parDomStat []) 0 port))

/-- POSITION_LOST (R366). -/
def execPositionLost (t : Tai) (pos : Fin 16) (s : State) : Host.Outcome State Fault Refusal :=
  let s := s.at t
  .next (if s.on F.parDomMemb_PRESENT [pos.val] ∧ ¬ s.on F.parDomMemb_LOST [pos.val] ∧ pos.val ≠ s.get F.parDomCfg_POS [] then
      ({ s with dom := { s.dom with back := Tbl.del s.dom.back pos } }.set F.parDomMemb_LOST [pos.val] 1).note
        (domNote 0 1 (Reg.off .parDomMemb [pos.val]) 0 1) else s)

/-- Records that did not come are counted at each frame edge (R366). -/
def State.domFrame (s : State) : State :=
  let l := (List.range 16).filter (fun p => s.on F.parDomMemb_PRESENT [p] && decide (p ≠ s.get F.parDomCfg_POS []))
  let m := l.foldl (fun (t : Tbl Nat) p => Tbl.put t p (if bitAt s.dom.got p then 0 else Tbl.at t p 0 + 1)) s.dom.missing
  { s with dom := { s.dom with missing := m, got := 0, cnt := [] } }

/-- Moves every frame number that the state holds when the frame counter jumps (R60). -/
def State.shiftFrames (s : State) (d : Int) : State :=
  let sh := fun (n : Nat) => ((n : Int) + d).toNat
  let p := s.pair
  let pr := s.pln.promo.map (fun (e : Nat × Promo) => (e.1, { e.2 with grantFrom := sh e.2.grantFrom }))
  { s with
    runs := s.runs.map (fun (r : Run) => { r with start := sh r.start })
    lad := { s.lad with last := sh s.lad.last, misses := s.lad.misses.map (fun e => (e.1, e.2.map sh)) }
    pln := { s.pln with startFrom := s.pln.startFrom.map (fun e => (e.1, sh e.2)), promo := pr }
    lpe := { s.lpe with rip := s.lpe.rip.map (fun (e : Nat × Rip) => (e.1, { e.2 with start := sh e.2.start, settled := sh e.2.settled })) }
    hst := { s.hst with lastHb := s.hst.lastHb.map sh, hbFrom := sh s.hst.hbFrom }
    pair := { p with first := p.first.map sh, xs := sh p.xs, releaseX := p.releaseX.map sh, compX := sh p.compX, seenAt := p.seenAt.map sh,
                     handover := p.handover.map sh } }

/-- Sets a position of the membership table. -/
def State.setMember (s : State) (pos modId partner : Nat) : State :=
  (((s.set F.parDomMemb_PRESENT [pos] 1).set F.parDomMemb_LOST [pos] 0).set F.parDomMemb_MODULE [pos] modId).set F.parDomMemb_PARTNER [pos] partner

/-- The least multiple count of `step` that covers `d`. -/
def stepsIn (d step : Nat) : Nat := if step = 0 then 0 else (d + step - 1) / step

/-- The module joins at an epoch edge: it adopts the domain's counters, and the jump is journalled (R60, R363). -/
def State.domJoined (s : State) (a count epoch : Nat) : State :=
  let n := count + stepsIn (s.now - a) s.tF
  let e := (epoch + stepsIn (s.now - a) (s.eLen * s.tF)) % 2 ^ 32
  let old := s.frame
  let s := s.shiftFrames ((n : Int) - (old : Int))
  let s := ((s.set F.frmCount_COUNT [] n).set F.frmEpoch_EPOCH [] e).set F.frmNextEpoch_NEXT [] (n + s.eLen)
  let s := s.note { who := 0, cls := 4, item := 0, obj := Reg.off .frmCount [], old := old, new := n, data := e }
  let s := { s with dom := { s.dom with join := none, missing := [] } }.setMember (s.get F.parDomCfg_POS []) s.modId (s.get F.parCfg_PARTNER_ID [])
  s.domState 2

/-- The module leaves: the membership table empties. -/
def State.domLeft (s : State) : State :=
  let s := (List.range 16).foldl (fun (s : State) p => s.wr .parDomMemb [p] 0) s
  let s := { s with dom := { s.dom with leaveAt := none, admits := [], missing := [], back := [], heard := none } }
  (s.set F.parDomStat_REFERENCE [] 0).domState 0

/-- A LOST position at an epoch edge: it returns with the module that was heard, or leaves (R366). -/
def State.lostEdge (s : State) (p : Nat) : State :=
  if ¬ s.on F.parDomMemb_LOST [p] then s
  else
    match Tbl.find s.dom.back p with
    | none => (s.wr .parDomMemb [p] 0).note (domNote 1 0 (Reg.off .parDomMemb [p]) 1 0)
    | some id =>
      let m := s.get F.parDomMemb_MODULE [p]
      let q := s.get F.parDomMemb_PARTNER [p]
      (s.setMember p id (if id = m then q else m)).note (domNote 0 0 (Reg.off .parDomMemb [p]) 0 1)

/-- The module's own PTP lock (R303). -/
def State.ptpLocked (s : State) : Bool := decide (s.get F.telPtpStat_STATE [] = 2)

/-- Whether a position's member is in PTP lock: the module's own lock, the others' as last heard (R61; notes/assumptions/45.md). -/
def State.memberLocked (s : State) (p : Nat) : Bool :=
  if p = s.get F.parDomCfg_POS [] then s.ptpLocked else s.dom.heard.any (fun x => bitAt x.locked p)

/-- Members and the time reference: the member with the lowest identifier that is in PTP lock, or the lowest of all if none is (R61). -/
def State.domCount (s : State) : State :=
  let l := (List.range 16).filter (fun p => s.on F.parDomMemb_PRESENT [p] && !s.on F.parDomMemb_LOST [p])
  let locked := l.filter s.memberLocked
  let among := if locked.isEmpty then l else locked
  let ref := decide (s.get F.parDomStat_STATE [] = 2) && among.contains (s.get F.parDomCfg_POS []) &&
    among.all (fun p => decide (s.modId ≤ s.get F.parDomMemb_MODULE [p]))
  (s.set F.parDomStat_MEMBERS [] s.memberCount).set F.parDomStat_REFERENCE [] (b2n ref)

/-- Whether a member's period or epoch length from this epoch edge on differs from its domain's (R60; notes/assumptions/88.md). -/
def State.domDiffers (s : State) : Bool :=
  decide (s.get F.parDomStat_STATE [] = 2) && !s.on F.parDomStat_REFERENCE [] &&
    s.dom.heard.any (fun x => decide (x.periodK ≠ s.get F.frmStat_PERIOD_K [] ∨ x.epochM ≠ s.get F.frmStat_EPOCH_M []))

/-- Domain membership and time reference at an epoch edge (Table 2.4, step 3). -/
def State.domEdge (s : State) : State :=
  let s := match s.dom.join with
    | some (a, c, e) => if eligible a s.now s.fab.closed ∧ s.get F.parDomStat_STATE [] = 1 then s.domJoined a c e else s
    | none => s
  let s := if s.dom.leaveAt.any (fun a => eligible a s.now s.fab.closed) ∨ s.domDiffers then s.domLeft else s
  if s.get F.parDomStat_STATE [] ≠ 2 then s.domCount
  else
    let s := (List.range 16).foldl State.lostEdge s
    let due := s.dom.admits.filter (fun a => eligible a.2.2.2 s.now s.fab.closed)
    let s := due.foldl (fun (s : State) a => s.setMember a.1 a.2.1 a.2.2.1) s
    { s with dom := { s.dom with admits := s.dom.admits.filter (fun a => !eligible a.2.2.2 s.now s.fab.closed), back := [] } }.domCount

end Sys2Proof.Machine
end

