-- ==== Sys2Proof/Machine/Resets.lean ====
section
/-!
DEFINITION. Compute resets, the fabric reset and whole-module resets (spec/16_bringup.md R379 to R386), uncorrectable errors and
retirement (spec/03_fabric.md R72, R82, spec/06_plans.md R171), CRITICAL and SHUTDOWN (spec/17_protection.md R407, R408).
-/
namespace Sys2Proof.Machine

/-- A tussock as a reset leaves it: the stores are kept, everything else is cleared (Table 16.6). -/
def Tus.cleared (t : Tus) : Tus :=
  { track := t.track, trackAlt := t.trackAlt, cst := t.cst, cstAlt := t.cstAlt, xfers := t.xfers, overdue := t.overdue, corrected := t.corrected,
    stopped := true, inReset := true }

/-- HBM writes that a tussock issued are completed by the memory controllers (R381). -/
def State.drainWrites (s : State) (t : Nat) : State :=
  let l := (s.tus t).xfers
  let s := l.foldl (fun (s : State) x => if x.kind = 2 ∧ x.write then s.hbmWrite t x.run x.addr x.data else s) s
  s.setTus t { s.tus t with xfers := l.map (fun (x : Xfer) => if x.kind = 2 then { x with write := false } else x) }

/-- Resets a tussock. -/
def State.clearTus (s : State) (t : Nat) : State :=
  let s := s.drainWrites t
  s.setTus t (s.tus t).cleared

/-- A sluice entry at its reset value, with OWNER and CLAIMED kept (Table 16.6). -/
def State.resetSluice (s : State) (i : Nat) : State :=
  let o := s.get F.slu_OWNER [i]
  let c := s.get F.slu_CLAIMED [i]
  ((s.wr .slu [i] 0).set F.slu_OWNER [i] o).set F.slu_CLAIMED [i] c

/-- The sluices of a plan at their reset values. -/
def State.resetSluices (s : State) (q : Plan) : State :=
  q.sluices.foldl (fun (s : State) x => (List.range x.2.1).foldl (fun (s : State) i => s.resetSluice (x.1 + i)) s) s

/-- Runs that use any hummock of a mask are abandoned as by a reset, and their sections end without a miss (R383). -/
def State.resetRuns (s : State) (hum : Nat) : State :=
  let gone := (s.plans.filter (fun q => decide (q.hummocks &&& hum ≠ 0))).map Plan.partition
  let s := s.abandon .reset (fun r => decide (r.plan.hummocks &&& hum ≠ 0))
  let dead := s.rcd.secs.filter (fun e => if e.2.1 then !s.runs.any (fun r => r.old && decide (r.part = e.1)) else gone.contains e.1)
  let s := s.stopTussocks (dead.flatMap (fun e => e.2.2))
  { s with rcd := { s.rcd with secs := s.rcd.secs.filter (fun e => !dead.contains e) } }

/-- Shows in `HUM[h]_STAT` what resets hold hummock h (Table 16.9). -/
def State.humFlags (s : State) (h : Nat) : State :=
  let l := s.rst.objs.filter (fun o => bitAt o.hum h)
  (s.set F.humStat_IN_RESET [h] (b2n (l.any ObjReset.active))).set F.humStat_DRAINING [h] (b2n (l.any (fun o => !o.active)))

/-- IN_RESET and DRAINING of every hummock of a mask. -/
def State.humsFlags (s : State) (hum : Nat) : State := (bitList hum 32).foldl State.humFlags s

/-- The journal entry of a reset, of the safety class (R379, R418): its kind, its hummocks and tussocks. -/
def resetNote (act : Nat) (o : ObjReset) : Note :=
  { who := 0, cls := 0xD, act := act, item := o.kind, obj := Reg.off .humCtrl [((bitList o.hum 32).head?).getD 0], new := o.kind,
    data := o.tussocks.foldl (fun (m : Nat) t => m ||| 2 ^ t) 0, safety := true }

/-- A compute reset is asserted (R381, R383, R384, Table 16.6): a partition reset takes in what is in progress within it. -/
def State.assertReset (s : State) (o : ObjReset) : State :=
  let o := { o with active := true }
  let s := s.resetRuns o.hum
  let keep := s.rst.objs.filter (fun x => !(decide (x.hum &&& o.hum = x.hum) && (decide (o.kind = 2) || !x.active)))
  let s := o.tussocks.foldl State.clearTus { s with rst := { s.rst with objs := keep ++ [o] } }
  let s := if o.kind = 0 then s else (bitList o.hum 32).foldl (fun (s : State) h => s.setHumSram h []) s
  let s := match o.part.bind s.partPlan with
    | some q => s.resetSluices q
    | none => s
  let s := (bitList o.hum 32).foldl (fun (s : State) h => s.bump F.humStat_RESETS [h] 1) s
  (s.humsFlags o.hum).note (resetNote 0 o)

/-- Whether an object is under reset already (R384). -/
def State.resetHolds (s : State) (o : ObjReset) : Bool :=
  s.rst.objs.any (fun x => x.active && decide (o.kind ≤ x.kind) && decide (o.hum &&& x.hum = o.hum) && o.tussocks.all x.tussocks.contains)

/-- Whether a drain request may be accepted (R382). -/
def State.drainMay (s : State) : Bool := s.standby || s.roleActs

/-- A compute reset is requested (R381 to R384): ignored and counted where the object is under reset; a drain inside a domain is done
in absorb mode, which is journalled. -/
def State.requestReset (s : State) (o : ObjReset) : State :=
  if s.resetHolds o then (bitList o.hum 32).foldl (fun (s : State) h => s.bump F.humStat_RESETS [h] 1) s
  else if o.drain ∧ s.get F.parDomStat_STATE [] < 2 then
    { s with rst := { s.rst with objs := s.rst.objs ++ [o] } }.humsFlags o.hum
  else
    let s := if o.drain then s.note (resetNote 6 o) else s
    s.assertReset { o with drain := false }

/-- The object of a hummock reset. -/
def hummockObj (h : Nat) (drain : Bool) : ObjReset :=
  { hum := 2 ^ h, tussocks := (List.range 8).map (fun i => 8 * h + i), part := none, kind := 1, drain := drain, active := false }

/-- The object of a partition reset: the hummock alone where it is idle (Table 16.8). -/
def State.partitionObj (s : State) (h : Nat) (drain : Bool) : ObjReset :=
  match s.plans.find? (fun q => bitAt q.hummocks h) with
  | none => hummockObj h drain
  | some q => { hum := q.hummocks, tussocks := tussocksOf q.hummocks, part := some q.partition, kind := 2, drain := drain, active := false }

/-- A write of `HUM[h]_CTRL` (Table 16.8): the widest reset that it names. -/
def State.humRequest (s : State) (h : Nat) (rst prst drain : Bool) (trst : Nat) : State :=
  if prst then s.requestReset (s.partitionObj h drain)
  else if rst then s.requestReset (hummockObj h drain)
  else
    let l := ((bitList trst 8).map (fun i => 8 * h + i)).filter (fun t => !s.retired t)
    if l.isEmpty then s
    else s.requestReset { hum := 2 ^ h, tussocks := l, part := none, kind := 0, drain := drain, active := false }

/-- DRAIN_RESET_ASSERT (R382): the drains whose partitions have no run left are asserted, after the deadline check of slot 60. -/
def execDrainResetAssert (t : Tai) (s : State) : Host.Outcome State Fault Refusal :=
  let s := s.at t
  .next ((s.rst.objs.filter (fun o => !o.active)).foldl (fun (s : State) o =>
    if s.runs.any (fun r => decide (r.plan.hummocks &&& o.hum ≠ 0)) then s else s.assertReset o) s)

/-- ABSORB (R381): the transfer or signal is counted at its hummock, and the sluice it names absorbs. -/
def execAbsorb (t : Tai) (h : Fin 32) (slu : Option (Fin 8192)) (s : State) : Host.Outcome State Fault Refusal :=
  let s := s.at t
  if ¬ s.on F.humStat_IN_RESET [h] then .next s
  else
    let s := s.bump F.humStat_ABSORB_CNT [h] 1
    .next (match slu with | some i => s.absorbSignal i | none => s)

/-- COMPUTE_RESET_COMPLETE (R383): the resets that hold the hummock end. -/
def execComputeResetComplete (t : Tai) (h : Fin 32) (s : State) : Host.Outcome State Fault Refusal :=
  let s := s.at t
  let gone := s.rst.objs.filter (fun o => o.active && bitAt o.hum h)
  let s := { s with rst := { s.rst with objs := s.rst.objs.filter (fun o => !(o.active && bitAt o.hum h)) } }
  let still := fun (t : Nat) => s.rst.objs.any (fun o => o.active && o.tussocks.contains t)
  .next (gone.foldl (fun (s : State) o =>
    let s := (o.tussocks.filter (fun t => !still t)).foldl (fun (s : State) t => s.setTus t { s.tus t with inReset := false }) s
    (s.humsFlags o.hum).note (resetNote 1 o)) s)

/-- The track and constant stores as the plan set in force fills them. -/
def State.reloadStores (s : State) : State :=
  let s := { s with pln := { s.pln with flips := [] } }
  match s.pln.inForce with
  | none => s
  | some img => (s.plans.flatMap (fun p => tussocksOf p.hummocks)).foldl (fun (s : State) t =>
      s.setTus t { s.tus t with track := tracksOf img t, cst := storeOf img t }) s

/-- The ingest sequencer restarts: its queues and decimation levels (notes/assumptions/54.md). -/
def State.resetIngest (s : State) : State :=
  let s := { s with tel := { s.tel with q0 := [], q1 := [], low := 0 } }
  ((s.set F.telDecStat_LVL1 [] 0).set F.telDecStat_LVL2 [] 0).set F.telDecStat_LVL3 [] 0

/-- A fabric reset begins (R385, Table 16.6): every partition as by a partition reset, the ingest and emit sequencers and the plan checker. -/
def State.fabricResetStart (s : State) : State :=
  if s.rst.fabric then s
  else
    let s := s.abandon .reset (fun _ => true)
    let old := s.rst.objs.foldl (fun (m : Nat) o => m ||| o.hum) 0
    let s := { s with rst := { s.rst with fabric := true, objs := [] }, rcd := { s.rcd with secs := [] } }.humsFlags old
    let s := (s.fab.tus.map Prod.fst).foldl State.clearTus s
    let s := s.plans.foldl State.resetSluices { s with fab := { s.fab with hum := [], hfly := [], recv := [], msgs := [], relAt := [], sends := [] } }
    let s : State := { s with frm := { s.frm with can := [], sealed_ := none } }
    let s := s.resetIngest
    let s := if s.get F.plnStageStatus_STATE [] = 1 then s.emptyStage else s
    (s.reloadStores.bump F.glbCnt_FABRIC_RST [] 1).note
      { who := 0, cls := 0xD, item := 3, obj := Reg.off .glbCnt [], new := s.get F.glbCnt_FABRIC_RST [] + 1, safety := true }

/-- FABRIC_RESET (R385). -/
def execFabricReset (t : Tai) (s : State) : Host.Outcome State Fault Refusal := .next (s.at t).fabricResetStart

/-- FABRIC_RESET_COMPLETE (R385). -/
def execFabricResetComplete (t : Tai) (s : State) : Host.Outcome State Fault Refusal :=
  let s := s.at t
  if ¬ s.rst.fabric then .next s
  else
    let s := (s.fab.tus.map Prod.fst).foldl (fun (s : State) t => s.setTus t { s.tus t with inReset := false }) s
    .next ({ s with rst := { s.rst with fabric := false } }.note
      { who := 0, cls := 0xD, act := 1, item := 3, obj := Reg.off .glbCnt [], new := s.get F.glbCnt_FABRIC_RST [], safety := true })

/-- The power is good and the module is out of reset: start-up begins with phase 1 (R368). -/
def State.startUp (s : State) : State :=
  ({ s with boot := { s.boot with began := some s.now } }.set F.glbStat_PHASE [] 1).set F.glbStat_ERR_N [] 1

/-- A whole-module reset (Table 16.6): only the boot flash, the fuses and the key store stay; the cause is coded as in R424. Start-up follows
where the 54 V input is within its range. -/
def State.wholeReset (s : State) (cause : Nat) : State :=
  let code := if s.get F.prtMcStat_STATE [] = 4 then 3 else cause
  let r := { State.reset with
    pending := s.pending, now := s.now, free := s.free, out := s.out, nv := s.nv, boot := { inserted := s.boot.inserted, peer := s.boot.peer } }.set F.glbStat_RESET_CAUSE [] code
  if cause = 0 then r else r.startUp

/-- RST_N (R386): the companion controller measures the low to ±5 %, so its thresholds of 1 ms and 10 µs are free within that. -/
def execRstN (t : Tai) (lowNs : Nat) (s : State) : Host.Outcome State Fault Refusal :=
  let s := s.at t
  let whole := 950000 + s.drawn % 100001
  let s := s.draw
  let glitch := 9500 + s.drawn % 1001
  let s := s.draw
  if whole ≤ lowNs then .next (s.wholeReset 1)
  else if glitch ≤ lowNs then
    .next (((s.set F.glbStat_RST_GLITCH [] 1).bump F.glbCnt_RST_GLITCH [] 1).note
      { who := 12, cls := 0xD, item := 5, obj := Reg.off .glbStat [], new := 1 })
  else .next s

/-- POWER_LOSS (R460): below 44 V or above 60 V for more than 1 ms the input is lost. -/
def execPowerLoss (t : Tai) (millivolts durationNs : Nat) (s : State) : Host.Outcome State Fault Refusal :=
  let s := s.at t
  .next (if (millivolts < 44000 ∨ 60000 < millivolts) ∧ 1000000 < durationNs then s.wholeReset 0 else s)

/-- CRITICAL (R407): every run in flight is abandoned and none starts. -/
def execCritical (t : Tai) (s : State) : Host.Outcome State Fault Refusal :=
  let s := s.at t
  if s.get F.prtMcStat_STATE [] ≠ 3 ∨ s.rst.crit then .next s
  else
    let s := s.resetRuns (2 ^ 32 - 1)
    .next { s with rst := { s.rst with crit := true } }

/-- SHUTDOWN (R408): the fabric rails are cut, and with them every sequencer of the die. -/
def execShutdown (t : Tai) (s : State) : Host.Outcome State Fault Refusal :=
  let s := s.at t
  let s := s.setCooling 4
  .next (if s.prt.cut.isSome then s
    else { s with prt := { s.prt with cut := some t }, rst := { s.rst with stopped := true }, runs := [], rcd := { s.rcd with secs := [] },
                  frm := { s.frm with sealed_ := none } })

/-- STANDALONE_SHUTDOWN_ACT_RELEASE (R408): DUR_F frames after the cut. -/
def execStandaloneShutdownActRelease (t : Tai) (s : State) : Host.Outcome State Fault Refusal :=
  let s := s.at t
  .next (if s.get F.parStat_ROLE [] = 1 ∧ s.prt.cut.any (fun a => decide (a + s.get F.parCfg_DUR_F [] * s.tF ≤ t)) then s.actFall else s)

/-- A run's partition misses the frame at once (R72, R82, R171): its runs are abandoned as R44 does, all that are in flight, since no rule says
which of them read the word (DESIGN CHOICE, notes/assumptions/144.md); slot 60 counts the miss, or it is counted here where no section of
the partition is left to check. -/
def State.missAtOnce (s : State) (p : Nat) : State :=
  let secs := s.rcd.secs.filter (fun e => decide (e.1 = p))
  let s := (s.stopTussocks (secs.flatMap (fun e => e.2.2))).abandon .miss (fun r => decide (r.part = p))
  if ¬ secs.isEmpty then { s with rcd := { s.rcd with missNow := s.rcd.missNow ||| 2 ^ p } }
  else if bitAt s.rcd.missed p then s
  else
    match s.partPlan p with
    | none => s
    | some q =>
      let s := (s.bump F.obsPart0_MISS [p] 1).ladderMiss q
      { s with rcd := { s.rcd with missed := s.rcd.missed ||| 2 ^ p } }

/-- `OBS_UE` and the journal entry of an uncorrectable error (R72, R82). -/
def State.uncorrected (s : State) (kind addr : Nat) : State :=
  (((s.set F.obsUe_ADDR [] addr).set F.obsUe_KIND [] kind).bump F.obsUe_COUNT [] 1).note
    { who := 0, cls := 0xD, item := 8 + kind, obj := Reg.off .obsUe [], new := addr }

/-- Unplanned retirement (R171): the tussock stops at once, its partition misses and is held from the next frame edge. -/
def State.retireNow (s : State) (t : Nat) : State :=
  if s.retired t then s
  else
    let s := (s.stopTussocks [t]).retire t
    match s.plans.find? (fun q => bitAt q.hummocks (hummockOf t)) with
    | none => s
    | some q =>
      let s := s.missAtOnce q.partition
      { s with pln := { s.pln with holds := Tbl.put s.pln.holds q.partition s.now } }

/-- UNCORRECTABLE_ERROR (R72, R82, R171). -/
def execUncorrectableError (t : Tai) (site : ErrSite) (s : State) : Host.Outcome State Fault Refusal :=
  let s := s.at t
  match site with
  | .localSram i off => .next ((s.uncorrected 1 (off % 2 ^ 21 + 2 ^ 21 * i.val)).retireNow i.val)
  | .store i => .next ((s.bump F.obsUe_COUNT [] 1).retireNow i.val)
  | .hummockSram h off p => .next ((s.uncorrected 2 (off % 2 ^ 22 + 2 ^ 22 * h.val)).missAtOnce p.val)
  | .hbm a p => .next ((s.uncorrected 3 (a % 2 ^ 38 / 4096 * 4096)).missAtOnce p.val)

/-- CORRECTED_ERROR (R72): counted, for the tussock too where it is a tussock's. -/
def execCorrectedError (t : Tai) (tus : Option (Fin 256)) (s : State) : Host.Outcome State Fault Refusal :=
  let s := (s.at t).bump F.obsMem_SRAM_CE [] 1
  .next (match tus with
    | some i => s.setTus i { s.tus i with corrected := (s.tus i).corrected + 1 }
    | none => s)

/-- HBM_REREAD (R82). -/
def execHbmReread (t : Tai) (s : State) : Host.Outcome State Fault Refusal := .next ((s.at t).bump F.obsMem_HBM_RR [] 1)

/-- RETIREMENT_LOG_WRITE (R376): the physical position of a retired tussock goes to the log in boot flash. -/
def execRetirementLogWrite (t : Tai) (tus : Fin 256) (s : State) : Host.Outcome State Fault Refusal :=
  let s := s.at t
  let pos := bits (s.get F.humMap_LOG [hummockOf tus]) (4 * (tus.val % 8)) 4
  let e := 9 * hummockOf tus + pos
  .next (if s.retired tus ∧ pos ≤ 8 ∧ ¬ s.nv.log.contains e then { s with nv := { s.nv with log := s.nv.log ++ [e] } } else s)

end Sys2Proof.Machine
end

