-- ==== Sys2Proof/Machine/Access.lean ====
section
/-!
DEFINITION. Register writes in general (spec/20_registers.md R444 to R447, spec/18_journal.md R425, R426): the register at an offset,
the privilege class that covers it, locks, and the value that a write leaves field by field.
-/
namespace Sys2Proof.Machine

/-- The indices under which strides reach a distance exactly. -/
def indicesAt : List (Nat × Nat) → Nat → Option (List Nat)
  | [], d => if d = 0 then some [] else none
  | (st, n) :: r, d => if d / st < n then (indicesAt r (d % st)).map (fun l => d / st :: l) else none

/-- The indices by which a register lies at an offset, if it does. -/
def Reg.indexAt (r : Reg) (off : Nat) : Option (List Nat) := if off < r.base then none else indicesAt r.dims (off - r.base)

/-- The register at an offset (R445). -/
def Reg.lookup (off : Nat) : Option (Reg × List Nat) := Reg.all.findSome? (fun r => (r.indexAt off).map (fun i => (r, i)))

/-- Privilege classes of Table 18.6, as bits. -/
def pOperate : Nat := 1
def pConfigure : Nat := 2
def pProtect : Nat := 4
def pKeys : Nat := 16

/-- The classes that a write of a register needs (Table 18.6, R447). -/
def Reg.classes (r : Reg) : Nat :=
  match r with
  | .frmCfg | .frmTaiNs | .plnLadderCfg | .parCfg | .parTol | .parDomCfg => pConfigure
  | .jrnCfg => pKeys
  | .telDestCfg | .telDestHi | .telDestLo => pOperate
  | .lpeStbl | .lpeCtrl | .lpeRplCtrl | .drvZone | .pioDoutCfg => pProtect
  | .pioAoutCfg => pConfigure ||| pProtect
  | .prtCtrl | .stmLo | .stmHi => pOperate
  | _ =>
    let a := r.base
    if a < 0x40000 then pOperate
    else if a < 0x50000 then 0
    else if a < 0x70000 then pConfigure
    else if a < 0x100000 then pOperate
    else if a < 0x1B0000 then pConfigure
    else if a < 0x1C0000 then pProtect
    else if a < 0x400000 then pConfigure
    else 0

/-- Whether the LK fields of a register are locked (R12): its owning object is armed. -/
def State.locked (s : State) (r : Reg) (idx : List Nat) : Bool :=
  match r with
  | .lpeChCfg | .lpeChxFb => s.on F.lpeChCfg_MODE idx
  | .lpeRplCfg | .lpeRplAmp => s.on F.lpeRplCfg_ARM idx
  | .drvPmpCfg | .drvPmpMotor | .drvPmpMotor2 => s.on F.drvPmpCfg_EN idx
  | .drvFanCfg | .drvFanLim => s.on F.drvFanCfg_EN idx
  | .fbCfg | .fbBt => s.on F.fbCfg_EN idx
  | .pioTinCfg => s.on F.pioTinCfg_EN idx
  | .pioLeakCfg => s.on F.pioLeakCfg_EN idx
  | .prtTripCfg | .prtTripLim | .prtTripHys => s.on F.prtTripCfg_EN idx
  | .prtRespCfg | .prtRespRacks | .prtRespDrv | .prtRespOut => s.on F.prtRespCfg_EN idx
  | .prtRespNodes => s.on F.prtRespCfg_EN (idx.take 1)
  | .hstRingBase | .hstRingCfg | .hstRingWb => s.on F.hstRingCfg_EN idx
  | .parDomCfg => s.on F.parDomCfg_EN idx
  | _ => false

/-- The bits of a field. -/
def Fld.mask (f : Fld) : Nat := (2 ^ f.width - 1) * 2 ^ f.lo

/-- The bits of a register that an origin of rank 2 or 3 may write (R425): every writable field; RM_LIMIT is MGMT's alone (R340). -/
def Reg.writable (r : Reg) : Nat := r.fields.foldl (fun (m : Nat) f => if f.acc = .ro then m else m ||| f.mask) 0

/-- Indices at which a field of the block is RO: the host makes entries of ring 0 alone, the module those of the others (Table 14.13). -/
def Fld.readOnlyAt (f : Fld) (idx : List Nat) : Bool :=
  (decide (f.reg = .hstRingProd) && decide (idx ≠ [0])) || (decide (f.reg = .hstRingCons) && decide (idx = [0]))

/-- A field after a write of `v` with a mask of the fields that the write has (R12); a class P channel ignores a gain table (Table
9.11). RM_LIMIT, which no host write has, is written where a write has it (R340). -/
def State.fieldAfter (s : State) (idx : List Nat) (mask v : Nat) (f : Fld) : Nat :=
  let old := s.get f idx
  let new := bits v f.lo f.width
  if mask &&& f.mask = 0 then old
  else
    match f.acc with
    | .ro => if f = F.capRack_RM_LIMIT then new else old
    | .rw => if (f.reg = .lpeChGtb ∧ ¬ s.on F.lpeChCfg_CLASS idx) ∨ f.readOnlyAt idx then old else new
    | .lk => if s.locked f.reg idx then old else new
    | .w1c => old - (old &&& new)
    | .wo => 0

/-- The word that a write leaves in a register. -/
def State.wordAfter (s : State) (r : Reg) (idx : List Nat) (mask v : Nat) : Nat :=
  r.fields.foldl (fun (w : Nat) f => setBits w f.lo f.width (s.fieldAfter idx mask v f)) (s.rd r idx)

/-- The offset of a write. -/
def Wr.off (w : Wr) : Nat := w.reg.off w.idx

/-- The value that a write asks for in a field: what it brings where it has the field, else what stands. -/
def State.asks (s : State) (w : Wr) (f : Fld) : Nat := if w.mask &&& f.mask = 0 then s.get f w.idx else bits w.val f.lo f.width

/-- The state with only the fields of a write changed. -/
def State.wrote (s : State) (w : Wr) : State := s.wr w.reg w.idx (s.wordAfter w.reg w.idx w.mask w.val)

/-- The state with its registers as the accepted writes leave them, those that wait for the frame edge among them (R52). -/
def State.held (s : State) : State := s.acs.later.foldl State.wrote s

/-- Registers of configuration whose accepted changes take effect at the next frame edge (R52): those of the OBS, TEL, STM, FB, PIO and
PRT blocks, but for `PRT_CTRL` (R400) and the acceptance filters (R272). Loop engine and drive registers wait for their sample (R227,
R264), budgets for slot 60 (R186), and the rest have rules of their own (notes/assumptions/57.md). -/
def Reg.framed (r : Reg) : Bool :=
  let a := r.base
  decide ((0x50000 ≤ a ∧ a < 0x70000) ∨ (0x160000 ≤ a ∧ a < 0x1C0000) ∨ 0x1000000 ≤ a) &&
  r.fields.any (fun f => match f.acc with | .rw | .lk => true | _ => false) &&
  (match r with
   | .prtCtrl | .fbFltId | .fbFltMask => false
   | _ => true)

/-- Whether a change of a register waits for the next frame edge: while frames run. -/
def State.waits (s : State) (r : Reg) : Bool := r.framed && s.on F.frmStat_RUNNING [] && !s.rst.stopped

/-- Whether a write sets a WO field. -/
def Wr.acts (w : Wr) (f : Fld) : Bool := decide (w.mask &&& f.mask ≠ 0) && decide (bits w.val f.lo f.width ≠ 0)

end Sys2Proof.Machine
end

