-- ==== Sys2Proof/Machine/Refuse.lean ====
section
/-!
DEFINITION. The values that the description of a register refuses (R446), block by block. A locked field keeps its value whatever a
write brings, so it is the value it keeps that is looked at.
-/
namespace Sys2Proof.Machine

/-- The value that a write would leave in a field. -/
def State.leaves (s : State) (w : Wr) (f : Fld) : Nat := s.fieldAfter w.idx w.mask w.val f

/-- The same, as two's complement. -/
def State.leavesI (s : State) (w : Wr) (f : Fld) : Int := signed f.width (s.leaves w f)

/-- Whether an index is beyond the range of a source kind of Table 9.1; kind 0 is not checked. -/
def sourceBeyond (kind idx : Nat) : Bool :=
  match kind with
  | 1 => decide (64 ≤ idx)
  | 2 => decide (32 ≤ idx)
  | 3 => decide (256 ≤ idx)
  | 4 => decide (12 ≤ idx)
  | _ => false

/-- The same for an actuator kind. -/
def actuatorBeyond (kind idx : Nat) : Bool :=
  match kind with
  | 1 => decide (4 ≤ idx)
  | 2 => decide (16 ≤ idx)
  | 3 => decide (16 ≤ idx)
  | 4 => decide (1024 ≤ idx)
  | _ => false

/-- Whether R225 or R268 forbids a channel its actuator. -/
def State.bindingBad (s : State) (n kind idx : Nat) : Bool :=
  match kind with
  | 1 => (s.binders 1 idx).any (fun c => decide (c ≠ n))
  | 3 => (s.binders 3 idx).any (fun c => decide (c ≠ n)) || s.anySet (fun p => planClaims p 4 idx)
  | 4 =>
    let o := [idx / 256, idx % 256]
    (s.binders 4 idx).any (fun c => decide (c ≠ n)) || s.anySet (fun p => planClaimsObj p (idx / 256) (idx % 256)) ||
    decide (s.get F.fbMoCfg_DIR o ≠ 1) || !s.on F.fbMoCfg_FDF o
  | _ => false

/-- Whether a gain table is strictly ascending (R233). -/
def State.gainTableOk (s : State) (t : Nat) : Bool := ascending (s.points F.lpeGtbl_E F.lpeGtbl_G t 64)

/-- A write of `LPE_CH[n]_CFG` (Table 9.6). -/
def State.chCfgBad (s : State) (w : Wr) : Bool :=
  let n := w.idx.headD 0
  let v := s.leaves w
  let ak := v F.lpeChCfg_ACT_KIND
  let fk := v F.lpeChCfg_FB_KIND
  let sk := v F.lpeChCfg_SCHED_KIND
  decide (5 ≤ v F.lpeChCfg_MODE ∨ v F.lpeChCfg_FAULT_ACT = 3) ||
  (decide (s.get F.lpeChCfg_MODE w.idx = 0 ∧ v F.lpeChCfg_MODE ≠ 0) &&
    (decide (s.getI F.lpeChTlim_TMAX w.idx < s.getI F.lpeChTlim_TMIN w.idx ∨ s.getI F.lpeChUlim_UMAX w.idx < s.getI F.lpeChUlim_UMIN w.idx) ||
     decide (5 ≤ ak ∨ 5 ≤ fk ∨ 5 ≤ sk) || sourceBeyond fk (v F.lpeChCfg_FB_IDX) || sourceBeyond sk (v F.lpeChCfg_SCHED_IDX) ||
     actuatorBeyond ak (v F.lpeChCfg_ACT_IDX) || s.bindingBad n ak (v F.lpeChCfg_ACT_IDX) ||
     (s.on F.lpeChCfg_CLASS w.idx && !s.gainTableOk (s.get F.lpeChGtb_TBL w.idx))))

/-- A single-point write to a safe table that its channel is using (R245). -/
def State.safeTableBad (s : State) (w : Wr) (whole : Nat → Bool) : Bool :=
  let n := w.idx.headD 0
  s.on F.lpeChCfg_MODE [n] && !whole n &&
  (s.on F.lpeChStat_ON_SAFE [n] || (s.on F.lpeChStat_FAULTED [n] && decide (s.get F.lpeChCfg_FAULT_ACT [n] = 1) && !(s.chan n).lost))

/-- First frame, last frame and settling end of a ripple, after its epoch edge. -/
def State.rippleSpan (s : State) (i : Nat) : Nat × Nat × Nat :=
  let st := s.get F.lpeRplCfg_START [i]
  (st, st + s.rippleDur i, st + s.rippleDur i + s.get F.lpeRplAmp_SETTLE [i])

/-- Whether a descriptor would start in the SETTLE of an aborted one of its GROUP, which still applies though it may be disarmed (R210). -/
def State.inSettle (s : State) (i : Nat) : Bool :=
  let start := s.get F.frmNextEpoch_NEXT [] - s.eLen + s.get F.lpeRplCfg_START [i]
  decide (s.frame ≤ start) && (List.range 32).any (fun j =>
    decide (j ≠ i ∧ (s.ripple j).st = 3 ∧ start < (s.ripple j).settled ∧ s.get F.lpeRplCfg_GROUP [j] = s.get F.lpeRplCfg_GROUP [i]))

/-- The arm checks of R208, on a state that holds the descriptor as written. -/
def State.armBad (s : State) (i : Nat) : Bool :=
  let ch := s.get F.lpeRplCfg_CH [i]
  let (st, en, se) := s.rippleSpan i
  let span := s.getI F.lpeChTlim_TMAX [ch] - s.getI F.lpeChTlim_TMIN [ch]
  let amp := s.getI F.lpeRplAmp_AMP [i]
  let dur := s.rippleDur i
  let shape := s.get F.lpeRplCfg_SHAPE [i]
  let others := (List.range 32).filter (fun j => decide (j ≠ i) && s.on F.lpeRplCfg_ARM [j])
  let grp := s.get F.lpeRplCfg_GROUP [i]
  decide (amp ≤ 0 ∨ span * s.get F.lpeRplCtrl_AMP_PERMIL [] < 1000 * amp) || decide (2 ≤ shape) || decide (shape = 0 ∧ dur % 2 = 1) ||
  decide (shape = 1 ∧ dur ≠ 31 * 2 ^ s.get F.lpeRplCfg_BITLEN [i]) || decide (s.eLen < se) ||
  others.any (fun j => decide (s.get F.lpeRplCfg_CH [j] = ch ∧ s.get F.lpeRplCfg_GROUP [j] ≠ grp)) ||
  others.any (fun j => decide (s.get F.lpeRplCfg_GROUP [j] = grp) && (let x := s.rippleSpan j; decide (x.1 < se ∧ st < x.2.2))) ||
  (List.range dur).any (fun k =>
    decide (4 < 1 + (others.filter (fun j => let x := s.rippleSpan j; decide (x.1 ≤ st + k ∧ st + k < x.2.1))).length)) ||
  decide (en < st) || s.inSettle i

/-- Loop engine registers (Tables 8.6 to 8.8, 9.6 to 9.21). -/
def State.lpeBad (s : State) (w : Wr) (whole : Nat → Bool) : Bool :=
  match w.reg with
  | .lpeChCfg => s.chCfgBad w
  | .lpeChTlim => decide (s.leavesI w F.lpeChTlim_TMAX < s.leavesI w F.lpeChTlim_TMIN)
  | .lpeChUlim => decide (s.leavesI w F.lpeChUlim_UMAX < s.leavesI w F.lpeChUlim_UMIN)
  | .lpeChGtb => s.on F.lpeChCfg_CLASS w.idx && !s.gainTableOk (s.leaves w F.lpeChGtb_TBL)
  | .lpeGtbl => (List.range 256).any (fun n => s.on F.lpeChCfg_CLASS [n] && s.on F.lpeChCfg_MODE [n] && decide (s.get F.lpeChGtb_TBL [n] = w.idx.headD 0))
  | .lpeStbl => s.safeTableBad w whole
  | .lpeCtrl => decide (s.leaves w F.lpeCtrl_SIL_F = 0)
  | .lpeRplCtrl => decide (0x32 < s.leaves w F.lpeRplCtrl_AMP_PERMIL)
  | .lpeRplCfg => decide (s.leaves w F.lpeRplCfg_ARM = 1) && (s.wrote w).armBad (w.idx.headD 0)
  | _ => false

/-- Whether resonance bands are refused (Table 10.9, R257). -/
def bandsBad (lo0 hi0 lo1 hi1 : Nat) : Bool :=
  decide (10000 < lo0 ∨ 10000 < hi0 ∨ 10000 < lo1 ∨ 10000 < hi1 ∨ (lo0 < hi0 ∧ lo1 < hi1 ∧ lo0 < hi1 ∧ lo1 < hi0))

/-- Drive registers (Tables 10.5 to 10.18, R264). -/
def State.drvBad (s : State) (w : Wr) : Bool :=
  let v := s.leaves w
  match w.reg with
  | .drvPmpCfg =>
    decide (v F.drvPmpCfg_F_SW < 4 ∨ 32 < v F.drvPmpCfg_F_SW ∨ v F.drvPmpCfg_DEADT < 0x0A ∨ 0xC8 < v F.drvPmpCfg_DEADT ∨ v F.drvPmpCfg_POLES = 0 ∨
            v F.drvPmpCfg_ACC_MAX = 0) ||
    (decide (v F.drvPmpCfg_EN = 1) && (!s.on F.drvPmpMotor_I_MAX w.idx || !s.on F.drvPmpMotor_N_RATED w.idx))
  | .drvPmpMotor => decide (8 * v F.drvPmpMotor_I_FS < 10 * v F.drvPmpMotor_I_MAX)
  | .drvPmpBand => bandsBad (v F.drvPmpBand_LO0) (v F.drvPmpBand_HI0) (v F.drvPmpBand_LO1) (v F.drvPmpBand_HI1)
  | .drvFanBand => bandsBad (v F.drvFanBand_LO0) (v F.drvFanBand_HI0) (v F.drvFanBand_LO1) (v F.drvFanBand_HI1)
  | .drvFanCfg =>
    decide (v F.drvFanCfg_POLES = 0 ∨ v F.drvFanCfg_ACC_MAX = 0) ||
    (decide (v F.drvFanCfg_EN = 1) && (!s.on F.drvFanLim_I_MAX w.idx || !s.on F.drvFanLim_N_RATED w.idx))
  | .drvFanLim => decide (0x258 < v F.drvFanLim_I_MAX ∨ v F.drvFanLim_SPD_MIN < 0x3E8 ∨ 0x2710 < v F.drvFanLim_SPD_MIN)
  | .drvFanTach => decide (v F.drvFanTach_TACH_TOL = 0 ∨ v F.drvFanTach_TACH_TIME = 0)
  | .drvZone => decide (0x2710 < v F.drvZone_SAFE)
  | _ => false

/-- The identifier of a message object as the bus compares it. -/
def moIdent (ide id : Nat) : Nat := if ide = 1 then 2 ^ 29 + id else id % 2048

/-- Field bus registers (Tables 11.7 to 11.15, R267, R281). -/
def State.fbBad (s : State) (w : Wr) : Bool :=
  let v := s.leaves w
  let b := w.idx.headD 0
  match w.reg with
  | .fbCfg => decide (v F.fbCfg_BOFF_HOLD = 0)
  | .fbBeat => decide (v F.fbBeat_BEAT_MS = 0 ∨ 1000 < v F.fbBeat_BEAT_MS)
  | .fbFltId => decide (5 ≤ v F.fbFltId_ACT)
  | .fbPvalBind =>
    decide ((v F.fbPvalBind_EN = 1 ∧ v F.fbPvalBind_NODE = 0) ∨ v F.fbPvalBind_SLOT = 3 ∨ v F.fbPvalBind_AGE_MS = 0) ||
    (decide (s.wordAfter w.reg w.idx w.mask w.val ≠ s.rd w.reg w.idx) &&
      (List.range 256).any (fun n => s.on F.lpeChCfg_MODE [n] &&
        (decide (s.get F.lpeChCfg_FB_KIND [n] = 3 ∧ s.get F.lpeChCfg_FB_IDX [n] = b) ||
         decide (s.get F.lpeChCfg_SCHED_KIND [n] = 3 ∧ s.get F.lpeChCfg_SCHED_IDX [n] = b))))
  | .fbMoCfg =>
    let m := w.idx.getD 1 0
    let ident := moIdent (v F.fbMoCfg_IDE) (v F.fbMoCfg_ID)
    decide (v F.fbMoCfg_DIR = 3) || s.anySet (fun p => planClaimsObj p b m) || !(s.binders 4 (256 * b + m)).isEmpty ||
    (decide (v F.fbMoCfg_DIR = 1) && (List.range 256).any (fun k =>
      decide (k ≠ m ∧ s.get F.fbMoCfg_DIR [b, k] = 1 ∧ moIdent (s.get F.fbMoCfg_IDE [b, k]) (s.get F.fbMoCfg_ID [b, k]) = ident)))
  | _ => false

/-- Plant input and output registers (Tables 12.8 to 12.12, R298). -/
def State.pioBad (s : State) (w : Wr) : Bool :=
  let v := s.leaves w
  let i := w.idx.headD 0
  match w.reg with
  | .pioTinCfg => decide (v F.pioTinCfg_TYPE = 3)
  | .pioAoutCfg =>
    let x := s.leavesI w F.pioAoutCfg_SAFE
    let out := match v F.pioAoutCfg_MODE with
      | 1 => decide (x < 0 ∨ 10 * 65536 < x)
      | 2 => decide (x < 4 * 65536 ∨ 20 * 65536 < x)
      | _ => decide (x < 0 ∨ 20 * 65536 < x)
    decide (v F.pioAoutCfg_MODE = 3) || out || s.anySet (fun p => planClaims p 4 i) || !(s.binders 3 i).isEmpty
  | .pioLeakCfg =>
    decide ((v F.pioLeakCfg_EN = 1 ∧ v F.pioLeakCfg_LEN = 0) ∨ 1500 < v F.pioLeakCfg_LEN ∨ v F.pioLeakCfg_WET_KOHM = 0 ∨ v F.pioLeakCfg_CONFIRM = 0)
  | _ => false

/-- Whether an index is beyond the range of a comparator's source kind (Table 17.1). -/
def tripBeyond (kind idx : Nat) : Bool :=
  match kind with
  | 1 => decide (64 ≤ idx)
  | 2 | 6 => decide (32 ≤ idx)
  | 4 | 5 => decide (12 ≤ idx)
  | 7 => decide (16 ≤ idx)
  | _ => false

/-- Protection registers (Tables 17.6 to 17.9). -/
def State.prtBad (s : State) (w : Wr) : Bool :=
  let v := s.leaves w
  match w.reg with
  | .prtTripCfg =>
    decide ((v F.prtTripCfg_EN = 1 ∧ v F.prtTripCfg_KIND = 0) ∨ 60000 < v F.prtTripCfg_QUAL_MS) || tripBeyond (v F.prtTripCfg_KIND) (v F.prtTripCfg_IDX)
  | .prtTripLim => decide (s.leavesI w F.prtTripLim_HI < s.leavesI w F.prtTripLim_LO)
  | .prtTripHys => decide (s.leavesI w F.prtTripHys_HYS < 0)
  | .prtRespCfg =>
    (decide (v F.prtRespCfg_EN = 0) && bitAt (s.get F.prtStat_HOLD []) (w.idx.headD 0)) ||
    decide (v F.prtRespCfg_PCAP = 3 ∨ v F.prtRespCfg_PCAP_PCT = 0 ∨ 100 < v F.prtRespCfg_PCAP_PCT ∨ v F.prtRespCfg_HOLD_MS = 0 ∨ v F.prtRespCfg_SEV = 3)
  | .prtRespDrv => decide (10000 < v F.prtRespDrv_PSPD ∨ 10000 < v F.prtRespDrv_FSPD)
  | .prtMcCfg =>
    decide (v F.prtMcCfg_LOST_C ≤ v F.prtMcCfg_WARN_C ∨ v F.prtMcCfg_CRIT_C ≤ v F.prtMcCfg_LOST_C ∨ 120 < v F.prtMcCfg_CRIT_C ∨
            v F.prtMcCfg_INLET_C < 20 ∨ 70 < v F.prtMcCfg_INLET_C ∨ 10000 < v F.prtMcCfg_AUX_SPD ∨ 10000 < v F.prtMcCfg_AUX_IDLE)
  | _ => false

/-- Telemetry, budget and stream registers (Tables 7.9 to 7.14, 13.5, 13.8 to 13.14, R308). -/
def State.telBad (s : State) (w : Wr) : Bool :=
  let v := s.leaves w
  match w.reg with
  | .telPortCfg =>
    decide ((v F.telPortCfg_VLAN_EN = 1 ∧ (v F.telPortCfg_VID = 0 ∨ 4094 < v F.telPortCfg_VID)) ∨ v F.telPortCfg_MTU < 1280 ∨ 9000 < v F.telPortCfg_MTU)
  | .telPtpCfg => decide (127 < v F.telPtpCfg_DOMAIN)
  | .telIngCfg => decide (v F.telIngCfg_UDP_PORT = 319 ∨ v F.telIngCfg_UDP_PORT = 320)
  | .telDestCfg => decide (v F.telDestCfg_EN = 1 ∧ v F.telDestCfg_ETH0 = 0 ∧ v F.telDestCfg_ETH1 = 0)
  | .stmLo =>
    moduleStream (w.idx.headD 0) || decide (v F.stmLo_EN = 1 ∧ (v F.stmLo_PERIOD = 0 ∨ v F.stmLo_T_STALE = 0))
  | .capCfg => decide (v F.capCfg_LEASE_F < 4 ∨ 4096 < v F.capCfg_LEASE_F)
  | .capPkgLim => decide (v F.capPkgLim_CAP_MAX < v F.capPkgLim_CAP_MIN)
  | .capPkgRamp => decide (v F.capPkgRamp_RAMP_DN = 0 ∨ v F.capPkgRamp_RAMP_UP = 0)
  | _ => false

/-- An admitted join can no longer be withdrawn (R53, R363). -/
def State.joinFixed (s : State) : Bool := s.dom.join.any (fun j => s.pastPoint j.1)

/-- Host, observation and pairing registers (Tables 14.12, 14.13, 15.8, 15.10, 19.5; R354, R360). -/
def State.parBad (s : State) (w : Wr) : Bool :=
  let v := s.leaves w
  match w.reg with
  | .hstHbCfg => decide (v F.hstHbCfg_TIMEOUT_F = 0)
  | .hstRingCfg => decide (v F.hstRingCfg_LOG2 < 6 ∨ 16 < v F.hstRingCfg_LOG2 ∨ v F.hstRingCfg_THRESH = 0)
  | .obsCfg => decide (v F.obsCfg_TRACE_MAX = 0)
  | .parCfg =>
    decide (v F.parCfg_DUR_F < 2 ∨ 16 < v F.parCfg_DUR_F ∨ v F.parCfg_GUARD_F = 0 ∨ 16 < v F.parCfg_GUARD_F ∨ v F.parCfg_ELIG_F < 16 ∨
            v F.parCfg_EXER_DAYS = 0 ∨ 365 < v F.parCfg_EXER_DAYS)
  | .parTol => decide (s.leavesI w F.parTol_TOL < 0) || decide (v F.parTol_PERSIST = 0)
  | .parCtrl => (w.acts F.parCtrl_HANDOVER && !s.handoverMay) || (w.acts F.parCtrl_DOM_LEAVE && s.joinFixed)
  | .parDomCfg => s.on F.parDomCfg_EN [] && decide (v F.parDomCfg_EN = 0) && s.joinFixed
  | .parExer => w.acts F.parExer_GO && !s.on F.parExer_BUSY [] && !s.exerMay
  | _ => false

/-- A change of a pending value that comes after the point of R53. -/
def State.lateChange (s : State) (p : Option (Nat × Nat)) (old new : Nat) : Bool := decide (old ≠ new) && p.any (fun e => s.pastPoint e.2)

/-- Writes of `PLN_PLACE_REQ` that change a pending request after the point of R53. -/
def State.placeReqBad (s : State) (w : Wr) : Bool :=
  let old := s.rd .plnPlaceReq []
  let new := s.wordAfter w.reg w.idx w.mask w.val
  (List.range 8).any (fun p => decide (bits old (4 * p) 3 ≠ bits new (4 * p) 3) && (Tbl.find s.pln.placeAt p).any s.pastPoint)

/-- Writes of `PLN_RETIRE_REQ[w]` that Table 20.9 refuses. -/
def State.retireReqBad (s : State) (w : Wr) : Bool :=
  let k := w.idx.headD 0
  let old := s.rd .plnRetireReq w.idx
  let new := s.wordAfter w.reg w.idx w.mask w.val
  (List.range 64).any (fun i =>
    (!bitAt old i && bitAt new i && s.retired (64 * k + i)) ||
    (bitAt old i && !bitAt new i && (Tbl.find s.pln.retireAt (64 * k + i)).any s.pastPoint))

/-- Whether a write of `PLN_ARM` is refused: by its withdrawal, or by the arm checks (Table 20.9, R53, R160). -/
def State.armWriteBad (s : State) (w : Wr) : Bool :=
  if w.acts F.plnArm_WITHDRAW then decide (s.get F.plnStageStatus_STATE [] = 5) && !s.withdrawMay
  else (s.armRefusal (s.leaves w F.plnArm_TARGET)).isSome

/-- Frame and plan registers (Tables 6.7, 8.12, 20.6, 20.8, 20.9). -/
def State.plnBad (s : State) (w : Wr) : Bool :=
  let v := s.leaves w
  match w.reg with
  | .plnLadderCfg => decide (v F.plnLadderCfg_DN_M = 0 ∨ v F.plnLadderCfg_DN_WLOG = 0 ∨ v F.plnLadderCfg_UP_LOG < 4 ∨ v F.plnLadderCfg_PROB_LOG < 4)
  | .plnPromoCtrl =>
    (w.acts F.plnPromoCtrl_DEMOTE_W && !s.on F.plnPromoStat_PREV_VALID [0]) || (w.acts F.plnPromoCtrl_DEMOTE_C && !s.on F.plnPromoStat_PREV_VALID [1]) ||
    (w.acts F.plnPromoCtrl_WITHDRAW_W && s.promoLate 0) || (w.acts F.plnPromoCtrl_WITHDRAW_C && s.promoLate 1)
  | .plnPlaceReq => s.placeReqBad w
  | .plnRetireReq => s.retireReqBad w
  | .plnArm => s.armWriteBad w
  | .frmCfg =>
    decide (v F.frmCfg_PERIOD_K = 7 ∨ v F.frmCfg_EPOCH_M < 4 ∨ 12 < v F.frmCfg_EPOCH_M) ||
    s.lateChange s.pln.period (s.get F.frmCfg_PERIOD_K []) (v F.frmCfg_PERIOD_K) ||
    s.lateChange s.pln.epochLen (s.get F.frmCfg_EPOCH_M []) (v F.frmCfg_EPOCH_M) ||
    (w.acts F.frmCfg_TIME_SET && (decide (s.get F.telPtpStat_STATE [] = 2) || s.on F.frmStat_RUNNING [] || !s.tel.taiWritten))
  | .frmTaiNs => s.on F.frmStat_RUNNING []
  | .humCtrl => w.acts F.humCtrl_DRAIN && (w.acts F.humCtrl_RST || w.acts F.humCtrl_PRST || w.acts F.humCtrl_TRST) && !s.drainMay
  | _ => false

/-- Whether the description of a register refuses a write (R446); `whole` names the safe tables that a set writes whole (R245). -/
def State.refuses (s : State) (whole : Nat → Bool) (w : Wr) : Bool :=
  s.plnBad w || s.parBad w || s.telBad w || s.lpeBad w whole || s.drvBad w || s.fbBad w || s.pioBad w || s.prtBad w

end Sys2Proof.Machine
end

