-- ==== Sys2Proof/Machine/Effects.lean ====
section
/-!
DEFINITION. What an accepted register write does beside changing its register, block by block.
-/
namespace Sys2Proof.Machine

/-- A register with its RW and LK fields as they stand and every other field at reset, FORCE_SAFE as 0 (R246). -/
def State.storedWord (s : State) (r : Reg) (idx : List Nat) : Nat :=
  r.fields.foldl (fun (w : Nat) f =>
    if f = F.lpeCtrl_FORCE_SAFE then w
    else match f.acc with
      | .rw | .lk => setBits w f.lo f.width (s.get f idx)
      | _ => w) (r.resetWord idx)

/-- Whether a register is of the blocks that a save stores: LPE, DRV, FB, PIO and PRT (R246). -/
def Reg.stored (r : Reg) : Bool := decide (0x100000 ≤ r.base ∧ r.base < 0x1C0000) && r.fields.any (fun f => decide (f.acc = .rw ∨ f.acc = .lk))

/-- The configuration that a save stores: every listed register of those blocks that differs from reset (R246, R389). -/
def State.lpeCopy (s : State) : LpeCopy :=
  let regs := s.regs.filterMap (fun (e : Nat × Word) =>
    match Reg.lookup e.1 with
    | some (r, i) => if r.stored ∧ s.storedWord r i ≠ r.resetWord i then some (e.1, BitVec.ofNat 64 (s.storedWord r i)) else none
    | none => none)
  { seq := s.nv.lpe.foldl (fun (m : Nat) (e : Nat × LpeCopy) => max m (e.2.seq + 1)) 1, modId := s.modId,
    level := (s.boot.image.map FwImage.pairLevel).getD 0, regs := regs }

/-- The place of the older of the two copies of the LPE store. -/
def Nv.olderCopy (n : Nv) : Nat :=
  match (Tbl.find n.lpe 0, Tbl.find n.lpe 1) with
  | (some a, some b) => if a.seq < b.seq then 0 else 1
  | (some _, none) => 1
  | _ => 0

/-- A save starts (R246, R389): the older copy is not valid until the save ends; ignored while one is under way. -/
def State.saveStart (s : State) : State :=
  if s.on F.lpeStat_SAVE_BUSY [] then s
  else { s with boot := { s.boot with saving := some s.lpeCopy }, nv := { s.nv with lpe := Tbl.del s.nv.lpe s.nv.olderCopy } }.set F.lpeStat_SAVE_BUSY [] 1

/-- Loop engine and ripple registers: s0 is the state before the write. -/
def State.lpeEffect (s0 s : State) (w : Wr) : State :=
  let n := w.idx.headD 0
  match w.reg with
  | .lpeChCfg =>
    let s := if s.on F.lpeChCfg_MODE [n] then s else s.rippleAbortOf n
    s.setChan n { s.chan n with modes := (s.chan n).modes ++ [s.get F.lpeChCfg_MODE [n]] }
  | .lpeCtrl => if w.acts F.lpeCtrl_SAVE then s.saveStart else s
  | .lpeRplCtrl => if s.on F.lpeRplCtrl_EN [] then s else (List.range 32).foldl State.rippleAbort s
  | .lpeRplCfg => if s0.on F.lpeRplCfg_ARM [n] ∧ ¬ s.on F.lpeRplCfg_ARM [n] then s.rippleAbort n else s
  | _ => s

/-- Drive registers (R253, R254, R259, R260). -/
def State.drvEffect (s0 s : State) (w : Wr) : State :=
  let i := w.idx.headD 0
  match w.reg with
  | .drvPmpCfg => if s0.on F.drvPmpCfg_EN [i] ∧ ¬ s.on F.drvPmpCfg_EN [i] then s.pumpOff i else s
  | .drvPmpStat =>
    if s0.on F.drvPmpStat_FLT_OFF [i] ∧ bits (s.rd .drvPmpStat [i]) 0 5 = 0 then
      let s := (s.setPump i { s.pump i with restart := false }).set F.drvPmpStat_FLT_OFF [i] 0
      if s.pumpMay i ∧ s.pumpCmd i ≠ 0 then s.draw.pumpBegin i (decide (s.drawn % 2 = 1)) else s
    else s
  | .drvFanCfg =>
    let s := s.set F.drvFanStat_SENSORLESS [i] (b2n (!s.on F.drvFanCfg_TACH_EN [i] || s.on F.drvFanStat_TACH_LOST [i]))
    if s0.on F.drvFanCfg_EN [i] ∧ ¬ s.on F.drvFanCfg_EN [i] then
      ((s.fanOff i).set F.drvFanStat_FAILS [i] 0 |>.set F.drvFanStat_RETRY_WAIT [i] 0).set F.drvFanStat_RETRY_S [i] 0
    else s
  | .drvFanStat => s.set F.drvFanStat_SENSORLESS [i] (b2n (!s.on F.drvFanCfg_TACH_EN [i] || s.on F.drvFanStat_TACH_LOST [i]))
  | _ => s

/-- Field bus and plant input and output registers (R284, R287, R292). -/
def State.plantEffect (s0 s : State) (w : Wr) : State :=
  let i := w.idx.headD 0
  match w.reg with
  | .fbCfg => if s0.on F.fbCfg_EN [i] ∧ ¬ s.on F.fbCfg_EN [i] then s.busDisable i else s
  | .pioTinCfg => if s0.on F.pioTinCfg_EN [i] ∧ ¬ s.on F.pioTinCfg_EN [i] then s.inputOff i else s
  | .pioAinCfg => if s0.on F.pioAinCfg_EN [i] ∧ ¬ s.on F.pioAinCfg_EN [i] then s.inputOff (64 + i) else s
  | .pioLeakCfg => if s0.on F.pioLeakCfg_EN [i] ∧ ¬ s.on F.pioLeakCfg_EN [i] then s.inputOff (96 + i) else s
  | .pioAoutCfg | .pioDoutCfg | .pioDoutVal => s.refreshOutputs
  | _ => s

/-- Protection registers: a comparator taken out of use becomes inactive; re-arms wait for the next T_S instant (R394, R400). -/
def State.prtEffect (s : State) (w : Wr) : State :=
  let c := w.idx.headD 0
  match w.reg with
  | .prtTripCfg => if ¬ s.on F.prtTripCfg_EN [c] ∧ s.on F.prtTripStat_ACTIVE [c] then s.tripDeactivate c else s
  | .prtCtrl => { s with prt := { s.prt with rearm := s.prt.rearm ||| bits w.val 0 8 } }
  | _ => s

/-- Telemetry and stream registers (R308, Table 13.9). -/
def State.telEffect (s0 s : State) (w : Wr) : State :=
  let n := w.idx.headD 0
  match w.reg with
  | .telPortHi | .telPortLo => { s with tel := { s.tel with dad := setBits s.tel.dad n 1 0 } }
  | .stmLo => if ¬ s0.on F.stmLo_EN [n] ∧ s.on F.stmLo_EN [n] then s.streamOpen n else s
  | _ => s

/-- A ring is enabled: its indices restart, and the journal copy too (R327, R334). -/
def State.ringOpen (s : State) (i : Nat) : State :=
  let s := (s.set F.hstRingProd_PROD [i] 0).set F.hstRingCons_CONS [i] 0
  if i = 3 then { s with jrn := { s.jrn with copied := s.get F.jrnOldest_SEQ [] } } else s

/-- Host registers (R327, R337; an unmasked vector that is pending is signalled, as PCI Express defines). -/
def State.hstEffect (s0 s : State) (w : Wr) : State :=
  let i := w.idx.headD 0
  match w.reg with
  | .hstRingCfg => if ¬ s0.on F.hstRingCfg_EN [i] ∧ s.on F.hstRingCfg_EN [i] then s.ringOpen i else s
  | .hstHbCfg => if ¬ s0.on F.hstHbCfg_EN [] ∧ s.on F.hstHbCfg_EN [] then { s with hst := { s.hst with hbFrom := s.frame } } else s
  | .hstHb => { s with hst := { s.hst with lastHb := some s.frame } }
  | .hstMsixData =>
    let p := s.get F.hstMsixPba_PENDING []
    if ¬ s.on F.hstMsixData_MASK [i] ∧ bitAt p i then (s.set F.hstMsixPba_PENDING [] (setBits p i 1 0)).emit (.msix i) else s
  | _ => s

/-- Pairing and domain registers (R343, R354, R360, R363, R366). -/
def State.parEffect (s0 s : State) (w : Wr) : State :=
  match w.reg with
  | .parCtrl =>
    let s := if w.acts F.parCtrl_HANDOVER then s.handoverStart else s
    let s := if w.acts F.parCtrl_REJOIN then s.rejoined else s
    if w.acts F.parCtrl_DOM_LEAVE then s.domLeaveAsk else s
  | .parExer => if w.acts F.parExer_GO ∧ ¬ s.on F.parExer_BUSY [] then s.exerStart else s
  | .parDomCfg =>
    if ¬ s0.on F.parDomCfg_EN [] ∧ s.on F.parDomCfg_EN [] then s.domAsk
    else if s0.on F.parDomCfg_EN [] ∧ ¬ s.on F.parDomCfg_EN [] then s.domLeaveAsk
    else s
  | _ => s

/-- A written value that becomes pending, or is pending no more where it is the value in force (R50 to R53). -/
def pendingOf (now old new force : Nat) (p : Option (Nat × Nat)) : Option (Nat × Nat) :=
  if old = new then p else if new = force then none else some (new, now)

/-- The instants of a table, each as `back` has it. -/
def Tbl.times (back : Nat → Nat) (t : Tbl Nat) : Tbl Nat := t.map (fun e => (e.1, back e.2))

/-- The module's time runs on from a value (R58): the times of the commands that follow are counted from it, and the instants that the
state holds from before the first frame edge move with it, so that every interval stands (notes/assumptions/146.md). -/
def State.timeFrom (s : State) (v : Nat) : State :=
  let back := fun (a : Nat) => v - (s.now - a) + (a - s.now)
  let pair := fun (e : Nat × Nat) => (e.1, back e.2)
  { s with
    now := v
    boot := { s.boot with began := s.boot.began.map back, mctpAt := back s.boot.mctpAt }
    pio := { s.pio with tai := s.pio.tai.times back, dinAt := s.pio.dinAt.times back }
    prt := { s.prt with since := s.prt.since.times back, holdEnd := s.prt.holdEnd.times back, pairAt := s.prt.pairAt.times back,
                        mcSince := s.prt.mcSince.times back }
    tel := { s.tel with lastSync := s.tel.lastSync.map back }
    can := { s.can with bus := s.can.bus.map (fun e => (e.1, { e.2 with cfgAt := back e.2.cfgAt, boffAt := back e.2.boffAt })),
                        pvalAt := s.can.pvalAt.times back }
    pln := { s.pln with armedAt := back s.pln.armedAt, period := s.pln.period.map pair, epochLen := s.pln.epochLen.map pair,
                        placeAt := s.pln.placeAt.times back, retireAt := s.pln.retireAt.times back }
    pair := { s.pair with passAt := s.pair.passAt.map back }
    dom := { s.dom with askAt := s.dom.askAt.map back, leaveAt := s.dom.leaveAt.map back } }

/-- `FRM_CFG`: changes of period and epoch length become pending, and TIME_SET makes the timebase valid (R50 to R53, R58, R59). -/
def State.frmEffect (s0 s : State) (w : Wr) : State :=
  let p := { s.pln with
    period := pendingOf s.now (s0.get F.frmCfg_PERIOD_K []) (s.get F.frmCfg_PERIOD_K []) (s.get F.frmStat_PERIOD_K []) s.pln.period,
    epochLen := pendingOf s.now (s0.get F.frmCfg_EPOCH_M []) (s.get F.frmCfg_EPOCH_M []) (s.get F.frmStat_EPOCH_M []) s.pln.epochLen }
  let s := { s with pln := p }.set F.frmStat_PENDING [] (b2n (p.period.isSome || p.epochLen.isSome))
  if w.acts F.frmCfg_TIME_SET then ((s.set F.frmStat_TIME_VALID [] 1).set F.frmStat_TIME_HOLDOVER [] 1).timeFrom (s.get F.frmTaiNs_TAI_NS []) else s

/-- `PLN_PLACE_REQ`: each changed request becomes pending (R53, R169). -/
def State.placeEffect (s0 s : State) : State :=
  let old := s0.rd .plnPlaceReq []
  let new := s.rd .plnPlaceReq []
  (List.range 8).foldl (fun (s : State) p =>
    let v := bits new (4 * p) 3
    if bits old (4 * p) 3 = v then s
    else
      let t := if v = Tbl.at s.pln.placeReq p 0 then Tbl.del s.pln.placeAt p else Tbl.put s.pln.placeAt p s.now
      { s with pln := { s.pln with placeAt := t } }) s

/-- `PLN_RETIRE_REQ[w]`: set bits become pending, cleared bits are withdrawn (R171). -/
def State.retireEffect (s0 s : State) (k : Nat) : State :=
  let old := s0.rd .plnRetireReq [k]
  let new := s.rd .plnRetireReq [k]
  (List.range 64).foldl (fun (s : State) i =>
    let t := 64 * k + i
    if bitAt old i = bitAt new i then s
    else { s with pln := { s.pln with retireAt := if bitAt new i then Tbl.put s.pln.retireAt t s.now else Tbl.del s.pln.retireAt t } }) s

/-- `PLN_PROMO_CTRL` (Table 8.12), for kind k with its WO fields. -/
def State.promoEffect (s : State) (w : Wr) (k : Nat) (go demote withdraw : Fld) : State :=
  let s := if w.acts go then s.promoGo k else s
  let s := if w.acts demote then s.promoDemote k else s
  if w.acts withdraw then s.promoWithdraw k else s

/-- Plan registers (R53, R157, R160, R167, R169, R171, R219, R222). -/
def State.plnEffect (s0 s : State) (w : Wr) : State :=
  match w.reg with
  | .plnStageCtrl =>
    let s := if w.acts F.plnStageCtrl_CHECK then s.stageCheck else s
    if w.acts F.plnStageCtrl_CLEAR then s.stageClear else s
  | .plnArm =>
    let target := s0.get F.plnArm_TARGET []
    if w.acts F.plnArm_WITHDRAW then
      let s := s.set F.plnArm_TARGET [] target
      if s.withdrawMay then s.setStage 2 else s
    else s.armStart (s.get F.plnArm_TARGET [])
  | .plnLadderCfg => { s with lad := { s.lad with up0 := some (s.lad.up0.getD (s0.get F.plnLadderCfg_UP_LOG [])) } }
  | .plnPromoCtrl =>
    (s.promoEffect w 0 F.plnPromoCtrl_GO_W F.plnPromoCtrl_DEMOTE_W F.plnPromoCtrl_WITHDRAW_W).promoEffect w 1
      F.plnPromoCtrl_GO_C F.plnPromoCtrl_DEMOTE_C F.plnPromoCtrl_WITHDRAW_C
  | .plnPlaceReq => State.placeEffect s0 s
  | .plnRetireReq => State.retireEffect s0 s (w.idx.headD 0)
  | .frmCfg => State.frmEffect s0 s w
  | .frmTaiNs => { s with tel := { s.tel with taiWritten := true } }
  | .humCtrl =>
    s.humRequest (w.idx.headD 0) (w.acts F.humCtrl_RST) (w.acts F.humCtrl_PRST) (w.acts F.humCtrl_DRAIN) (bits w.val F.humCtrl_TRST.lo 8)
  | _ => s

/-- What a write does beside changing its register. -/
def State.effect (s0 s : State) (w : Wr) : State :=
  let s := State.plnEffect s0 s w
  let s := State.parEffect s0 s w
  let s := State.hstEffect s0 s w
  let s := State.telEffect s0 s w
  let s := State.lpeEffect s0 s w
  let s := State.drvEffect s0 s w
  (State.plantEffect s0 s w).prtEffect w

end Sys2Proof.Machine
end

