-- ==== Sys2Proof/Machine/Write.lean ====
section
/-!
DEFINITION. Register writes from outside (spec/14_host.md R324, R327, R329; spec/15_pairing.md R345; spec/18_journal.md R414, R422,
R425 to R427; spec/20_registers.md R445, R446): who may write, what is refused, precedence, the journal's entries, and the direct
BAR0 writes that have rows of their own.
-/
namespace Sys2Proof.Machine

/-- Who makes a write: its rank among the origins (R425: 3 P0 partner, 2 PCIe host, 1 MGMT), ORIGIN and REQUESTER of its entries
(Table 18.2), the privilege classes it carries (R427), the key that signed it (0: none) and the DATA of its CHANGE entries. -/
structure Req where
  rank : Nat
  origin : Nat
  requester : Nat
  classes : Nat
  keyId : Nat := 0
  data : Nat := 0
deriving DecidableEq, Repr

/-- The host over PCIe with a command's TAG, or 0xFFFF for a direct BAR0 write (Table 18.2, R427). -/
def State.hostReq (s : State) (tag : Nat) : Req := { rank := 2, origin := 4, requester := 65536 * (tag % 65536), classes := s.get F.jrnGrant_PCIE [] }

/-- The number of the lowest class in a mask, 0xFF where there is none. -/
def privBit (m : Nat) : Nat := ((List.range 5).find? (fun i => bitAt m i)).getD 0xFF

/-- The lowest class that a request lacks for a register (R426). -/
def Req.lacks (q : Req) (r : Reg) : Option Nat := (List.range 5).find? (fun i => bitAt r.classes i && !bitAt q.classes i)

/-- An entry about a write (R413, R414, R430); entries about `PRT_CTRL` are of the safety class (R418, R422). -/
def State.writeEntry (s : State) (q : Req) (kind act off old new priv data : Nat) : State :=
  s.journal { s.entry q.origin q.requester kind (256 * act) off with
    keyId := q.keyId, priv := priv, old := old, new := new, data := data,
    flags := (if off = Reg.off .prtCtrl [] then jSafety else 0) + (if q.keyId = 0 then 0 else jSigned) }

/-- The REFUSED event of a direct BAR0 write, raised when `HST_CFG` asks for it, or always (R332). -/
def State.refusedEvent (s : State) (always : Bool) (act off : Nat) : State :=
  if always ∨ s.on F.hstCfg_REFUSE_EV [] then s.hostEvent evRefused 1 (off / 65536) (256 * act) off else s

/-- A BAR0 or BAR2 write that is discarded: counted in BAD_WR and journalled as refused (R324, R325, R426, R445). -/
def State.discard (s : State) (q : Req) (act off val priv : Nat) : State :=
  ((s.bump F.hstStat_BAD_WR [] 1).writeEntry q kRefused act off 0 val priv 0).refusedEvent false act off

/-- A write that is refused: journalled with the value it asked for (R414, R446). -/
def State.refuse (s : State) (q : Req) (w : Wr) : State :=
  s.writeEntry q kRefused 2 w.off (s.held.rd w.reg w.idx) w.val (privBit w.reg.classes) 0

/-- The bits of a register other than HALF of `PIO_LEAK[i]_CFG`. -/
def Reg.shared (r : Reg) : Nat :=
  match r with
  | .pioLeakCfg => 2 ^ 64 - 1 - F.pioLeakCfg_HALF.mask
  | _ => 2 ^ 64 - 1

/-- Registers that a standby takes from its own ports, and that are not mirrored (R345). -/
def Reg.ownPort (r : Reg) : Bool :=
  let a := r.base
  decide (a < 0x10000 ∨ (0x30000 ≤ a ∧ a < 0x40000) ∨ (0x50000 ≤ a ∧ a < 0x60000) ∨ (0x80000 ≤ a ∧ a < 0x100000)) ||
  (match r with
   | .telPortHi | .telPortLo | .telPortCfg | .telPortMac | .telPtpCfg => true
   | _ => false)

/-- Whether R345 refuses a write through a module's own ports: of `PIO_LEAK[i]_CFG` a standby takes a change of HALF alone. -/
def State.standbyRefuses (s : State) (w : Wr) : Bool :=
  s.standby && !w.reg.ownPort &&
  !(decide (w.reg = .pioLeakCfg) && decide (s.wordAfter w.reg w.idx w.mask w.val &&& w.reg.shared = s.rd w.reg w.idx &&& w.reg.shared))

/-- The transport registers, whose writes are not journalled (R327, R446). -/
def Reg.transport (r : Reg) : Bool := decide (r = .hstRingProd ∨ r = .hstRingCons ∨ r = .hstHb)

/-- The budget sources of Table 7.6 in a register. -/
def Reg.budgets (r : Reg) : List Fld :=
  match r with
  | .capRowBudget => [F.capRowBudget_BUDGET]
  | .capRack => [F.capRack_HOST_LIMIT, F.capRack_RM_LIMIT]
  | .capPkgLim => [F.capPkgLim_CAP_MAX, F.capPkgLim_HOST_CEIL]
  | _ => []

/-- Whether a write lowers a budget source and changes nothing else (R422). -/
def State.lowers (s : State) (w : Wr) : Bool :=
  let new := s.wordAfter w.reg w.idx w.mask w.val
  let kept := w.reg.fields.all (fun f =>
    let v := bits new f.lo f.width
    if w.reg.budgets.contains f then decide (v ≤ s.get f w.idx) else decide (v = s.get f w.idx))
  kept && w.reg.budgets.any (fun f => decide (bits new f.lo f.width < s.get f w.idx))

/-- Writes that pass JOURNAL_FULL (R422): a lowered budget source, REARM, and the re-enabling of ring 3 (Example 18.1). -/
def State.passesFull (s : State) (w : Wr) : Bool :=
  decide (w.reg = .prtCtrl) || decide (w.reg = .hstRingCfg ∧ w.idx = [3]) || s.lowers w

/-- Whether a write meets one of a higher origin made in this frame (R425). -/
def State.loses (s : State) (q : Req) (w : Wr) : Bool :=
  (Tbl.at s.acs.last w.off []).any (fun a => decide (q.rank < a.rank ∧ a.mask &&& w.mask ≠ 0))

/-- A COLLIDE event and count for the host (R329, R425). -/
def State.collideEvent (s : State) (act off : Nat) : State :=
  (s.bump F.hstStat_COLLIDE_CNT [] 1).hostEvent evCollide 1 (off / 65536) (256 * act) off

/-- A write that loses precedence; a direct BAR0 write raises an event (R329, R425). -/
def State.collide (s : State) (q : Req) (w : Wr) (direct : Bool) : State :=
  let s := s.writeEntry q kCollide 5 w.off (s.rd w.reg w.idx) w.val (privBit w.reg.classes) 0
  if q.origin ≠ 4 then s else if direct then s.collideEvent 5 w.off else s.bump F.hstStat_COLLIDE_CNT [] 1

/-- ORIGIN of a rank. -/
def originOf (rank : Nat) : Nat := if rank = 3 then 3 else if rank = 2 then 4 else 5

/-- Writes of lower origins that a write meets are superseded (R425). -/
def State.supersede (s : State) (q : Req) (w : Wr) : State :=
  (Tbl.at s.acs.last w.off []).foldl (fun (s : State) (a : Accepted) =>
    if q.rank ≤ a.rank ∨ a.mask &&& w.mask = 0 then s
    else
      let q' : Req := { rank := a.rank, origin := originOf a.rank, requester := a.requester, classes := 0 }
      let s := s.writeEntry q' kSuperseded 6 w.off (s.rd w.reg w.idx) a.value (privBit w.reg.classes) 0
      if a.rank = 2 then s.collideEvent 6 w.off else s) s

/-- What a write shows as NEW: the register as the write leaves it, with the WO fields that it sets (R414). -/
def State.newWord (s : State) (w : Wr) : Nat :=
  w.reg.fields.foldl (fun (n : Nat) f => if f.acc = .wo ∧ w.mask &&& f.mask ≠ 0 then n ||| (w.val &&& f.mask) else n) (s.wordAfter w.reg w.idx w.mask w.val)

/-- Takes a write that nothing forbids: precedence, its CHANGE entry, what travels to the partner, and the register with what the write
does besides, at once or at the next frame edge (R52). -/
def State.takeWrite (s : State) (q : Req) (w : Wr) : State :=
  let s := s.supersede q w
  let old := s.held.rd w.reg w.idx
  let new := s.held.newWord w
  let lower := (Tbl.at s.acs.last w.off []).filter (fun a => decide (a.rank ≠ q.rank ∧ a.mask &&& w.mask = 0))
  let mine : Accepted := { rank := q.rank, requester := q.requester, mask := w.mask, value := new }
  let m := w.mask &&& w.reg.shared
  let mirror : List MirrorWrite :=
    if q.rank = 3 ∨ w.reg.ownPort ∨ m = 0 then []
    else [{ off := w.off, mask := BitVec.ofNat 64 m, value := BitVec.ofNat 64 new, origin := q.origin, requester := q.requester }]
  let s : State := { s with acs := { s.acs with last := Tbl.put s.acs.last w.off (mine :: lower) }, pair := { s.pair with writes := s.pair.writes ++ mirror } }
  let s := if w.reg.transport then s else s.writeEntry q kChange 0 w.off old new (privBit w.reg.classes) q.data
  if s.waits w.reg then { s with acs := { s.acs with later := s.acs.later ++ [w] } } else State.effect s (s.wrote w) w

/-- The fields that PCIe and a P0 partner may write, as a write with a whole word. -/
def wholeWrite (r : Reg) (idx : List Nat) (v : Nat) : Wr := { reg := r, idx := idx, mask := r.writable, val := v }

/-- The bits of RM_LIMIT, which MGMT alone writes (R340). -/
def rmMask : Nat := F.capRack_RM_LIMIT.mask

/-- `PLN_STAGE_STATUS` shows why an arm was refused (R160). -/
def State.armCode (s : State) (w : Wr) : State :=
  if w.reg = .plnArm ∧ ¬ w.acts F.plnArm_WITHDRAW then
    match s.armRefusal (s.leaves w F.plnArm_TARGET) with
    | some f => if f = 0 then s else s.set F.plnStageStatus_CODE [] f
    | none => s
  else s

/-- A direct BAR0 write of a listed register, of 8 bytes and aligned. -/
def State.direct (s : State) (w : Wr) : State :=
  let q := s.hostReq 0xFFFF
  match q.lacks w.reg with
  | some p => s.discard q 3 w.off w.val p
  | none =>
    if s.held.standbyRefuses w then (s.refuse q w).refusedEvent false 2 w.off
    else if s.on F.jrnStat_JOURNAL_FULL [] ∧ ¬ s.passesFull w then s.fullRefused.refusedEvent true 4 w.off
    else if s.held.refuses (fun _ => false) w then (((s.refuse q w).armCode w).refusedEvent false 2 w.off)
    else if s.loses q w then s.collide q w true
    else s.takeWrite q w

/-- A direct BAR0 write of a register by the host; a module whose rails SHUTDOWN has cut takes none (R408). -/
def State.hostWrite (s : State) (r : Reg) (idx : List Nat) (v : Nat) : State :=
  if s.prt.cut.isSome then s else s.direct (wholeWrite r idx v)

/-- A register's word as it stands, with the WO and W1C fields as 0 and one field as given. -/
def State.withField (s : State) (f : Fld) (idx : List Nat) (v : Nat) : Nat :=
  f.reg.fields.foldl (fun (n : Nat) g =>
    if g.lo = f.lo then setBits n g.lo g.width v
    else match g.acc with
      | .wo | .w1c => n
      | _ => setBits n g.lo g.width (s.get g idx)) 0

/-- A direct write that sets one field of a register and leaves its others as they stand. -/
def State.hostField (s : State) (f : Fld) (idx : List Nat) (v : Nat) : State := s.hostWrite f.reg idx (s.withField f idx v)

/-- REGISTER_WRITE (R324, R327, R445, R446). Writes of ring indices and of the heartbeat go their own way; command entries come with
COMMAND_RING_PROD. -/
def execRegisterWrite (t : Tai) (off len : Nat) (v : Word) (s : State) : Host.Outcome State Fault Refusal :=
  let s := s.at t
  if s.prt.cut.isSome then .next s
  else if len ≠ 8 ∨ off % 8 ≠ 0 then .next (s.discard (s.hostReq 0xFFFF) 2 off v.toNat 0xFF)
  else
    match Reg.lookup off with
    | none => .next (s.discard (s.hostReq 0xFFFF) 2 off v.toNat 0xFF)
    | some (r, idx) =>
      match ((s.hostReq 0xFFFF).lacks r, r) with
      | (none, .hstRingCons) =>
        if h : idx.headD 0 < 4 then execRingCons t ⟨idx.headD 0, h⟩ (v.toNat % 2 ^ 32) s else .next s
      | (none, .hstHb) => execHstHb t (v.setWidth 32) s
      | (none, .hstRingProd) => .next s
      | _ => .next (s.hostWrite r idx v.toNat)

/-- CHECK (R156, R157). -/
def execCheckStage (t : Tai) (s : State) : Host.Outcome State Fault Refusal := .next ((s.at t).hostField F.plnStageCtrl_CHECK [] 1)

/-- CLEAR (R158). -/
def execClearStage (t : Tai) (s : State) : Host.Outcome State Fault Refusal := .next ((s.at t).hostField F.plnStageCtrl_CLEAR [] 1)

/-- PLN_ARM (R53, R160). -/
def execPlnArm (t : Tai) (target : BitVec 32) (s : State) : Host.Outcome State Fault Refusal :=
  .next ((s.at t).hostField F.plnArm_TARGET [] target.toNat)

/-- WITHDRAW (R53). -/
def execWithdraw (t : Tai) (s : State) : Host.Outcome State Fault Refusal := .next ((s.at t).hostField F.plnArm_WITHDRAW [] 1)

/-- PLN_PLACE_REQ (R169). -/
def execPlnPlaceReq (t : Tai) (v : BitVec 32) (s : State) : Host.Outcome State Fault Refusal := .next ((s.at t).hostWrite .plnPlaceReq [] v.toNat)

/-- PLN_RETIRE_REQ (R171). -/
def execPlnRetireReq (t : Tai) (w : Fin 4) (v : Word) (s : State) : Host.Outcome State Fault Refusal :=
  .next ((s.at t).hostWrite .plnRetireReq [w] v.toNat)

/-- GO_W (R219). -/
def execGoW (t : Tai) (s : State) : Host.Outcome State Fault Refusal := .next ((s.at t).hostField F.plnPromoCtrl_GO_W [] 1)

/-- GO_C (R219). -/
def execGoC (t : Tai) (s : State) : Host.Outcome State Fault Refusal := .next ((s.at t).hostField F.plnPromoCtrl_GO_C [] 1)

/-- DEMOTE_W (R222). -/
def execDemoteW (t : Tai) (s : State) : Host.Outcome State Fault Refusal := .next ((s.at t).hostField F.plnPromoCtrl_DEMOTE_W [] 1)

/-- DEMOTE_C (R222). -/
def execDemoteC (t : Tai) (s : State) : Host.Outcome State Fault Refusal := .next ((s.at t).hostField F.plnPromoCtrl_DEMOTE_C [] 1)

/-- WITHDRAW_W (R219). -/
def execWithdrawW (t : Tai) (s : State) : Host.Outcome State Fault Refusal := .next ((s.at t).hostField F.plnPromoCtrl_WITHDRAW_W [] 1)

/-- WITHDRAW_C (R219). -/
def execWithdrawC (t : Tai) (s : State) : Host.Outcome State Fault Refusal := .next ((s.at t).hostField F.plnPromoCtrl_WITHDRAW_C [] 1)

/-- PERIOD_CHANGE (R51). -/
def execPeriodChange (t : Tai) (k : BitVec 3) (s : State) : Host.Outcome State Fault Refusal :=
  .next ((s.at t).hostField F.frmCfg_PERIOD_K [] k.toNat)

/-- EPOCH_LENGTH_CHANGE (R50). -/
def execEpochLengthChange (t : Tai) (m : BitVec 4) (s : State) : Host.Outcome State Fault Refusal :=
  .next ((s.at t).hostField F.frmCfg_EPOCH_M [] m.toNat)

/-- TIME_SET (R58). -/
def execTimeSet (t : Tai) (s : State) : Host.Outcome State Fault Refusal := .next ((s.at t).hostField F.frmCfg_TIME_SET [] 1)

/-- HANDOVER (R354). -/
def execHandover (t : Tai) (s : State) : Host.Outcome State Fault Refusal := .next ((s.at t).hostField F.parCtrl_HANDOVER [] 1)

/-- REJOIN (R343). -/
def execRejoin (t : Tai) (s : State) : Host.Outcome State Fault Refusal := .next ((s.at t).hostField F.parCtrl_REJOIN [] 1)

/-- DOM_LEAVE (R366). -/
def execDomLeave (t : Tai) (s : State) : Host.Outcome State Fault Refusal := .next ((s.at t).hostField F.parCtrl_DOM_LEAVE [] 1)

/-- DOMAIN_JOIN (R363): a write of `PAR_DOM_CFG`. -/
def execDomainJoin (t : Tai) (v : Word) (s : State) : Host.Outcome State Fault Refusal := .next ((s.at t).hostWrite .parDomCfg [] v.toNat)

/-- EXERCISE_GO (R360). -/
def execExerciseGo (t : Tai) (s : State) : Host.Outcome State Fault Refusal := .next ((s.at t).hostField F.parExer_GO [] 1)

/-- REARM (R400, R422). -/
def execRearm (t : Tai) (mask : BitVec 8) (s : State) : Host.Outcome State Fault Refusal :=
  .next ((s.at t).hostField F.prtCtrl_REARM [] mask.toNat)

/-- SAVE (R246). -/
def execSave (t : Tai) (s : State) : Host.Outcome State Fault Refusal := .next ((s.at t).hostField F.lpeCtrl_SAVE [] 1)

/-- FORCE_SAFE (R243). -/
def execForceSafe (t : Tai) (on : Bool) (s : State) : Host.Outcome State Fault Refusal :=
  .next ((s.at t).hostField F.lpeCtrl_FORCE_SAFE [] (b2n on))

/-- MODE (R241): a write of `LPE_CH[n]_CFG`. -/
def execModeWrite (t : Tai) (n : Fin 256) (v : Word) (s : State) : Host.Outcome State Fault Refusal :=
  .next ((s.at t).hostWrite .lpeChCfg [n] v.toNat)

/-- GAIN_TBL_BASE (R233): a write of `LPE_CH[n]_GTB`. -/
def execGainTblBase (t : Tai) (n : Fin 256) (v : Word) (s : State) : Host.Outcome State Fault Refusal :=
  .next ((s.at t).hostWrite .lpeChGtb [n] v.toNat)

/-- RIPPLE_ARM (R208): a write of `LPE_RPL[i]_CFG`. -/
def execRippleArm (t : Tai) (i : Fin 32) (v : Word) (s : State) : Host.Outcome State Fault Refusal :=
  .next ((s.at t).hostWrite .lpeRplCfg [i] v.toNat)

/-- RIPPLE_EN (R206): a write of `LPE_RPL_CTRL`. -/
def execRippleEn (t : Tai) (v : Word) (s : State) : Host.Outcome State Fault Refusal := .next ((s.at t).hostWrite .lpeRplCtrl [] v.toNat)

/-- PUMP_EN (R254): a write of `DRV_PMP[p]_CFG`. -/
def execPumpEn (t : Tai) (p : Fin 4) (v : Word) (s : State) : Host.Outcome State Fault Refusal :=
  .next ((s.at t).hostWrite .drvPmpCfg [p] v.toNat)

/-- PUMP_STAT_CLEAR (R253): a write of `DRV_PMP[p]_STAT`. -/
def execPumpStatClear (t : Tai) (p : Fin 4) (v : Word) (s : State) : Host.Outcome State Fault Refusal :=
  .next ((s.at t).hostWrite .drvPmpStat [p] v.toNat)

/-- FAN_EN (R259): a write of `DRV_FAN[f]_CFG`. -/
def execFanEn (t : Tai) (f : Fin 8) (v : Word) (s : State) : Host.Outcome State Fault Refusal :=
  .next ((s.at t).hostWrite .drvFanCfg [f] v.toNat)

/-- TACH_LOST_CLEAR (R260): a write of `DRV_FAN[f]_STAT`. -/
def execTachLostClear (t : Tai) (f : Fin 8) (v : Word) (s : State) : Host.Outcome State Fault Refusal :=
  .next ((s.at t).hostWrite .drvFanStat [f] v.toNat)

/-- CAN_EN (R284): a write of `FB[b]_CFG`. -/
def execCanEn (t : Tai) (b : Fin 4) (v : Word) (s : State) : Host.Outcome State Fault Refusal :=
  .next ((s.at t).hostWrite .fbCfg [b] v.toNat)

/-- STREAM_ENABLE (R308): a write of the low word of `STM_ENTRY[n]`. -/
def execStreamEnable (t : Tai) (n : Fin 65536) (v : Word) (s : State) : Host.Outcome State Fault Refusal :=
  .next ((s.at t).hostWrite .stmLo [n] v.toNat)

/-- RING_ENABLE (R327): a write of `HST_RING[i]_CFG`. -/
def execRingEnable (t : Tai) (i : Fin 4) (v : Word) (s : State) : Host.Outcome State Fault Refusal :=
  .next ((s.at t).hostWrite .hstRingCfg [i] v.toNat)

/-- A word of `HUM[h]_CTRL` with DRAIN as given and another field set. -/
def humWord (f : Fld) (v : Nat) (drain : Bool) : Nat := setBits (setBits 0 f.lo f.width v) F.humCtrl_DRAIN.lo 1 (b2n drain)

/-- TUSSOCK_RESET (R379, R380): `HUM[h]_CTRL.TRST`. -/
def execTussockReset (t : Tai) (h : Fin 32) (mask : BitVec 8) (drain : Bool) (s : State) : Host.Outcome State Fault Refusal :=
  .next ((s.at t).hostWrite .humCtrl [h] (humWord F.humCtrl_TRST mask.toNat drain))

/-- HUMMOCK_RESET (R379): `HUM[h]_CTRL.RST`. -/
def execHummockReset (t : Tai) (h : Fin 32) (drain : Bool) (s : State) : Host.Outcome State Fault Refusal :=
  .next ((s.at t).hostWrite .humCtrl [h] (humWord F.humCtrl_RST 1 drain))

/-- PARTITION_RESET (R379): `HUM[h]_CTRL.PRST`. -/
def execPartitionReset (t : Tai) (h : Fin 32) (drain : Bool) (s : State) : Host.Outcome State Fault Refusal :=
  .next ((s.at t).hostWrite .humCtrl [h] (humWord F.humCtrl_PRST 1 drain))

/-- Whether BAR2 takes a write (R157, R325): inside the bank of the staging window that a set may be written to, in EMPTY, PASSED or
REJECTED. -/
def State.bar2May (s : State) (addr len : Nat) : Bool :=
  let b := stageBase (1 - s.pln.force)
  decide (b ≤ addr ∧ addr + len ≤ b + 0x2_0000_0000) &&
  (let st := s.get F.plnStageStatus_STATE []; decide (st = 0 ∨ st = 2 ∨ st = 3))

/-- BAR2_WRITE (R157, R325, R426). -/
def execBar2Write (t : Tai) (addr : Nat) (data : List Byte) (s : State) : Host.Outcome State Fault Refusal :=
  let s := s.at t
  let q := s.hostReq 0xFFFF
  if s.prt.cut.isSome then .next s
  else if ¬ bitAt q.classes 0 then .next (s.discard q 3 0xF0000000 (ofLeBytes (data.take 8)) 0)
  else if ¬ s.bar2May addr data.length then .next (s.discard q 2 0xF0000000 (ofLeBytes (data.take 8)) 0)
  else
    let s := if s.get F.plnStageStatus_STATE [] = 0 then s else s.emptyStage
    .next { s with hbm := Mem.setBytes s.hbm addr data }

end Sys2Proof.Machine
end

