-- ==== Sys2Proof/Machine/Keys.lean ====
section
/-!
DEFINITION. Host commands that change the module: sets of register writes (spec/14_host.md R327 to R329), calibration candidates
(spec/08_calibration.md R218), signed commands, keys and attestation (spec/18_journal.md R426 to R432), firmware staging
(spec/16_bringup.md R371, R373) and signed resets (R424, R430).
-/
namespace Sys2Proof.Machine

/-- What becomes of a set of writes: whether none is refused, else the completion's code and the index that it names. -/
inductive SetVerdict where
  | ok (ws : List Wr)
  | lack (bit : Nat)
  | full
  | refused (idx : Nat)
  | collide (idx : Nat)
deriving DecidableEq, Repr

/-- The writes of a set, where every offset is listed; else the index of the first that is not. -/
def wrsOf : Nat → List (Nat × Word) → Except Nat (List Wr)
  | _, [] => .ok []
  | i, (off, v) :: r =>
    match Reg.lookup off with
    | none => .error i
    | some (g, idx) => (wrsOf (i + 1) r).map (fun l => wholeWrite g idx v.toNat :: l)

/-- Whether a set writes the 16 points of a safe table (R245). -/
def wholeTable (ws : List Wr) (n : Nat) : Bool := (List.range 16).all (fun j => ws.any (fun w => decide (w.reg = .lpeStbl ∧ w.idx = [n, j])))

/-- The index of the first write of which something holds. -/
def firstWr (ws : List Wr) (p : Wr → Bool) : Option Nat := (List.range ws.length).find? (fun i => (ws[i]?).any p)

/-- The checks of a set of writes, each against the state before the set (R329, R345, R422, R425, R426). -/
def State.setVerdict (s : State) (q : Req) (l : List (Nat × Word)) : SetVerdict :=
  match wrsOf 0 l with
  | .error i => .refused i
  | .ok ws =>
    match (ws.findSome? (fun w => q.lacks w.reg)) with
    | some b => .lack b
    | none =>
      if s.on F.jrnStat_JOURNAL_FULL [] ∧ ¬ ws.all s.passesFull then .full
      else
        match firstWr ws (fun w => s.held.standbyRefuses w || s.held.refuses (wholeTable ws) w) with
        | some i => .refused i
        | none =>
          match firstWr ws (s.loses q) with
          | some i => .collide i
          | none => .ok ws

/-- The write of a set at an index, as far as it has a register. -/
def wrAt (l : List (Nat × Word)) (i : Nat) : Option Wr :=
  (l[i]?).bind (fun e => (Reg.lookup e.1).map (fun g => wholeWrite g.1 g.2 e.2.toNat))

/-- A refused set: the entry of its first refused write (R414, R445). -/
def State.setRefused (s : State) (q : Req) (l : List (Nat × Word)) (i : Nat) : State :=
  match wrAt l i with
  | some w => (s.refuse q w).armCode w
  | none => s.writeEntry q kRefused 2 ((l[i]?).map Prod.fst |>.getD 0) 0 ((l[i]?).map (fun e => e.2.toNat) |>.getD 0) 0xFF 0

/-- The writes of a set take effect as one change (R329). -/
def State.takeSet (s : State) (q : Req) (ws : List Wr) : State := ws.foldl (fun (s : State) w => s.takeWrite q w) s

/-- A REG_SET or REG_SET_BUF of at most `most` writes (R329). -/
def State.regSetCmd (s : State) (tag most : Nat) (l : List (Nat × Word)) : State :=
  let q := s.hostReq tag
  if l.length = 0 ∨ most < l.length then s.complete tag cFormat 0
  else
    match s.setVerdict q l with
    | .ok ws => (s.takeSet q ws).completeAtEdge tag cOk 0
    | .lack b => ((s.writeEntry q kRefused 3 ((l.head?.map Prod.fst).getD 0) 0 0 b 0)).complete tag cPrivilege 0
    | .full => s.fullRefused.complete tag cJournalFull 0
    | .refused i => (s.setRefused q l i).complete tag cRefused i
    | .collide i =>
      match wrAt l i with
      | some w => (s.collide q w false).completeAtEdge tag cCollide i
      | none => s

/-- REG_SET (R328, R329). -/
def execRegSet (t : Tai) (tag : BitVec 16) (writes : List (Nat × Word)) (s : State) : Host.Outcome State Fault Refusal :=
  .next ((s.at t).regSetCmd tag.toNat 3 writes)

/-- REG_SET_BUF (R328, R329). -/
def execRegSetBuf (t : Tai) (tag : BitVec 16) (writes : List (Nat × Word)) (s : State) : Host.Outcome State Fault Refusal :=
  .next ((s.at t).regSetCmd tag.toNat 1024 writes)

/-- An entry about a host command, whose object is its OP (R413). -/
def State.cmdEntry (s : State) (q : Req) (kind act op priv data : Nat) (safety : Bool) : State :=
  s.journal { s.entry q.origin q.requester kind (4096 + 256 * act) (0xF0000000 + op) with
    keyId := q.keyId, priv := priv, data := data, flags := (if safety then jSafety else 0) + (if q.keyId = 0 then 0 else jSigned) }

/-- A command that is refused for a reason of its own. -/
def State.cmdRefused (s : State) (tag op data : Nat) : State := (s.cmdEntry (s.hostReq tag) kRefused 2 op 0xFF 0 false).complete tag cRefused data

/-- What every changing command is checked for first: its class and JOURNAL_FULL (R422, R426). -/
def State.cmdGate (s : State) (tag op bit : Nat) (run : State → State) : State :=
  let q := s.hostReq tag
  if ¬ bitAt q.classes bit then (s.cmdEntry q kRefused 3 op bit 0 false).complete tag cPrivilege 0
  else if s.on F.jrnStat_JOURNAL_FULL [] then s.fullRefused.complete tag cJournalFull 0
  else run s

/-- Size of a command's OP in Table 14.5 that this module knows. -/
def opKnown (op : Nat) : Bool := [0x01, 0x02, 0x03, 0x10, 0x11, 0x20, 0x21, 0x30].contains op

/-- What an entry itself shows to be wrong: an unknown OP, an NW that its command does not have, a misaligned buffer (R328, Table
14.6). -/
def entryFault (e : Unit64) : Option Nat :=
  let w := e.toNat
  let op := bits w 0 8
  let nw := bits w 8 8
  if ¬ opKnown op then some cUnknown
  else if (op ≠ 2 ∧ nw ≠ 0) ∨ (op = 2 ∧ (nw = 0 ∨ 3 < nw)) ∨ bits w 64 64 % 64 ≠ 0 then some cFormat
  else none

/-- COMMAND_RING_PROD (R327, R328): the module takes the entries that the host has made, advances CONS and writes it back. A command
that an entry is good for runs as its own row. -/
def execCommandRingProd (t : Tai) (prod : Nat) (entries : List Unit64) (s : State) : Host.Outcome State Fault Refusal :=
  let s := s.at t
  let cons := s.get F.hstRingCons_CONS [0]
  let n := (prod + 2 ^ 32 - cons) % 2 ^ 32
  if ¬ bitAt (s.get F.jrnGrant_PCIE []) 0 then .next (s.discard (s.hostReq 0xFFFF) 3 (Reg.off .hstRingProd [0]) prod 0)
  else if s.ringSize 0 < n then .next (s.bump F.hstStat_BAD_WR [] 1)
  else
    let s := s.set F.hstRingProd_PROD [0] prod
    if ¬ s.on F.hstRingCfg_EN [0] then .next s
    else
      let l := entries.take n
      let s := s.set F.hstRingCons_CONS [0] (cons + l.length)
      let s := if l.isEmpty then s else s.emit (.writeBack 0 (s.get F.hstRingCons_CONS [0]))
      .next (l.foldl (fun (s : State) e =>
        match entryFault e with
        | some c => s.complete (bits e.toNat 16 16) c 0
        | none => s) s)

/-- Where a record of CAL_SUBMIT goes in a calibration set, and how many of its 32 bytes its entry has (Tables 8.1, 14.5). -/
def calPlace (r : CalRecord) : Option (Nat × Nat) :=
  match r.table with
  | 0 => if r.index < sensorCount then some (0x1000 + 32 * r.index, 32) else none
  | 1 => if r.index < 1024 then some (0x41000 + 16 * r.index, 16) else none
  | 2 => if r.index < 2048 then some (0x45000 + 16 * r.index, 16) else none
  | _ => none

/-- The bytes of a record's entry; a sensor entry marked REPLACED carries REPLACED and SUSPECT (R218). -/
def calPut (r : CalRecord) : List Byte :=
  let b := r.entry
  if r.table = 0 ∧ r.replaced then b.take 18 ++ [b.getD 18 0 ||| 3] ++ b.drop 19 else b

/-- Writes a host candidate's records. -/
def putRecords (m : Mem) (base : Nat) (l : List CalRecord) : Mem :=
  l.foldl (fun (m : Mem) r =>
    match calPlace r with
    | some (o, n) => Mem.setBytes m (base + o) ((calPut r).take n)
    | none => m) m

/-- The promotion record of a host candidate (Table 8.10, R218). The records used and the figures, which the spec does not give for
it, are free within what check FORMAT asks of them (notes/assumptions/43.md). -/
def State.hostRecord (s : State) (e : PromoEntry) : State × List Byte :=
  let nval := e.valMin + s.drawn % (2 ^ 32 - e.valMin)
  let s := s.draw
  let figs := (List.range 6).foldl (fun (p : State × List Byte) _ => (p.1.draw, p.2 ++ leBytes 4 (p.1.drawn % 0x7F800000))) (s, [])
  let head := leBytes 8 sealValue ++ leBytes 4 (figs.1.get F.frmEpoch_EPOCH []) ++ leBytes 1 2 ++ leBytes 1 1 ++ leBytes 2 0 ++
    leBytes 4 (figs.1.get F.plnPromoStat_VERSION [1]) ++ leBytes 4 0 ++ leBytes 8 e.layout ++ leBytes 4 nval
  (figs.1, head ++ figs.2 ++ List.replicate 4036 0)

/-- A host calibration candidate is built in the candidate bank and sealed (R218); the bank no longer holds the previous version
(Table 8.13). -/
def State.hostCandidate (s : State) (e : PromoEntry) (recs : List CalRecord) : State :=
  let p := s.promoAt 1
  let a := bankInForce p e
  let b := bankCandidate p e
  let s := if p.begun then s.setPromo 1 { p with discards := p.discards + 1 } else s
  let (s, head) := s.hostRecord e
  let m := Mem.setBytes s.hbm b (Mem.bytes s.hbm a e.len)
  ({ s with hbm := Mem.setBytes (putRecords m b recs) b head }.set F.plnPromoStat_PREV_VALID [1] 0).promoSeal 1 1 e

/-- CAL_SUBMIT (R218, R426). A standby takes none (notes/assumptions/44.md). -/
def execCalSubmit (t : Tai) (tag : BitVec 16) (recs : List CalRecord) (s : State) : Host.Outcome State Fault Refusal :=
  let s := s.at t
  let tag := tag.toNat
  if recs.length = 0 ∨ 1024 < recs.length ∨ recs.any (fun r => decide (r.entry.length ≠ 32) ||
      (decide (r.table ≠ 0) && (r.entry.drop 16).any (fun b => decide (b ≠ 0)))) then .next (s.complete tag cFormat 0)
  else
    .next (s.cmdGate tag 0x10 1 (fun s =>
      match (s.promoEntry 1, (List.range recs.length).find? (fun i => ((recs[i]?).bind calPlace).isNone)) with
      | (_, some i) => s.cmdRefused tag 0x10 i
      | (none, none) => s.cmdRefused tag 0x10 0
      | (some e, none) =>
        let st := s.get F.plnPromoStat_STATE [1]
        if s.standby then s.cmdRefused tag 0x10 0
        else if st ≠ 0 ∧ st ≠ 4 then s.complete tag cBusy 0
        else ((s.cmdEntry (s.hostReq tag) kChange 0 0x10 1 0 false).hostCandidate e recs).complete tag cOk 0))

/-- A list of exactly n bytes. -/
def fit (n : Nat) (l : List Byte) : List Byte := (l ++ List.replicate n 0).take n

/-- The public contents of the key store. -/
def Nv.keyBytes (n : Nv) : List Byte :=
  n.keys.flatMap (fun e => leBytes 1 e.1 ++ leBytes 4 e.2.keyId ++ leBytes 1 e.2.classes ++ leBytes 1 (b2n e.2.req) ++ fit 512 e.2.modulus ++ fit 2592 e.2.mldsa)

/-- The attestation report (Table 18.9). -/
def State.report (s : State) (nonce : Nat) : List Byte :=
  let im := s.boot.image
  let set := s.pln.inForce
  fit 512 (leBytes 8 0x4B410001 ++ leBytes 32 nonce ++ leBytes 8 (s.get F.glbSerial_SERIAL []) ++ leBytes 2 (s.get F.glbId_MODID []) ++
    leBytes 2 ((im.map FwImage.pairLevel).getD 0) ++ leBytes 4 ((im.map FwImage.svn).getD 0) ++ leBytes 4 s.nv.svnMin ++
    leBytes 4 (s.get F.parLease_EPOCH []) ++ leBytes 8 s.now ++ leBytes 8 (s.get F.glbFw_FW_VER []) ++ leBytes 64 ((im.map FwImage.digest).getD 0) ++
    leBytes 8 ((set.map PlanSet.setId).getD 0) ++ leBytes 64 ((set.map PlanSet.digest).getD 0) ++
    leBytes 4 (s.get F.plnPromoStat_VERSION [0]) ++ leBytes 4 (s.get F.plnPromoStat_VERSION [1]) ++
    leBytes 64 (s.forceDigest 0) ++ leBytes 64 (s.forceDigest 1) ++ leBytes 64 (digest s.nv.keyBytes) ++
    leBytes 8 (s.get F.jrnHead_SEQ []) ++ leBytes 64 s.jrn.headHash ++ leBytes 8 (s.get F.jrnChain_CHAIN_ID []) ++ leBytes 8 (s.rd .jrnGrant []))

/-- ATTEST (R431). -/
def execAttest (t : Tai) (tag : BitVec 16) (nonce : BitVec 256) (flags : BitVec 8) (len : Nat) (s : State) : Host.Outcome State Fault Refusal :=
  let s := s.at t
  let tag := tag.toNat
  let r := s.report nonce.toNat
  let d := Config.sha512 r
  let out := r ++ fit 512 (Config.deviceRsa d) ++ (if flags.getLsbD 0 then fit 4627 (Config.deviceMldsa d) else []) ++
    (if flags.getLsbD 1 then Config.deviceCerts.take 8192 else [])
  if 4 ≤ flags.toNat ∨ len < out.length then .next (s.complete tag cFormat 0)
  else .next (s.cmdGate tag 0x20 0 (fun s => ((s.cmdEntry (s.hostReq tag) kChange 0 0x20 0 nonce.toNat false).emit (.bufferWrite tag 0 out)).complete tag cOk 0))

/-- Shows the key store in the JRN registers (Table 18.10). -/
def State.showKeys (s : State) : State :=
  let s := (List.range 16).foldl (fun (s : State) k =>
    match Tbl.find s.nv.keys k with
    | some e => ((((s.set F.jrnKeyId_KEY_ID [k] e.keyId).set F.jrnKeyId_PRIV [k] e.classes).set F.jrnKeyId_REQ_MLDSA [k] (b2n e.req)).set
        F.jrnKeyId_VALID [k] 1).set F.jrnKeyCtr_CTR [k] e.ctr
    | none => (s.wr .jrnKeyId [k] 0).wr .jrnKeyCtr [k] 0) s
  (s.set F.jrnStat_OWNED [] (b2n (s.nv.keys.any (fun (e : Nat × KeySlot) => bitAt e.2.classes 4)))).set F.jrnGrant_PCIE [] s.nv.grant

/-- KEY_ID of a public key (R428). -/
def keyIdOf (modulus : List Byte) : Nat := digest modulus % 2 ^ 32

/-- The number of an inner operation (Table 18.8). -/
def innerCode : InnerOp → Nat
  | .regSet _ => 0x01
  | .keyInstall .. => 0x10
  | .keyRemove _ => 0x11
  | .grantSet _ => 0x12
  | .svnRaise _ => 0x20
  | .retireClear _ => 0x21
  | .resetFabric => 0x30
  | .resetModule _ => 0x31

/-- The body of a signed object, its items in the order of Table 18.8. -/
def innerBody : InnerOp → List Byte
  | .regSet ws => ws.flatMap (fun e => leBytes 4 e.1 ++ leBytes 4 0 ++ leBytes 8 e.2.toNat)
  | .keyInstall slot classes req m k => leBytes 1 slot ++ leBytes 1 classes ++ leBytes 1 (b2n req) ++ fit 512 m ++ fit 2592 k
  | .keyRemove slot => leBytes 1 slot
  | .grantSet m => leBytes 1 m
  | .svnRaise n => leBytes 4 n
  | .retireClear l => l.flatMap (fun e => leBytes 1 e.1 ++ leBytes 1 e.2)
  | .resetFabric => []
  | .resetModule f => leBytes 1 (b2n f)

/-- The digest that a signed object's signatures cover (R430, Table 18.7). -/
def objDigest (o : SignedObj) : BitVec 512 :=
  let b := innerBody o.op
  Config.sha512 (leBytes 8 0x4B430001 ++ leBytes 4 o.keyId ++ leBytes 2 o.modId ++ leBytes 1 (innerCode o.op) ++ leBytes 1 0 ++ leBytes 8 o.ctr ++
    leBytes 8 o.notAfter ++ leBytes 4 b.length ++ leBytes 28 0 ++ b)

/-- The slot whose key signs an object: that of its KEY_ID, or, while no slot holds KEYS, the key that a KEY_INSTALL installs itself
(R429). -/
def State.signer (s : State) (o : SignedObj) : Option KeySlot :=
  match s.nv.keys.find? (fun (e : Nat × KeySlot) => decide (e.2.keyId = o.keyId)) with
  | some e => some e.2
  | none =>
    match o.op with
    | .keyInstall _ classes req m k =>
      if ¬ s.on F.jrnStat_OWNED [] ∧ keyIdOf m = o.keyId then some { keyId := o.keyId, classes := classes ||| 16, req := req, modulus := m, mldsa := k, ctr := 0 }
      else none
    | _ => none

/-- Fields of an inner operation that are out of range (check 7). -/
def innerRange : InnerOp → Bool
  | .regSet ws => decide (ws.length = 0 ∨ 1024 < ws.length)
  | .keyInstall slot classes _ m _ => decide (16 ≤ slot ∨ 32 ≤ classes ∨ m.length ≠ 512)
  | .keyRemove slot => decide (16 ≤ slot)
  | .grantSet m => decide (32 ≤ m)
  | .svnRaise n => decide (2 ^ 32 ≤ n)
  | .retireClear l => l.any (fun (e : Nat × Nat) => decide (32 ≤ e.1 ∨ 8 < e.2))
  | _ => false

/-- The first of the checks 1 to 7 of R430 that an object fails. -/
def State.objectFault (s : State) (o : SignedObj) : Option Nat :=
  match s.signer o with
  | none => some 1
  | some k =>
    if ¬ Config.rsaVerify k.modulus (objDigest o) o.signature then some 2
    else if k.req && !(o.cosignature.any (fun (c : Nat) => Config.mldsaVerify k.mldsa (objDigest o) c)) then some 3
    else if o.ctr ≤ k.ctr then some 4
    else if o.notAfter < s.now then some 5
    else if o.modId ≠ s.get F.glbId_MODID [] then some 6
    else if o.fieldsOk = false ∨ innerRange o.op then some 7
    else none

/-- Whether an inner operation other than REG_SET is refused (check 8; R427 to R429, Table 18.8). -/
def State.innerRefused (s : State) : InnerOp → Bool
  | .keyInstall slot classes _ m _ =>
    let id := keyIdOf m
    decide (id = 0 ∨ 0xFFFFFFF0 ≤ id) || s.nv.keys.any (fun (e : Nat × KeySlot) => decide (e.1 ≠ slot ∧ e.2.keyId = id)) || (!s.on F.jrnStat_OWNED [] && !bitAt classes 4)
  | .keyRemove slot => (Tbl.find s.nv.keys slot).isNone || !s.nv.keys.any (fun (e : Nat × KeySlot) => decide (e.1 ≠ slot) && bitAt e.2.classes 4)
  | .grantSet m => bitAt m 3 || bitAt m 4
  | .svnRaise n => match Tbl.find s.nv.slots s.nv.pref with | some im => decide (im.svn < n) | none => true
  | _ => false

/-- Takes an object's CTR into the slot that signed it (R430). -/
def State.takeCtr (s : State) (o : SignedObj) : State :=
  let keys := s.nv.keys.map (fun (e : Nat × KeySlot) => if e.2.keyId = o.keyId then (e.1, { e.2 with ctr := o.ctr }) else e)
  let s : State := { s with nv := { s.nv with keys := keys } }
  s.showKeys

/-- A signed change of keys, fuses or resets, journalled with the key (R430). -/
def State.innerEntry (s : State) (q : Req) (op : InnerOp) : State :=
  let cls := if innerCode op < 0x20 then 0xE else 0xD
  s.journal { s.entry q.origin q.requester kChange (4096 * cls) (0xF0000000 + innerCode op) with
    keyId := q.keyId, priv := 4, flags := jSigned + (if 0x30 ≤ innerCode op then jSafety else 0) }

/-- The effect of an inner operation other than REG_SET (Table 18.8); a signed module reset without FORCE waits for the drain. -/
def State.innerEffect (s : State) (tag : Nat) : InnerOp → State
  | .keyInstall slot classes req m k =>
    { s with nv := { s.nv with keys := Tbl.put s.nv.keys slot { keyId := keyIdOf m, classes := classes, req := req, modulus := m, mldsa := k, ctr := 0 } } }
  | .keyRemove slot => { s with nv := { s.nv with keys := Tbl.del s.nv.keys slot } }
  | .grantSet m => { s with nv := { s.nv with grant := m % 32 } }
  | .svnRaise n => { s with nv := { s.nv with svnMin := max s.nv.svnMin n } }.set F.glbSvn_SVN_MIN [] (max s.nv.svnMin n)
  | .retireClear l => { s with nv := { s.nv with log := s.nv.log.filter (fun x => !l.any (fun (e : Nat × Nat) => decide (9 * e.1 + e.2 = x))) } }
  | .resetFabric => s.fabricResetStart
  | .resetModule force =>
    if force then s else { s with rst := { s.rst with wait := some (tag, s.now) } }.set F.jrnStat_RESET_WAIT [] 1
  | .regSet _ => s

/-- A signed REG_SET (R430, Table 18.8). -/
def State.signedSet (s : State) (tag : Nat) (o : SignedObj) (q : Req) (ws : List (Nat × Word)) : State :=
  match s.setVerdict q ws with
  | .ok l => ((s.takeSet q l).takeCtr o).completeAtEdge tag cOk 0
  | .lack b => (s.cmdEntry q kRefused 3 0x21 b 0 false).complete tag cPrivilege 0
  | .full => s.fullRefused.complete tag cJournalFull 0
  | .refused i => (s.setRefused q ws i).complete tag cRefused (8 + 2 ^ 32 * i)
  | .collide i =>
    match wrAt ws i with
    | some w => (s.collide q w false).completeAtEdge tag cCollide i
    | none => s

/-- SIGNED (R430). -/
def execSigned (t : Tai) (tag : BitVec 16) (o : SignedObj) (s : State) : Host.Outcome State Fault Refusal :=
  let s := s.at t
  let tag := tag.toNat
  match (s.objectFault o, s.signer o) with
  | (some c, _) => .next (s.cmdRefused tag 0x21 c)
  | (none, none) => .next (s.cmdRefused tag 0x21 1)
  | (none, some k) =>
    let q : Req := { s.hostReq tag with classes := k.classes, keyId := o.keyId }
    match o.op with
    | .regSet ws => .next (s.signedSet tag o q ws)
    | op =>
      if ¬ bitAt k.classes 4 then .next ((s.cmdEntry q kRefused 3 0x21 4 0 false).complete tag cPrivilege 0)
      else if s.on F.jrnStat_JOURNAL_FULL [] then .next (s.fullRefused.complete tag cJournalFull 0)
      else if s.innerRefused op then .next ((s.cmdEntry q kRefused 2 0x21 4 0 false).complete tag cRefused 8)
      else
        let s := ((s.innerEntry q op).innerEffect tag op).takeCtr o
        match op with
        | .resetModule true => .next ((s.complete tag cOk 0).wholeReset 2)
        | .resetModule false => .next s
        | _ => .next (s.complete tag cOk 0)

/-- RESET_WAIT_DRAINED (R424, R430): every entry has passed the host's CONS. -/
def execResetWaitDrained (t : Tai) (s : State) : Host.Outcome State Fault Refusal :=
  let s := s.at t
  match s.rst.wait with
  | some (tag, _) => .next (if s.jrn.held.isEmpty then (s.complete tag cOk 0).wholeReset 2 else s)
  | none => .next s

/-- RESET_WAIT_TIMEOUT (R430). -/
def execResetWaitTimeout (t : Tai) (s : State) : Host.Outcome State Fault Refusal :=
  let s := s.at t
  match s.rst.wait with
  | some (tag, since) =>
    .next (if since + 60000000000 ≤ t ∧ ¬ s.jrn.held.isEmpty then
      (({ s with rst := { s.rst with wait := none } }.set F.jrnStat_RESET_WAIT [] 0).complete tag cTimeout 0) else s)
  | none => .next s

/-- Whether the boot ROMs accept an image (R371), else a code of R373. The shipped image is signed (R1). -/
def State.imageFault (s : State) (im : FwImage) : Nat :=
  if im ≠ shippedImage ∧ ¬ Config.firmwareVerify im.digest im.signature then 3
  else if im.svn < s.nv.svnMin then 4
  else if im.format ≠ 0x4B460001 ∨ im.sectionsInside = false ∨ 2 ^ 27 < im.size then 5
  else 0

/-- A chunk of firmware (R373): the state and the code of a refusal, 0 for none. -/
def State.stageChunk (s : State) (offset flags : Nat) (chunk : List Byte) (img : Option FwImage) : State × Nat :=
  if offset ≠ 0 ∧ offset ≠ s.boot.stagedLen then (s, 1)
  else if 2 ^ 27 < offset + chunk.length then (s, 2)
  else
    let other := 1 - s.nv.pref
    let s := { s with boot := { s.boot with stagedLen := offset + chunk.length }, nv := { s.nv with slots := Tbl.del s.nv.slots other } }
    let s := if bitAt flags 1 then s.emit (.p0Forward 3 (offset + 2 ^ 32 * flags) chunk) else s
    if ¬ bitAt flags 0 then (s, 0)
    else
      let s := { s with boot := { s.boot with stagedLen := 0 } }
      match img with
      | none => (s, 5)
      | some im =>
        let c := if im.size ≠ offset + chunk.length ∧ s.imageFault im = 0 then 5 else s.imageFault im
        if c ≠ 0 then (s, c)
        else ({ s with nv := { s.nv with slots := Tbl.put s.nv.slots other im, pref := if bitAt flags 2 then other else s.nv.pref } }, 0)

/-- Whether a chunk's length fits (R373). -/
def chunkOk (flags : Nat) (n : Nat) : Bool := decide (flags < 8 ∧ 0 < n ∧ n ≤ 2 ^ 20 ∧ (flags % 2 = 1 ∨ n % 4096 = 0))

/-- FW_STAGE (R373, R426). -/
def execFwStage (t : Tai) (tag : BitVec 16) (offset : Nat) (flags : BitVec 8) (chunk : List Byte) (img : Option FwImage) (s : State) :
    Host.Outcome State Fault Refusal :=
  let s := s.at t
  let tag := tag.toNat
  if ¬ chunkOk flags.toNat chunk.length ∨ offset % 4096 ≠ 0 then .next (s.complete tag cFormat 0)
  else
    .next (s.cmdGate tag 0x30 0 (fun s =>
      let (s', c) := s.stageChunk offset flags.toNat chunk img
      if c = 0 then (s'.cmdEntry (s.hostReq tag) kChange 0 0x30 0 0 false).complete tag cOk 0 else s'.cmdRefused tag 0x30 c))

/-- P0_FIRMWARE_CHUNK_RECEIVED (R373, R378): as a chunk of the module's own host, and never forwarded back. -/
def execP0FirmwareChunkReceived (t : Tai) (offset : Nat) (flags : BitVec 8) (chunk : List Byte) (img : Option FwImage) (s : State) :
    Host.Outcome State Fault Refusal :=
  let s := s.at t
  let q : Req := { rank := 3, origin := 3, requester := (s.pair.rec_.map P0Record.modId).getD 0, classes := 31 }
  if ¬ chunkOk flags.toNat chunk.length ∨ offset % 4096 ≠ 0 then .next s
  else
    let (s', c) := s.stageChunk offset (flags.toNat - 2 * (flags.toNat / 2 % 2)) chunk img
    .next (s'.cmdEntry q (if c = 0 then kChange else kRefused) (if c = 0 then 0 else 2) 0x30 0 0 false)

end Sys2Proof.Machine
end

