-- ==== Sys2Proof/Machine/Mgmt.lean ====
section
/-!
DEFINITION. The management port (spec/14_host.md R339 to R341, spec/16_bringup.md R387): rack limits, sensors and addresses.
-/
namespace Sys2Proof.Machine

/-- PLDM completion codes (DSP0240, DSP0248): success, error, no such effecter or sensor (notes/assumptions/46.md). -/
def pldmOk : Nat := 0
def pldmError : Nat := 1
def pldmNoId : Nat := 0x80

/-- A valid MCTP message addressed to the module (R387): after a loss, the first is journalled. -/
def State.mctp (s : State) : State :=
  let lost := s.boot.mgmtLost
  let s := { s with boot := { s.boot with mctpAt := s.now, mgmtLost := false } }
  if lost then s.note { who := 12, cls := 0xD, act := 1, item := 16, obj := 0xF0000010 } else s

/-- MGMT as the origin of a write (Table 18.2): it needs no grant (R427). -/
def State.mgmtReq (s : State) : Req := { rank := 1, origin := 5, requester := s.boot.eid, classes := 31 }

/-- A write of RM_LIMIT of a rack (R340): refused by a standby (R345) and under JOURNAL_FULL unless it lowers the limit (R422); the host's
write of HOST_LIMIT never meets it, a mirrored write does (R425). -/
def State.rmWrite (s : State) (r v : Nat) : State × Nat :=
  let q := s.mgmtReq
  let w : Wr := { reg := .capRack, idx := [r], mask := rmMask, val := v * 2 ^ 32 }
  if s.standbyRefuses w then (s.refuse q w, pldmError)
  else if s.on F.jrnStat_JOURNAL_FULL [] ∧ ¬ s.passesFull w then (s.fullRefused, pldmError)
  else if s.loses q w then (s.collide q w false, pldmError)
  else (s.takeWrite q w, pldmOk)

/-- SET_NUMERIC_EFFECTER_VALUE (R340). -/
def execSetNumericEffecterValue (t : Tai) (effecter : Nat) (v : BitVec 32) (s : State) : Host.Outcome State Fault Refusal :=
  let s := (s.at t).mctp
  if effecter < 0x100 ∨ 0x11F < effecter then .next (s.emit (.mgmt pldmNoId []))
  else
    let (s, c) := s.rmWrite (effecter - 0x100) v.toNat
    .next (s.emit (.mgmt c []))

/-- GET_NUMERIC_EFFECTER_VALUE (R340). -/
def execGetNumericEffecterValue (t : Tai) (effecter : Nat) (s : State) : Host.Outcome State Fault Refusal :=
  let s := (s.at t).mctp
  if effecter < 0x100 ∨ 0x11F < effecter then .next (s.emit (.mgmt pldmNoId []))
  else .next (s.emit (.mgmt pldmOk (leBytes 4 (s.get F.capRack_RM_LIMIT [effecter - 0x100]))))

/-- The sensors of Table 14.10. -/
def isSensor (id : Nat) : Bool := decide ((1 ≤ id ∧ id ≤ 7) ∨ (0x10 ≤ id ∧ id ≤ 0x2F) ∨ (0x100 ≤ id ∧ id ≤ 0x103))

/-- Released caps of a rack in W (Table 14.10). -/
def State.rackPower (s : State) (r : Nat) : Nat :=
  sumOf (fun (p : Nat × Nat × Nat) => s.get F.capPkgOut_RELEASED [p.1]) (s.boundPkgs.filter (fun (p : Nat × Nat × Nat) => decide (p.2.1 = r))) / 1000

/-- The values of the sensors (Table 14.10). -/
def State.sensorValues (s : State) (r : PldmReadings) : Tbl Nat :=
  let fill := 100 * (s.get F.jrnFill_MAIN [] + s.get F.jrnFill_SAFE []) / (mainCapacity + safeCapacity)
  let l := [(1, r.dieC), (2, r.inletC), (3, r.power54), (4, r.powerFan), (5, s.get F.plnLadderStat_RUNG []), (6, s.get F.capStat_ROW_SUM []), (7, fill)] ++
    (List.range 32).map (fun k => (0x10 + k, s.rackPower k)) ++
    [(0x100, s.get F.parStat_ROLE []), (0x101, s.get F.parStat_ACT []), (0x102, s.get F.hstStat_HOST_SILENT []), (0x103, b2n (s.on F.prtStat_ANY []))]
  l.foldl (fun (t : Tbl Nat) (e : Nat × Nat) => Tbl.put t e.1 e.2) []

/-- PLDM_SENSOR_REFRESH (R341). -/
def execPldmSensorRefresh (t : Tai) (r : PldmReadings) (s : State) : Host.Outcome State Fault Refusal :=
  let s := s.at t
  .next { s with boot := { s.boot with pldm := s.sensorValues r } }

/-- GET_SENSOR_READING (R341). Before the first refresh the reading is open. -/
def execGetSensorReading (t : Tai) (sensor : Nat) (s : State) : Host.Outcome State Fault Refusal :=
  let s := (s.at t).mctp
  if ¬ isSensor sensor then .next (s.emit (.mgmt pldmNoId []))
  else
    match Tbl.find s.boot.pldm sensor with
    | some v => .next (s.emit (.mgmt pldmOk (leBytes 4 v)))
    | none => .next (s.draw.emit (.mgmt pldmOk (leBytes 4 s.drawn)))

/-- ENTDAA (R339, R387): the module takes the address and answers with its provisional identity. -/
def execEntdaa (t : Tai) (addr : BitVec 7) (s : State) : Host.Outcome State Fault Refusal :=
  let s := s.at t
  let s := { s with boot := { s.boot with dyn := addr.toNat } }
  .next (s.emit (.mgmt pldmOk (leBytes 8 (Config.provisionalId (s.get F.glbSerial_SERIAL [])).toNat)))

/-- MGMT_LOST (R387): after 10 s without a valid message. -/
def execMgmtLost (t : Tai) (s : State) : Host.Outcome State Fault Refusal :=
  let s := s.at t
  if s.boot.mgmtLost ∨ t < s.boot.mctpAt + 10000000000 then .next s
  else .next ({ s with boot := { s.boot with mgmtLost := true } }.note { who := 12, cls := 0xD, item := 16, obj := 0xF0000010 })

/-- SET_ENDPOINT_ID (R387). -/
def execSetEndpointId (t : Tai) (eid : BitVec 8) (s : State) : Host.Outcome State Fault Refusal :=
  let s := (s.at t).mctp
  .next { s with boot := { s.boot with eid := eid.toNat } }

end Sys2Proof.Machine
end

