-- ==== Sys2Proof/Machine/Startup.lean ====
section
/-!
DEFINITION. Start-up, straps, repair and the companion's store (spec/16_bringup.md R368 to R376, R389, R390; spec/09_loop_engine.md R246;
spec/20_registers.md R448).
-/
namespace Sys2Proof.Machine

/-- Latest end of a start-up phase, in ns from the start of start-up (Table 16.1); waiting for an image from the host has no limit, from
the partner 10 s (Table 16.4). -/
def State.latestEnd (s : State) (p : Nat) : Option Nat :=
  let base := match p with
    | 1 => some 50000000
    | 2 => some 450000000
    | 3 => some 1200000000
    | 4 => some 13200000000
    | _ => none
  if p = 1 then base
  else
    match s.get F.glbStat_BOOT [] with
    | 0 => base
    | 2 => base.map (fun x => x + 10000000000)
    | _ => none

/-- Whether the phase in progress has run past its latest end. -/
def State.phaseLate (s : State) : Bool :=
  match (s.boot.began, s.latestEnd (s.get F.glbStat_PHASE [])) with
  | (some b, some d) => decide (b + d < s.now)
  | _ => false

/-- A fatal start-up (R374): ERR_N stays low and no later phase runs. -/
def State.fatal (s : State) (cause : Nat) : State :=
  (((s.set F.glbStat_FATAL [] 1).set F.glbStat_FATAL_CAUSE [] cause).set F.glbStat_ERR_N [] 1).note
    { who := 12, cls := 0xD, item := 3, obj := Reg.off .glbStat [], new := cause }

/-- POWER_GOOD (R368): start-up begins where the module sits in its bay (R453) and none has begun. -/
def execPowerGood (t : Tai) (s : State) : Host.Outcome State Fault Refusal :=
  let s := s.at t
  .next (if s.boot.began.isNone ∧ s.boot.inserted then s.startUp else s)

/-- The end of phase 1: straps, identity and the partner's bay (R369, Tables 20.2, 20.4). -/
def State.endPhase1 (s : State) (i : PhaseInput) : State :=
  let s := { s with boot := { s.boot with straps := some i.straps, mctpAt := s.now } }
  let s := (s.set F.glbId_MODID [] i.straps.modId.toNat).set F.glbSerial_SERIAL [] i.serial.toNat
  let s := (s.set F.glbStat_PAIR [] (b2n i.straps.pair)).set F.glbStat_BOOT [] i.straps.boot.toNat
  let s := (s.set F.telPortMac_MAC [0] i.mac0.toNat).set F.telPortMac_MAC [1] i.mac1.toNat
  ((s.set F.parCfg_MODE [] (b2n i.straps.pair)).set F.parStat_PEER_PRSNT [] (b2n s.boot.peer)).set F.glbStat_PHASE [] 2

/-- An image of a slot, if the boot ROMs accept it. -/
def State.slotImage (s : State) (k : Nat) : Option FwImage := (Tbl.find s.nv.slots k).filter (fun (im : FwImage) => decide (s.imageFault im = 0))

/-- The first accepted image of the sources of Table 16.4: 0 preferred slot, 1 other slot, 2 partner, 3 host. -/
def State.bootImage (s : State) (i : PhaseInput) : Option (Nat × FwImage) :=
  let order : List Nat := match i.straps.boot.toNat with
    | 0 => [0, 1]
    | 1 => [3]
    | 2 => [2, 0, 1]
    | _ => [0, 1, 2, 3]
  let of : Nat → Option FwImage := fun (k : Nat) =>
    if k = 0 then s.slotImage s.nv.pref
    else if k = 1 then s.slotImage (1 - s.nv.pref)
    else (if k = 2 then i.partner else i.host).filter (fun (im : FwImage) => decide (s.imageFault im = 0))
  order.findSome? (fun (k : Nat) => (of k).map (fun im => (k, im)))

/-- Starts from an image (R372): one from outside goes to the slot that is not preferred, and is preferred from then on. -/
def State.useImage (s : State) (k : Nat) (im : FwImage) : State :=
  let slot := if k = 0 then s.nv.pref else 1 - s.nv.pref
  let s : State := if k < 2 then s else { s with nv := { s.nv with slots := Tbl.put s.nv.slots slot im, pref := slot } }
  let s : State := { s with boot := { s.boot with image := some im } }
  (s.set F.glbStat_BOOT_SLOT [] slot).set F.glbStat_BOOT_REMOTE [] (b2n (decide (2 ≤ k)))

/-- The stored companion configuration is restored from the valid copy with the higher sequence number, unless it is another
module's (R246, R389). -/
def State.restore (s : State) : State :=
  let best := s.nv.lpe.foldl (fun (m : Option LpeCopy) (e : Nat × LpeCopy) =>
    match m with
    | some c => if c.seq < e.2.seq then some e.2 else m
    | none => some e.2) none
  match best with
  | none => s
  | some c =>
    if c.modId ≠ s.modId then s.note { who := 12, cls := 0xD, act := 2, item := 4, obj := Reg.off .lpeStat [] }
    else
      let s : State := { s with regs := c.regs.foldl (fun (r : Tbl Word) (e : Nat × Word) => Tbl.put r e.1 e.2) s.regs }
      let s := (List.range 256).foldl (fun (s : State) n => if s.on F.lpeChCfg_MODE [n] then s.setChan n { s.chan n with modes := [s.get F.lpeChCfg_MODE [n]] } else s) s
      s.set F.lpeStat_RESTORED [] 1

/-- The end of phase 2: the image, the fuse minimum and the restore (R371, R372, R389). -/
def State.endPhase2 (s : State) (i : PhaseInput) : State :=
  let low := max s.nv.svnMin i.svnMin
  let s : State := { s with nv := { s.nv with svnMin := low } }.set F.glbSvn_SVN_MIN [] low
  match s.bootImage i with
  | none => s.fatal 1
  | some (k, im) => ((s.useImage k im).restore).set F.glbStat_PHASE [] 3

/-- The end of phase 3: version of the running image (Table 20.3). -/
def State.endPhase3 (s : State) : State :=
  let im := s.boot.image
  ((s.set F.glbFw_FW_VER [] ((im.map FwImage.fwVer).getD 0)).set F.glbSvn_SVN [] ((im.map FwImage.svn).getD 0)).set F.glbStat_PHASE [] 4

/-- The physical positions that logical indices 0 to 7 map to, four bits each, 0xF for none (R375). -/
def logicalMap (bad : Nat) : Nat :=
  let good := ((List.range 9).filter (fun (k : Nat) => !bitAt bad k)).take 8
  (List.range 8).foldl (fun (m : Nat) i => m + (good.getD i 0xF) * 2 ^ (4 * i)) 0

/-- Repair of a hummock (R375): the union of the fuse map, the start-up test and the retirement log; a bad SRAM bank disables all. -/
def State.repair (s : State) (i : PhaseInput) (h : Nat) : State :=
  let fuse := i.fuse.getD h 0 % 512
  let logged := (List.range 9).foldl (fun (m : Nat) k => if s.nv.log.contains (9 * h + k) then setBits m k 1 1 else m) 0
  let test := (i.test.getD h 0 % 512) ||| logged
  let sram := i.sramBad.contains h
  let map := logicalMap (if sram then 511 else fuse ||| test)
  (((s.set F.humMap_LOG [h] map).set F.humMap_FUSE [h] fuse).set F.humMap_TEST [h] test).set F.humMap_SRAM_BAD [h] (b2n sram)

/-- Logical tussocks with a position (R22, R375). -/
def State.mapped (s : State) (t : Nat) : Bool := decide (bits (s.get F.humMap_LOG [hummockOf t]) (4 * (t % 8)) 4 ≠ 0xF)

/-- The end of phase 4: repair, the journal's new chain, and what start-up loads at its end (R375, R424, Tables 15.9, 18.10). -/
def State.endPhase4 (s : State) (i : PhaseInput) : State :=
  if i.routerBad then s.fatal 3
  else if i.hbmBad then s.fatal 4
  else
    let s := (List.range 32).foldl (fun (s : State) h => s.repair i h) s
    let s := s.set F.glbStat_USABLE [] ((List.range 256).filter s.mapped).length
    let s := (List.range 4).foldl (fun (s : State) w => s.set F.plnRetired_RETIRED [w]
      (sumOf (fun i => if s.mapped (64 * w + i) then 0 else 2 ^ i) (List.range 64))) s
    let s := (s.set F.glbStat_ERR_N [] 0).set F.glbStat_PHASE [] 5
    ((s.set F.parLease_EPOCH [] s.nv.epoch).showKeys).genesis (s.get F.glbStat_RESET_CAUSE [])

/-- STARTUP_PHASE_COMPLETE (R368). A phase that ends late is fatal (R374); after SHUTDOWN start-up waits until the die reads below 90 °C
(R408). -/
def execStartupPhaseComplete (t : Tai) (inp : PhaseInput) (s : State) : Host.Outcome State Fault Refusal :=
  let s := s.at t
  if s.boot.began.isNone ∨ s.on F.glbStat_FATAL [] then .next s
  else if s.get F.glbStat_PHASE [] = 1 ∧ s.get F.glbStat_RESET_CAUSE [] = 3 ∧ 90 ≤ inp.dieC then
    .next { s with boot := { s.boot with began := some t } }
  else if s.phaseLate then .next (s.fatal 2)
  else
    match s.get F.glbStat_PHASE [] with
    | 1 => .next (s.endPhase1 inp)
    | 2 => .next (s.endPhase2 inp)
    | 3 => .next s.endPhase3
    | 4 => .next (s.endPhase4 inp)
    | _ => .next s

/-- PHASE_OVERRUN (R374). -/
def execPhaseOverrun (t : Tai) (s : State) : Host.Outcome State Fault Refusal :=
  let s := s.at t
  .next (if s.on F.glbStat_FATAL [] ∨ ¬ s.phaseLate then s else s.fatal 2)

/-- STRAP_CHECK (R369): a line that differs from its latched value sets STRAP_CHG; the first check that finds it counts and journals. -/
def execStrapCheck (t : Tai) (lines : Straps) (s : State) : Host.Outcome State Fault Refusal :=
  let s := s.at t
  match s.boot.straps with
  | none => .next s
  | some l =>
    if lines = l then .next { s with boot := { s.boot with strapDiff := false } }
    else
      let first := !s.boot.strapDiff
      let s := ({ s with boot := { s.boot with strapDiff := true } }).set F.glbStat_STRAP_CHG [] 1
      .next (if first then (s.bump F.glbCnt_STRAP_CHG [] 1).note { who := 12, cls := 0xD, item := 9, obj := Reg.off .glbStat [], new := 1 } else s)

/-- HB_TOGGLE (R368): HB toggles while the companion controller's microcode runs. -/
def execHbToggle (t : Tai) (s : State) : Host.Outcome State Fault Refusal :=
  let s := s.at t
  .next (if s.boot.image.isSome then { s with boot := { s.boot with hb := !s.boot.hb } } else s)

/-- PRSNT_N_CHANGE (R390, R453): of the partner's bay the flag is shown; removal of the module itself cuts its 54 V. -/
def execPrsntNChange (t : Tai) (partner present : Bool) (s : State) : Host.Outcome State Fault Refusal :=
  let s := s.at t
  if partner then
    let s := { s with boot := { s.boot with peer := present } }
    .next (if s.boot.straps.isSome then s.set F.parStat_PEER_PRSNT [] (b2n present) else s)
  else
    let s := { s with boot := { s.boot with inserted := present } }
    .next (if present then s else s.wholeReset 0)

/-- SAVE_COMPLETE (R389): the copy is valid from now on. -/
def execSaveComplete (t : Tai) (s : State) : Host.Outcome State Fault Refusal :=
  let s := s.at t
  match s.boot.saving with
  | none => .next s
  | some c =>
    .next ({ s with boot := { s.boot with saving := none }, nv := { s.nv with lpe := Tbl.put s.nv.lpe s.nv.olderCopy c } }.set F.lpeStat_SAVE_BUSY [] 0)

end Sys2Proof.Machine
end

