-- ==== Sys2Proof/Machine/Image.lean ====
section
/-!
DEFINITION. The state copy of a pair: images and snapshot streams, mirrored writes, the shadow compare, eligibility and the configuration
transfer (spec/15_pairing.md R344, R345, R353, R355 to R359, spec/16_bringup.md R380, R391).
-/
namespace Sys2Proof.Machine

/-- The image of the frame that ends (R46, R355): `done` are the partitions whose run completed in it. -/
def State.makeImage (s : State) (b : OutBlock) (done : List Nat) : StateImage :=
  let part := fun (g : Region) => !g.old && done.contains g.part
  { frame := s.frame, complete := true, leaseEpoch := s.get F.parLease_EPOCH [], rung := s.get F.plnLadderStat_RUNG [],
    placements := sumOf (fun p => 16 ^ p * s.get F.plnPart_PLACE [p]) (List.range 8), done := done.foldl (fun (m : Nat) p => m ||| 2 ^ p) 0,
    missWin := s.get F.plnLadderStat_MISSWIN [], upCurLog := s.get F.plnLadderStat_UP_CUR_LOG [],
    probation := s.on F.plnLadderStat_PROBATION [], lastStep := s.lad.last, block := b, prevCaps := s.cap.prev,
    carried := (s.regions.filter part).map (fun g => (g.bank0, Mem.bytes s.hbm (if g.cur then g.bank1 else g.bank0) g.len)),
    ripple := ((List.range 32).filter (fun i => decide ((s.ripple i).off ≠ 0))).map (fun i => (i, (s.ripple i).off)),
    writes := s.pair.writes, setId := s.setId, versionW := s.get F.plnPromoStat_VERSION [0], versionC := s.get F.plnPromoStat_VERSION [1],
    digestW := s.forceDigest 0, digestC := s.forceDigest 1, pairLevel := (s.boot.image.map FwImage.pairLevel).getD 0 }

/-- An active sends its image over P0 (R355); writes accepted while none can be sent do not travel. -/
def State.sendImage (s : State) (b : OutBlock) (done : List Nat) : State :=
  let go := decide (s.get F.parStat_ROLE [] = 2) && s.on F.parStat_P0_UP []
  let img := s.makeImage b done
  let s : State := { s with pair := { s.pair with writes := [] } }
  if go then s.emit (.p0Image img) else s

/-- An image is counted as lost, and the standby is not eligible (R344, R345, R355). -/
def State.imageLost (s : State) : State := (s.bump F.parCnt_IMG_LOST [] 1).toSync

/-- STATE_IMAGE_RECEIVED (R345, R355): an incomplete image is lost; of a complete one the writes wait for the seal window. Before the set of
a configuration transfer is in force the image itself is discarded (R391). -/
def execStateImageReceived (t : Tai) (img : StateImage) (s : State) : Host.Outcome State Fault Refusal :=
  let s := s.at t
  if ¬ s.standby ∨ ¬ s.on F.parStat_P0_UP [] then .next s
  else
    let p := { s.pair with seenEpoch := max s.pair.seenEpoch img.leaseEpoch, imgSeen := some img.frame }
    if ¬ img.complete then .next (if s.pair.transfer then s else { s with pair := p }.imageLost)
    else
      let p := { p with inbox := p.inbox ++ [img.writes] }
      .next { s with pair := if s.pair.transfer then p else { p with img := some img } }

/-- SNAPSHOT_STREAM_RECEIVED (R355, R358): the snapshot that the next shadow frame is served. -/
def execSnapshotStreamReceived (t : Tai) (frame : Nat) (units : List (Nat × Unit64)) (s : State) : Host.Outcome State Fault Refusal :=
  let s := s.at t
  .next (if s.standby ∧ s.on F.parStat_P0_UP [] then { s with pair := { s.pair with snapNext := some (frame, units) } } else s)

/-- The partner as the maker of a mirrored write (R345, R427, Table 18.3). -/
def State.mirrorReq (s : State) (m : MirrorWrite) : Req :=
  { rank := 3, origin := 3, requester := s.get F.parCfg_PARTNER_ID [], classes := 31, data := m.origin + 2 ^ 32 * m.requester }

/-- One mirrored write: the state after it, and whether it was refused. -/
def State.mirrorOne (whole : Nat → Bool) (a : State × Bool) (m : MirrorWrite) : State × Bool :=
  let s := a.1
  match Reg.lookup m.off with
  | none => (s, true)
  | some (r, idx) =>
    let w : Wr := { reg := r, idx := idx, mask := m.mask.toNat, val := m.value.toNat }
    let q := s.mirrorReq m
    if s.on F.jrnStat_JOURNAL_FULL [] ∧ ¬ s.passesFull w then (s.fullRefused, true)
    else if s.held.refuses whole w then (s.refuse q w, true)
    else (s.takeWrite q w, a.2)

/-- The writes of one image (R345). -/
def State.mirrorImage (s : State) (l : List MirrorWrite) : State :=
  let ws : List Wr := l.filterMap (fun m => (Reg.lookup m.off).map (fun g => { reg := g.1, idx := g.2, mask := m.mask.toNat, val := m.value.toNat }))
  let (s, bad) := l.foldl (fun (a : State × Bool) m => State.mirrorOne (wholeTable ws) a m) (s, false)
  if bad then s.imageLost else s

/-- The seal window applies the writes of the images that have completed (R345). -/
def State.mirrorIn (s : State) : State :=
  let l := s.pair.inbox
  l.foldl State.mirrorImage { s with pair := { s.pair with inbox := [] } }

/-- A kind's bank and version follow the active's: the standby's mapping flips when the active's bank in force is the one that the standby
holds as candidate (R219, R220, R344). -/
def State.followPromo (s : State) (k version dig : Nat) : State :=
  match s.promoEntry k with
  | none => s
  | some e =>
    let old := s.get F.plnPromoStat_VERSION [k]
    if old = version ∨ s.forceDigest k = dig ∨ s.candidateDigest k e ≠ dig then s
    else
      let p := s.promoAt k
      ((s.setPromo k { p with bankB := !p.bankB }).set F.plnPromoStat_VERSION [k] version).note
        { who := 0, cls := 3, item := 16, obj := Reg.off .plnPromoStat [k], old := old, new := version, data := dig }

/-- An image becomes current: carried state, standing outputs, released caps, ripple offsets, ladder state and promotions (R168, R190,
R353, R355, R358). -/
def State.makeCurrent (s : State) (img : StateImage) : State :=
  let m := img.carried.foldl (fun (m : Mem) c =>
    match s.regions.find? (fun g => decide (g.bank0 = c.1) && !g.old) with
    | some g => Mem.setBytes m (if g.cur then g.bank1 else g.bank0) (c.2.take g.len)
    | none => m) s.hbm
  let outs := img.block.outs.foldl (fun (t : Tbl Nat) (e : Nat × BitVec 32) => Tbl.put t e.1 e.2.toNat) []
  let rip := (List.range 32).foldl (fun (s : State) i =>
    s.setRipple i { s.ripple i with off := ((img.ripple.find? (fun e => decide (e.1 = i))).map Prod.snd).getD 0 }) s
  let s : State := { rip with hbm := m, frm := { s.frm with outs := outs }, lad := { s.lad with last := img.lastStep } }
  let caps := img.prevCaps.foldl (fun (t : Tbl Nat) (e : Nat × Nat) => Tbl.put t e.1 e.2) []
  let s : State := { s with cap := { s.cap with prev := caps, first := img.block.outs.any (fun e => decide (e.1 < 1024)), live := caps.map Prod.fst } }
  let s := (s.set F.plnLadderStat_MISSWIN [] img.missWin).set F.plnLadderStat_UP_CUR_LOG [] img.upCurLog
  let s := (s.set F.plnLadderStat_PROBATION [] (b2n img.probation)).set F.plnLadderStat_LAST_STEP [] img.lastStep
  (s.followPromo 0 img.versionW img.digestW).followPromo 1 img.versionC img.digestC

/-- Whether two values of an output class differ by more than TOL, Q16 in the class's unit (R359, Tables 5.8, 15.10): caps are in mW,
digital outputs 0 or 1, the others Q16. -/
def beyond (cls tol : Nat) (a b : Nat) : Bool :=
  let d := (signed 32 a - signed 32 b).natAbs
  match cls with
  | 0 => decide (tol * 1000 < ((a : Int) - b).natAbs * 65536)
  | 5 => decide (tol < ((a : Int) - b).natAbs * 65536)
  | _ => decide (tol < d)

/-- Whether the data of two CAN transmits differ by more than TOL in a signed 32-bit word from byte 4 on (R359). -/
def canBeyond (tol : Nat) (a b : List Byte) : Bool :=
  let word := fun (l : List Byte) (i : Nat) => signed 32 (ofLeBytes (((l.drop (4 + 4 * i)).take 4 ++ List.replicate 4 0).take 4))
  (List.range 15).any (fun i => decide (tol < (word a i - word b i).natAbs * 65536))

/-- What a frame committed on one module: partitions whose run completed, outputs and CAN transmits. -/
structure Committed where
  done : Nat
  outs : Tbl Nat
  can : Tbl (List Byte)
deriving DecidableEq, Repr

/-- Outputs compared in a frame, each with whether it is beyond tolerance or committed by one module only (R359). -/
def State.compared (s : State) (a b : Committed) : List (Nat × Bool) :=
  let tol := fun (k : Nat) => s.get F.parTol_TOL [k]
  let outs := (s.plans.filter (fun q => decide (q.role ≠ .learning))).flatMap (fun q =>
    let keys := q.outputs.flatMap (fun o => (List.range o.2.2).map (fun i => 1024 * o.1 + o.2.1 + i))
    let of := fun (c : Committed) (k : Nat) => if bitAt c.done q.partition then Tbl.find c.outs k else none
    keys.filterMap (fun k =>
      match (of a k, of b k) with
      | (some x, some y) => some (k, beyond (k / 1024) (tol (min 6 (k / 1024))) x y)
      | (none, none) => none
      | _ => some (k, true)))
  let can := ((a.can ++ b.can).map Prod.fst).eraseDups.map (fun k =>
    (0x10000 + k, match (Tbl.find a.can k, Tbl.find b.can k) with
      | (some x, some y) => canBeyond (tol 7) x y
      | _ => true))
  outs ++ can

/-- PERSIST that an output falls under. -/
def State.persistOf (s : State) (k : Nat) : Nat := s.get F.parTol_PERSIST [if 0x10000 ≤ k then 7 else min 6 (k / 1024)]

/-- The compare of a frame (R344, R359): counts of consecutive frames, the divergences, and CLEAN_F. -/
def State.compareWith (s : State) (a b : Committed) : State :=
  let l := s.compared a b
  let tab := l.foldl (fun (t : Tbl Nat) (e : Nat × Bool) => if e.2 then Tbl.put t e.1 (Tbl.at t e.1 0 + 1) else Tbl.del t e.1) s.pair.tol
  let out := (l.filter (fun e => e.2 && decide (s.persistOf e.1 ≤ Tbl.at tab e.1 0))).map Prod.fst
  let tab := out.foldl (fun (t : Tbl Nat) k => Tbl.del t k) tab
  let s : State := { s with pair := { s.pair with tol := tab } }
  if out.isEmpty then s.bump F.parStat_CLEAN_F [] 1
  else
    let s := (s.set F.parStat_SHADOW_DIVERGE [] 1).bump F.parCnt_DIVERGE_OUT [] out.length
    (s.note { who := 4, cls := 0xB, item := 8, obj := Reg.off .parStat [], old := s.work, new := out.length, data := out.headD 0,
              raised := some (evAlarm, 1, out.headD 0) }).toSync

/-- The image's set is the one that went out of force at the epoch edge after the image's frame. -/
def State.setJustOut (s : State) (img : StateImage) : Bool :=
  s.pln.old.any (fun o => decide (o.setId = img.setId)) && decide (img.frame + 1 + s.eLen = s.get F.frmNextEpoch_NEXT [])

/-- Whether the conditions of R344 and R380 hold beside CLEAN_F. -/
def State.matches_ (s : State) (img : StateImage) : Bool :=
  let level := (s.boot.image.map FwImage.pairLevel).getD 0
  decide (img.setId = s.setId ∧ img.versionW = s.get F.plnPromoStat_VERSION [0] ∧ img.versionC = s.get F.plnPromoStat_VERSION [1] ∧
    img.digestW = s.forceDigest 0 ∧ img.digestC = s.forceDigest 1 ∧ (level = img.pairLevel ∨ level = img.pairLevel + 1))

/-- Eligibility after a frame (R344, R380). -/
def State.eligibility (s : State) (img : StateImage) : State :=
  if s.setJustOut img then s
  else if ¬ s.matches_ img then s.toSync
  else if s.get F.parStat_CLEAN_F [] < s.get F.parCfg_ELIG_F [] then (if s.get F.parStat_ROLE [] = 4 then s.toSync else s)
  else if s.get F.parStat_ROLE [] = 3 then s.setRole 4
  else s

/-- Runs of a shadow that end: what they would have committed. Their exchange windows become current; nothing else leaves them (R358). -/
def State.shadowDone (s : State) : State × Committed :=
  let l := s.ending.filter (fun r => !r.old)
  let c : Committed :=
    { done := l.foldl (fun (m : Nat) r => m ||| 2 ^ r.part) 0,
      outs := l.foldl (fun (t : Tbl Nat) r => r.emits.foldl (fun (t : Tbl Nat) (e : Nat × Nat) => Tbl.put t e.1 e.2) t) s.frm.outs,
      can := l.foldl (fun (t : Tbl (List Byte)) r => r.can.foldl (fun (t : Tbl (List Byte)) (e : Nat × Nat × List Byte) =>
        Tbl.put t e.1 (padTo e.2.1 e.2.2)) t) [] }
  let s := l.foldl (fun (s : State) r => (s.commitExchange r).bump F.obsPart3_RUNS [r.part] 1) s
  let s := s.takeClamp l
  ({ s with runs := s.runs.filter (fun r => !decide (r.start + r.plan.depth = s.work)) }.lateFlips, c)

/-- What an image's frame committed. -/
def committedOf (img : StateImage) : Committed :=
  { done := img.done, outs := img.block.outs.foldl (fun (t : Tbl Nat) (e : Nat × BitVec 32) => Tbl.put t e.1 e.2.toNat) [],
    can := img.block.can.foldl (fun (t : Tbl (List Byte)) e => Tbl.put t e.1 (padTo e.2.1 e.2.2)) [] }

/-- Whether a partition of the shadow missed its deadline. -/
def State.shadowMissed (s : State) : Bool :=
  s.plans.any (fun q => decide (q.role ≠ .learning) && bitAt s.rcd.missed q.partition)

/-- The seal window of a standby (R344, R345, R355, R358, R359): mirrored writes, the compare where image and shadow are of one frame, set and
rung, and the image made current. An image of a shadowed frame that has not come is lost. -/
def State.standbySeal (s : State) (mine : Committed) : State :=
  let s := s.mirrorIn
  let ran := decide (s.pair.shadow = some s.work)
  match s.pair.img with
  | some img =>
    if img.frame = s.work then
      let s := if ran ∧ s.shadowMissed then s.bump F.parCnt_SHADOW_MISS [] 1 else s
      let same := decide (img.setId = s.setId) && decide (img.rung = s.get F.plnLadderStat_RUNG [])
      let s := if ran ∧ ¬ s.shadowMissed ∧ same then s.compareWith mine (committedOf img) else s
      let s := (s.makeCurrent img).eligibility img
      { s with frm := { s.frm with sealed_ := some img.block } }
    else if ran ∧ s.pair.imgSeen ≠ some s.work then s.imageLost
    else s
  | none => if ran ∧ s.pair.imgSeen ≠ some s.work then s.imageLost else s

/-- The fields of a register that a configuration transfer carries. -/
def Reg.carries (r : Reg) : Nat :=
  sumOf (fun (f : Fld) => match f.acc with
    | .rw | .lk => f.mask
    | _ => 0) r.fields ||| (if r = .capRack then rmMask else 0)

/-- One register of a configuration transfer (R391): written with its entry and what the change does besides. -/
def State.confWrite (q : Req) (s : State) (e : Nat × Word) : State :=
  match Reg.lookup e.1 with
  | none => s
  | some (r, idx) =>
    let m := r.carries &&& r.shared
    let old := s.rd r idx
    let new := (old &&& (2 ^ 64 - 1 - m)) ||| (e.2.toNat &&& m)
    if r.ownPort ∨ r = .plnArm ∨ old = new then s
    else
      let w : Wr := { reg := r, idx := idx, mask := m, val := e.2.toNat }
      State.effect s ((s.wr r idx new).writeEntry q kChange 0 w.off old new (privBit r.classes) q.data) w

/-- A bank of a configuration transfer becomes the bank in force. -/
def State.confBank (s : State) (k version : Nat) (data : List Byte) : State :=
  match s.promoEntry k with
  | some e =>
    if data.length ≠ e.len then s
    else { s with hbm := Mem.setBytes s.hbm (bankInForce (s.promoAt k) e) data }.set F.plnPromoStat_VERSION [k] version
  | none => s

/-- A configuration transfer ends. -/
def State.confDone (s : State) : State := { s with pair := { s.pair with transfer := false, conf := none } }

/-- The transferred set is in force, and with it the banks. -/
def State.confForce (s : State) (c : ConfigTransfer) : State := ((s.confBank 0 c.versionW c.bankW).confBank 1 c.versionC c.bankC).confDone

/-- After the swaps of an edge: a transfer ends when its set is in force, or was refused there. -/
def State.confEdge (s : State) : State :=
  match s.pair.conf with
  | none => s
  | some c =>
    let st := s.get F.plnStageStatus_STATE []
    if c.set.any (fun i => decide (i.setId = s.setId)) then s.confForce c
    else if st = 4 ∨ st = 5 then s
    else s.confDone

/-- The transferred set is checked and armed for the next epoch edge. -/
def State.confStage (s : State) (c : ConfigTransfer) (img : PlanSet) : State :=
  let st := s.get F.plnStageStatus_STATE []
  if 3 < st then s.confDone
  else
    let s := if st = 2 ∨ st = 3 then s.emptyStage else s
    let s := (s.setStage 1).stageResult img
    let target := s.get F.frmEpoch_EPOCH [] + 1
    if s.get F.plnStageStatus_STATE [] = 2 ∧ (s.armRefusal target).isNone then { s with pair := { s.pair with conf := some c } }.armStart target
    else s.confDone

/-- CONFIG_TRANSFER_COMPLETE (R391): the registers as one change, the LPE save, then the plan set. -/
def execConfigTransferComplete (t : Tai) (c : ConfigTransfer) (s : State) : Host.Outcome State Fault Refusal :=
  let s := s.at t
  if ¬ s.pair.transfer ∨ s.pair.conf.isSome ∨ ¬ s.standby then .next s
  else
    let q := s.mirrorReq { off := 0, mask := 0, value := 0, origin := 3, requester := s.get F.parCfg_PARTNER_ID [] }
    let s := (c.writes.foldl (State.confWrite q) s).saveStart
    .next (match c.set with
      | none => s.confDone
      | some img =>
        if s.pln.inForce.any (fun o => decide (o.setId = img.setId ∧ o.digest = img.digest)) then s.confForce c
        else s.confStage c img)

end Sys2Proof.Machine
end

