-- ==== Sys2Proof/Machine/Frame.lean ====
section
/-!
DEFINITION. The frame: its edges in the order of Table 2.4, the seal window, the ripples that start and end at edges, the first frame edge
and the claim (spec/02_frame.md R40 to R58, spec/08_calibration.md R207 to R210, spec/15_pairing.md R348 to R353).
-/
namespace Sys2Proof.Machine

/-- Keys of snapshot units: 0x20000·class + unit (Table 5.7). -/
def unitKey (cls unit : Nat) : Nat := cls * 0x20000 + unit

/-- Step 1 of Table 2.4: the streams, and the companion's part but for channel states, which is on its way (R41, R273, R309). -/
def State.latch (s : State) : State :=
  let s : State := { s with snap := s.snap.filter (fun e => decide (e.1 < unitKey 2 0)) }
  let s := s.latchStreams
  let p := s.takeFifos
  let s := p.1.clearNew
  let plant := (List.range 129).map (fun e => (unitKey 2 e, s.pioUnit e))
  let drive := (List.range 12).map (fun e => (unitKey 4 e, s.drvUnit e))
  let can := p.2.map (fun e => (unitKey 5 e.1, e.2))
  { s with fab := { s.fab with comp := plant ++ drive ++ can }, pio := { s.pio with dinDelta := 0 } }

/-- The header of the snapshot (R142), once the edge has settled what the frame runs with (notes/assumptions/55.md). -/
def State.header (s : State) : Nat :=
  let place := match s.rolePlan .control with
    | some q => s.get F.plnPart_PLACE [q.partition]
    | none => 0
  s.frame + 2 ^ 64 * s.fab.tai0 + 2 ^ 128 * s.get F.frmEpoch_EPOCH [] + 2 ^ 160 * s.get F.parLease_EPOCH [] +
  2 ^ 192 * s.get F.plnLadderStat_RUNG [] + 2 ^ 200 * place

/-- Entry n of snapshot class 3 (R247). -/
def State.chanUnit (s : State) (n : Nat) : Nat := sumOf (fun k => 2 ^ (64 * k) * s.get F.lpeChs_WORD [n, k]) (List.range 8)

/-- The shadow's snapshot on a standby (R358): the frame's header gives the rung; the module's own snapshot stays beside it. -/
def State.shadowEdge (s : State) : State :=
  let own := s.snap ++ s.fab.comp
  let s : State := { s with fab := { s.fab with comp := own }, snap := [], pair := { s.pair with shadow := none } }
  match s.pair.snapNext with
  | none => s
  | some (f, units) =>
    if f ≠ s.work ∨ s.pair.transfer then s
    else
      let s : State := { s with snap := units.foldl (fun (t : Tbl Nat) (e : Nat × Unit64) => Tbl.put t e.1 e.2.toNat) [], pair := { s.pair with shadow := some f } }
      s.shadowRung (bits (s.snapUnit 0 0) 192 2)

/-- A new frame period and epoch length at an epoch edge (R50, R51). -/
def State.periodEdge (s : State) : State :=
  let k := s.get F.frmStat_PERIOD_K []
  let m := s.get F.frmStat_EPOCH_M []
  let due := fun (p : Option (Nat × Nat)) (old : Nat) =>
    match p with
    | some (v, a) => if eligible a s.now s.fab.closed then v else old
    | none => old
  let k' := due s.pln.period k
  let m' := due s.pln.epochLen m
  if (k' = k ∧ m' = m) ∨ s.now % (2 ^ m' * periodNs k') ≠ 0 then s
  else
    let p := { s.pln with period := if k' = k then s.pln.period else none, epochLen := if m' = m then s.pln.epochLen else none }
    let s := ({ s with pln := p }.set F.frmStat_PERIOD_K [] k').set F.frmStat_EPOCH_M [] m'
    (s.set F.frmStat_PENDING [] (b2n (p.period.isSome || p.epochLen.isSome))).note
      { who := 0, cls := 4, item := 1, obj := Reg.off .frmStat [], old := k + 16 * m, new := k' + 16 * m' }

/-- Partitions whose tussock was retired are held from this edge on (R171). -/
def State.holdEdge (s : State) : State :=
  (s.pln.holds.foldl (fun (s : State) e => s.set F.plnPart_HELD [e.1] 1) s).ladderFlags

/-- Step 3 of Table 2.4, after `FRM_EPOCH` has been set. The swap of a row-only image counts as a plan swap, for check SWAP of Table 8.11 as
for R167 (DESIGN CHOICE, notes/assumptions/150.md). -/
def State.epochStep (s : State) : State :=
  let s := s.periodEdge
  let s := s.set F.frmNextEpoch_NEXT [] (s.frame + s.eLen)
  let s := s.domEdge
  let staged := s.pln.staged.isSome
  let s := s.swapEdge
  let swapped := staged && s.pln.staged.isNone
  let s := (s.confEdge.placesEdge).promoEdge swapped
  let s := s.checkpointDue.epochFolds
  s.writePage.signalVec 4

/-- The 31-bit sequence of R207: x^5 + x^3 + 1 from all ones (notes/assumptions/56.md). -/
def prbs (k : Nat) : Bool :=
  let r := (List.range k).foldl (fun (r : Nat) _ => r / 2 + 16 * ((r + r / 4) % 2)) 31
  decide (r % 2 = 1)

/-- Offset of a ripple in its frame k, in Q16 (R207). -/
def State.rippleValue (s : State) (i k : Nat) : Int :=
  let amp := s.getI F.lpeRplAmp_AMP [i]
  let up := if s.get F.lpeRplCfg_SHAPE [i] = 0 then decide (2 * k < s.rippleDur i) else prbs (k / 2 ^ s.get F.lpeRplCfg_BITLEN [i])
  if up then amp else -amp

/-- The partition conditions of R209, from the frame that ended. -/
def State.ripplePartsOk (s : State) (last : Rec) : Bool :=
  [Role.control, Role.sensorFusion].all (fun r =>
    (s.rolePlan r).any (fun q => bitAt last.finished q.partition && !bitAt last.missed q.partition && !s.on F.plnPart_HELD [q.partition] &&
      !s.on F.plnPart_NO_PLACE [q.partition]))

/-- Whether the committed target with the ripple stays within the channel's limits (R209). -/
def State.rippleFits (s : State) (i : Nat) : Bool :=
  let n := s.get F.lpeRplCfg_CH [i]
  let a := s.getI F.lpeRplAmp_AMP [i]
  (s.chan n).tgt.any (fun t => decide (s.getI F.lpeChTlim_TMIN [n] ≤ t - a ∧ t + a ≤ s.getI F.lpeChTlim_TMAX [n]))

/-- A ripple that cannot start is skipped for the epoch (R209). -/
def State.rippleSkip (s : State) (i : Nat) : State :=
  ((s.setRipple i { s.ripple i with st := 4, off := 0 }).bump F.obsRpl_SKIP [] 1).note (rippleNote i 2 4)

/-- One armed descriptor at a frame edge (R207 to R210): f is the frame's number in its epoch. -/
def State.rippleEdge (last : Rec) (f : Nat) (s : State) (i : Nat) : State :=
  let x := s.ripple i
  let fits := decide (s.get F.lpeRplCfg_START [i] + s.rippleDur i + s.get F.lpeRplAmp_SETTLE [i] ≤ s.eLen)
  let s := if f = 0 ∧ x.st ≠ 1 then s.setRipple i { x with st := 0, off := 0 } else s
  let x := s.ripple i
  if x.st = 1 then
    let k := s.frame - x.start
    if s.rippleDur i ≤ k then
      let settle := s.get F.lpeRplAmp_SETTLE [i]
      ((s.setRipple i { x with st := if settle = 0 then 0 else 2, off := 0, settled := s.frame + settle }).bump F.obsRpl_END [] 1).note (rippleNote i 1 1)
    else if ¬ (s.rippleMay i && s.ripplePartsOk last) then s.rippleAbort i
    else s.setRipple i { x with off := s.rippleValue i k }
  else if x.st = 2 then (if x.settled ≤ s.frame then s.setRipple i { x with st := 0 } else s)
  else if ¬ s.on F.lpeRplCfg_ARM [i] ∨ x.st ≠ 0 then s
  else if f = 0 ∧ ¬ fits then s.rippleSkip i
  else if f ≠ s.get F.lpeRplCfg_START [i] then s
  else if s.rippleMay i && s.ripplePartsOk last && s.rippleFits i then
    ((s.setRipple i { x with st := 1, start := s.frame, off := s.rippleValue i 0 }).bump F.obsRpl_START [] 1).note (rippleNote i 0 1)
  else s.rippleSkip i

/-- The ripples at a frame edge; those of a standby are the active's (R355). -/
def State.ripplesEdge (s : State) (last : Rec) : State :=
  if ¬ s.holder then s
  else
    let f := s.frame + s.eLen - s.get F.frmNextEpoch_NEXT []
    (List.range 32).foldl (State.rippleEdge last f) s

/-- Step 2 of Table 2.4: the sealed block goes out (R42, R186, R313). In a fabric reset nothing does (R385). -/
def State.releaseEdge (s : State) : State :=
  if s.rst.fabric then { s with frm := { s.frm with sealed_ := none, released := none }, cap := { s.cap with pend := none } }
  else
    let s : State := { s with frm := { s.frm with released := s.frm.sealed_, sealed_ := none } }
    s.releaseCaps.flushCompletions.sendTraces

/-- The accepted writes that take effect at a frame edge (R52). -/
def State.frameWrites (s : State) : State :=
  s.acs.later.foldl (fun (s : State) w => State.effect s (s.wrote w) w) { s with acs := { s.acs with later := [] } }

/-- What a new frame starts with, and what is left of the last. -/
def State.newRec (s : State) : State :=
  { s with rcd := { clamp := s.rcd.clamp, overdue := s.overdueSum, repl := s.replSum }, acs := {}, lpe := { s.lpe with got := false } }

/-- Steps 1 to 5 of Table 2.4 for the frame that the counters now name. -/
def State.edge (s : State) (t : Tai) (actIn epochEdge first : Bool) : State :=
  let last := s.rcd
  let len := s.tF
  let s := s.shiftClocks (clocksIn (s.get F.plnLadderStat_RUNG []) len)
  let s : State := { s with fab := { s.fab with tai0 := t, closed := len } }
  let s := s.set F.parStat_ACT_IN [] (b2n actIn)
  let s := s.latch.releaseEdge.frameWrites
  let s := s.newRec.hostEdge
  let s := if epochEdge then (if first then s else s.bumpWrap F.frmEpoch_EPOCH [] 1).epochStep else s
  let s := s.holdEdge.ladderEdge epochEdge
  let s := (s.placeStep.suspendFlags).ripplesEdge last
  let s := s.reepochEdge.leaseEdge
  let s := s.domFrame.exerAge
  let s : State := { s with snap := Tbl.put s.snap 0 s.header, lad := { s.lad with blocked := false } }
  let s := if s.standby then s.shadowEdge.suspendFlags else s
  s.startPlans

/-- FRAME_EDGE (R40, R54, R56): at the next TAI multiple of T_F, while the frame sequencer runs. -/
def execFrameEdge (t : Tai) (actIn : Bool) (s : State) : Host.Outcome State Fault Refusal :=
  let s := s.at t
  if ¬ s.on F.frmStat_RUNNING [] ∨ s.rst.stopped ∨ t ≤ s.fab.tai0 ∨ t % s.tF ≠ 0 then .next s
  else
    let s := s.crossJournal.bumpWrap F.frmCount_COUNT [] 1
    .next (s.edge t actIn (decide (s.frame = s.get F.frmNextEpoch_NEXT [])) false)

/-- FRAME_SEQUENCER_STOP (R58): frame edges and renewals stop. Writes that waited for the next edge take effect (notes/assumptions/57.md). -/
def execFrameSequencerStop (t : Tai) (s : State) : Host.Outcome State Fault Refusal :=
  let s := (s.at t).frameWrites
  .next { s with rst := { s.rst with stopped := true } }

/-- A module that enters STANDALONE at its first frame edge takes a fresh epoch, the lease and ACT (R349, R346); in a pair it becomes a
standby (R343). -/
def State.firstRole (s : State) : State :=
  if s.on F.parCfg_MODE [] then s.setRole 3
  else
    let s := (s.freshEpoch.setRole 1).actRise
    (List.range 8).foldl (fun (s : State) j => if bitAt (s.get F.prtStat_HOLD []) j then s.protectCaps j else s) s

/-- FIRST_FRAME_EDGE (R58): the counters are loaded from TAI. -/
def execFirstFrameEdge (t : Tai) (actIn : Bool) (s : State) : Host.Outcome State Fault Refusal :=
  let s := s.at t
  if s.on F.frmStat_RUNNING [] ∨ s.rst.stopped ∨ ¬ s.on F.frmStat_TIME_VALID [] ∨ s.get F.glbStat_PHASE [] ≠ 5 ∨ t % (s.eLen * s.tF) ≠ 0 then .next s
  else
    let n := t / s.tF
    let e := n / s.eLen % 2 ^ 32
    let s := ((s.set F.frmCount_COUNT [] n).set F.frmEpoch_EPOCH [] e).set F.frmNextEpoch_NEXT [] (n + s.eLen)
    let s := (s.set F.frmStat_RUNNING [] 1).set F.glbStat_PHASE [] 6
    let s : State := { s with pair := { s.pair with first := some n }, fab := { s.fab with tai0 := t } }
    let s := s.crossJournal.note { who := 0, cls := 4, item := 2, obj := Reg.off .frmCount [], new := n, data := e }
    .next (s.firstRole.edge t actIn true true)

/-- OUTPUT_BLOCK_ARRIVAL (R42, R145, R225, R243, R269): the block of the last frame at the companion controller, and the transmits of the
commit edge. -/
def execOutputBlockArrival (t : Tai) (s : State) : Host.Outcome State Fault Refusal :=
  let s := s.at t
  if ¬ s.on F.frmStat_RUNNING [] ∨ t < s.fab.tai0 + 400 then .next s
  else
    let s : State := match s.frm.released with
      | none => s
      | some b =>
        let s : State := { s with frm := { s.frm with released := none }, lpe := { s.lpe with blk := some b, blkAt := t, got := true } }
        let s := s.set F.lpeStat_SILENT [] 0
        let live := (b.live.filter (fun k => decide (1024 ≤ k ∧ k < 1280))).map (fun k => k - 1024)
        let s := live.foldl (fun (s : State) n => s.setChan n { s.chan n with sil := 0, want := false }) s
        b.can.foldl (fun (s : State) e => s.canCommit (e.1 / 256) (e.1 % 256) e.2.1 e.2.2) s
    let peser := (List.range 256).filter (fun n => decide ((s.chan n).mode ≠ 0 ∧ s.get F.lpeChCfg_ACT_KIND [n] = 4))
    let s := peser.foldl (fun (s : State) n =>
      match (s.chan n).applied with
      | some u =>
        let i := s.get F.lpeChCfg_ACT_IDX [n]
        s.canCommit (i / 256) (i % 256) 8 (leBytes 4 0 ++ leBytes 4 (unsigned 32 u))
      | none => s) s
    .next s.canReenterAll

/-- The units of the snapshot that the plan set in force ingests: of the streams, those that its plans claim (R142, R355). -/
def State.streamUnits (s : State) : List (Nat × Nat) :=
  let claimed := fun (n : Nat) => s.plans.any (fun q => q.streams.any (fun r => decide (r.1 ≤ n ∧ n < r.1 + r.2)))
  s.snap.filter (fun e => decide (e.1 < unitKey 1 0 ∨ unitKey 2 0 ≤ e.1) || claimed (e.1 - unitKey 1 0))

/-- COMPANION_SNAPSHOT_READY (R41, R355, R419): the companion's part becomes readable, its journal entries are chained, and the active sends
the snapshot to its standby. -/
def execCompanionSnapshotReady (t : Tai) (s : State) : Host.Outcome State Fault Refusal :=
  let s := s.at t
  if ¬ s.on F.frmStat_RUNNING [] ∨ s.rst.stopped ∨ t < s.fab.tai0 + 1000 then .next s
  else
    let s := s.crossed
    if s.standby then .next s
    else
      let chans := (List.range 256).map (fun n => (unitKey 3 n, s.chanUnit n))
      let c := s.fab.comp
      let own := s.snap.filter (fun e => decide (e.1 < unitKey 2 0))
      let all := own ++ c.filter (fun e => decide (e.1 < unitKey 3 0)) ++ chans ++ c.filter (fun e => decide (unitKey 4 0 ≤ e.1))
      let s : State := { s with snap := all }
      .next (if s.get F.parStat_ROLE [] = 2 ∧ s.on F.parStat_P0_UP [] then s.emit (.p0Snapshot s.frame s.streamUnits) else s)

/-- The journal block closes with the digest of the output block (R420); a frame without one has the digest of nothing. -/
def State.closeJournal (s : State) (d : List Byte) : State :=
  s.commitJournal s.rcd.finished s.rcd.missed (s.get F.plnLadderStat_RUNG []) d.length (digest d)

/-- The seal window of a module that is no standby (R44 to R46, R145, R186, R355). -/
def State.liveSeal (s : State) : State :=
  let done := (s.ending.filter (fun r => !r.old)).map Run.part
  let s := (s.commitRuns.combine).rippleStreams
  let b := s.sealBlock
  let d := blockBytes b
  let s : State := { s with frm := { s.frm with sealed_ := some b, can := [] } }
  let s := (s.writeRecord.writeBlock d s.work).probation
  (s.closeJournal d).sendImage b done

/-- The seal window of a standby (R358): its record and block are those of the shadow. -/
def State.shadowSeal (s : State) : State :=
  let (s, mine) := s.shadowDone
  let b : OutBlock := { frame := s.work, outs := mine.outs.map (fun e => (e.1, BitVec.ofNat 32 e.2)),
                        can := mine.can.map (fun e => (e.1, dlcFor e.2.length, e.2)), live := s.liveKeys }
  let d := blockBytes b
  let s := (s.writeRecord.writeBlock d s.work).closeJournal d
  let s := s.standbySeal mine
  let prev := s.cap.prev
  let s := s.combine.rippleStreams
  { s with cap := { s.cap with prev := prev, pend := none } }

/-- DEADLINE_CHECK (R44 to R46, R93, R420, R436, R438): slot 60 opens. In a fabric reset there is no output block (R385). -/
def execDeadlineCheck (t : Tai) (s : State) : Host.Outcome State Fault Refusal :=
  let s := s.at t
  if ¬ s.on F.frmStat_RUNNING [] ∨ s.rst.stopped ∨ s.rcd.closed ∨ 16 * t < 16 * s.fab.tai0 + 15 * s.tF then .next s
  else
    let s := s.landDue
    let s := s.rcd.secs.foldl State.checkSection s
    let s := (List.range 256).foldl State.sealTus s
    let s :=
      if s.rst.fabric then (s.writeRecord.closeJournal [])
      else if s.standby then s.shadowSeal
      else s.liveSeal
    .next { s with rcd := { s.rcd with closed := true, secs := [] } }

/-- The new holder's outputs from image k (R353), at t_c + 5 µs: the block again, its CAN frames once more, and the caps from prev[p]. -/
def State.claimRelease (s : State) (img : StateImage) : State :=
  let b := img.block
  let s : State := { s with frm := { s.frm with released := none, sealed_ := none }, lpe := { s.lpe with blk := some b, blkAt := s.now, got := true } }
  let live := (b.live.filter (fun k => decide (1024 ≤ k ∧ k < 1280))).map (fun k => k - 1024)
  let s := live.foldl (fun (s : State) n => s.setChan n { s.chan n with sil := 0, want := false }) s
  let s := b.can.foldl (fun (s : State) e => s.canCommit (e.1 / 256) (e.1 % 256) e.2.1 e.2.2) s
  s.combine.releaseCaps

/-- The ladder of a new holder continues from that of image k, and counts its own misses from then on (R168, R353). -/
def State.claimLadder (s : State) (img : StateImage) : State :=
  let s : State := { s with lad := { s.lad with misses := [], missed := decide (img.missWin ≠ 0), last := img.lastStep } }
  s.set F.plnLadderStat_RUNG [] (max img.rung (s.get F.plnLadderStat_FORCED []))

/-- The module asserts ACT as the new holder (R242, R262, R353, R409). -/
def State.claimAct (s : State) : State :=
  let s := s.actRise
  let s := s.liveChans.foldl (fun (s : State) n => s.setChan n { s.chan n with init := some (s.chan n).u }) s
  (List.range 8).foldl (fun (s : State) j => if bitAt (s.get F.prtStat_HOLD []) j then s.protectCaps j else s) s

/-- Live plans start in frame c on the module's own snapshot (R353). -/
def State.claimPlans (s : State) : State :=
  let own := s.fab.comp
  let s : State := { s with runs := [], snap := own.filter (fun e => decide (e.1 < unitKey 2 0)),
                            fab := { s.fab with comp := own.filter (fun e => decide (unitKey 2 0 ≤ e.1)) } }
  s.suspendFlags.startPlans

/-- A claim that stands (R350, R353): `elig` is whether it was made in STANDBY_ELIG. -/
def State.claimed_ (s : State) (elig : Bool) : State :=
  let s := if elig then s else (s.set F.lpeCtrl_FORCE_SAFE [] 1).pairFlag F.parStat_INELIG_CLAIM
  let s := (List.range 4).foldl (fun (s : State) b => if s.busLive b ∧ s.on F.fbBeat_EN [b] then s.queueBeat b else s) s
  let s : State := match s.pair.img with
    | some img => ((s.makeCurrent img).claimLadder img).claimRelease img
    | none =>
      let s := s.set F.lpeCtrl_FORCE_SAFE [] 1
      match s.pln.inForce with
      | some set => s.loadInit set (fun _ => true)
      | none => s
  let s := if s.on F.parDomCfg_EN [] then s.domAsk else s
  s.claimPlans

/-- CLAIM (R348 to R350, R353): at a frame edge, where R348 lets the module claim. -/
def execClaim (t : Tai) (actIn4 : Bool) (s : State) : Host.Outcome State Fault Refusal :=
  let s := s.at t
  if ¬ s.claimMay ∨ t ≠ s.fab.tai0 ∨ s.rst.stopped then .next s
  else
    let elig := decide (s.get F.parStat_ROLE [] = 4)
    let x := s.frame + s.get F.parCfg_DUR_F []
    let s := s.exerAbort.freshEpoch.setRole 2
    let p := { s.pair with stopped := false, compX := x, releaseX := none, handover := none, transfer := false, conf := none, shadow := none, writes := [] }
    let s := (State.renew { s with pair := p } x).claimAct
    let s := (s.at (t + 5000)).set F.parStat_ACT_IN [] (b2n actIn4)
    let s := if actIn4 ∧ s.get F.parCfg_PARTNER_ID [] < s.modId then s.becomeFenced else s.claimed_ elig
    .next { s with pair := { s.pair with img := none, snapNext := none, imgSeen := none, inbox := [], tol := [] } }

end Sys2Proof.Machine
end

