-- ==== Sys2Proof/Machine/Move.lean ====
section
/-!
DEFINITION. The M slot: register–memory operations, block transfers and register moves (spec/04_isa_compute.md R117 to R123).
-/
namespace Sys2Proof.Machine

/-- The V register field of a register–memory operation at this repeat, in steps of n (R102). -/
def memV (c : Iss) (a : MemArg) (n : Nat) : Nat := if a.av then a.v.toNat + n * c.rep else a.v.toNat

/-- A 16-bit entry of the constant store. -/
def Tus.entry (t : Tus) (off : Nat) : Nat := Mem.num t.cst off 2

/-- The index term I of MGTH and MSCT: the constant-store entry at AI; `none` outside the constant store. -/
def Tus.index (t : Tus) (a : MemArg) (n : Nat) : Option Nat :=
  match decodeAddr (t.areg a.ai.toNat) (2 * n) with
  | some (.const off) => some off
  | _ => none

/-- Post-increments AA and, for an indexed operation, AI (Table 4.11). -/
def Tus.memInc (t : Tus) (c : Iss) (a : MemArg) (indexed : Bool) : Tus :=
  let t := t.postInc c a.pi a.aa.toNat
  if indexed then t.postInc c a.pi a.ai.toNat else t

/-- A load of one V register from local or own hummock SRAM at a byte offset from AA (MLD, MGTH). The 64 bytes from the address on are read,
also where they span two words: the spec names no result for it (DESIGN CHOICE, notes/assumptions/139.md). -/
def loadV (s : State) (t : Tus) (m : Nat) (c : Iss) (a : MemArg) (units : Int) (indexed : Bool) : Option State :=
  let land (lat : Nat) (mem : Mem) (off : Nat) : State :=
    let t' := if bitAt m 0 then t.land (c.clk + lat) (.v (memV c a 1) (Mem.num mem off 64) (ones 512)) else t
    s.setTus c.tus (t'.memInc c a indexed)
  match decodeAddr (addAddr (t.areg a.aa.toNat) (64 * units)) 64 with
  | some (.local_ off) => some (land 4 t.sram off)
  | some (.hum off) => some (land 12 (s.humSram (hummockOf c.tus)) off)
  | _ => none

/-- The byte ranges of a 64-byte word that an 8-bit chunk mask leaves writable, as (offset, bytes). -/
def chunkWrites (d : List Byte) (m : Nat) : List (Nat × List Byte) :=
  (bitList m 8).map (fun j => (8 * j, (d.drop (8 * j)).take 8))

/-- A write into hummock SRAM that becomes visible at a clock. -/
def State.humWrite (s : State) (clk h a : Nat) (d : List Byte) : State :=
  { s with fab := { s.fab with hfly := s.fab.hfly ++ [(clk, h, a, d)] } }

/-- A store of one V register (MST, MSCT): 8-byte chunk j is written where M[j] is 1 (Table 4.3). -/
def storeV (s : State) (t : Tus) (m : Nat) (c : Iss) (a : MemArg) (units : Int) (indexed : Bool) : Option State :=
  let d := leBytes 64 (t.vreg (memV c a 1))
  match decodeAddr (addAddr (t.areg a.aa.toNat) (64 * units)) 64 with
  | some (.local_ off) => some (s.setTus c.tus ((t.land (c.clk + 2) (.local_ off d (m % 256))).memInc c a indexed))
  | some (.hum off) =>
    let s := (chunkWrites d m).foldl (fun (s : State) w => s.humWrite (c.clk + 8) (hummockOf c.tus) (off + w.1) w.2) s
    some (s.setTus c.tus (t.memInc c a indexed))
  | _ => none

/-- MLD (R118). -/
def execMld (c : Iss) (a : MemArg) (s : State) : Host.Outcome State Fault Refusal :=
  onIssue (memOk c a 1 false) c s (fun s t m => loadV s t m c a a.off.toInt false)

/-- MST (R118). -/
def execMst (c : Iss) (a : MemArg) (s : State) : Host.Outcome State Fault Refusal :=
  onIssue (memOk c a 1 false) c s (fun s t m => storeV s t m c a a.off.toInt false)

/-- MLDH: 256 bytes of own hummock SRAM into four registers (R118). -/
def execMldh (c : Iss) (a : MemArg) (s : State) : Host.Outcome State Fault Refusal :=
  onIssue (memOk c a 4 false) c s (fun s t m =>
    match decodeAddr (addAddr (t.areg a.aa.toNat) (256 * a.off.toInt)) 256 with
    | some (.hum off) =>
      let mem := s.humSram (hummockOf c.tus)
      let t' := if bitAt m 0 then
          (List.range 4).foldl (fun (t : Tus) j =>
            t.land (c.clk + 12) (.v (memV c a 4 + j) (Mem.num mem (off + 64 * j) 64) (ones 512))) t
        else t
      some (s.setTus c.tus (t'.memInc c a false))
    | _ => none)

/-- MSTH: four registers into 256 bytes of own hummock SRAM; masked whole by M[0] (R118, Table 4.3). -/
def execMsth (c : Iss) (a : MemArg) (s : State) : Host.Outcome State Fault Refusal :=
  onIssue (memOk c a 4 false) c s (fun s t m =>
    match decodeAddr (addAddr (t.areg a.aa.toNat) (256 * a.off.toInt)) 256 with
    | some (.hum off) =>
      let d := (List.range 4).flatMap (fun j => leBytes 64 (t.vreg (memV c a 4 + j)))
      let s := if bitAt m 0 then s.humWrite (c.clk + 8) (hummockOf c.tus) off d else s
      some (s.setTus c.tus (t.memInc c a false))
    | _ => none)

/-- MGTH: the load at AA + 64·(OFF + I) (R118). -/
def execMgth (c : Iss) (a : MemArg) (s : State) : Host.Outcome State Fault Refusal :=
  onIssue (memOk c a 1 true) c s (fun s t m =>
    match t.index a 1 with
    | some off => loadV s t m c a (a.off.toInt + (t.entry off : Int)) true
    | none => none)

/-- MSCT: the store at AA + 64·(OFF + I) (R118). -/
def execMsct (c : Iss) (a : MemArg) (s : State) : Host.Outcome State Fault Refusal :=
  onIssue (memOk c a 1 true) c s (fun s t m =>
    match t.index a 1 with
    | some off => storeV s t m c a (a.off.toInt + (t.entry off : Int)) true
    | none => none)

/-- Local SRAM as it stands at a clock from this one on, by the writes in flight that are visible then (Table 3.2). -/
def Tus.sramAt (t : Tus) (clk : Nat) : Mem := (t.landTo clk).sram

/-- The 16 rows that MGT16 reads, four a clock, each a local SRAM word; `none` if one lies outside. -/
def gatherRows (t : Tus) (clk : Nat) (a : MemArg) (off : Nat) : Option (List Nat) :=
  (List.range 16).mapM (fun r =>
    match decodeAddr (addAddr (t.areg a.aa.toNat) (64 * (a.off.toInt + (t.entry (off + 2 * r) : Int)))) 64 with
    | some (.local_ o) => some (Mem.num (t.sramAt (clk + r / 4)) o 64)
    | _ => none)

/-- MGT16: lane r of V + j is element j of row r (R118). -/
def execMgt16 (c : Iss) (a : MemArg) (s : State) : Host.Outcome State Fault Refusal :=
  onIssue (memOk c a 16 true) c s (fun s t m =>
    match (t.index a 16).bind (gatherRows t c.clk a) with
    | some rows =>
      let t' := if bitAt m 0 then
          (List.range 16).foldl (fun (t : Tus) j =>
            t.land (c.clk + 12) (.v (memV c a 16 + j) (ofElems 32 (rows.map (fun r => elem r 32 j))) (ones 512))) t
        else t
      some (s.setTus c.tus (t'.memInc c a true))
    | none => none)

/-- Whether the plan that a tussock works for holds a hummock (R119, R121). -/
def State.humMay (s : State) (c : Iss) (h : Nat) : Bool := (s.planOf c.tus c.run).all (fun p => bitAt p.hummocks h)

/-- Whether a window of the plan that a tussock works for covers a range of HBM in the direction of an access (R28, R123). -/
def State.windowMay (s : State) (c : Iss) (a n : Nat) (write : Bool) : Bool :=
  (s.planOf c.tus c.run).all (fun p => p.windows.any (fun w => decide (w.base ≤ a ∧ a + n ≤ w.base + w.len) && (if write then w.write else w.read)))

/-- What a block transfer moves (R119, R123): the space of AR must suit the operation, addresses are 256-byte aligned, an HBM
transfer stays in one granule and in a window of its plan, a hummock is of the own partition, the route ends where the address lies, and a
tussock has four engines. `toLocal` says AL is the destination and `hbm` that AR is an HBM address. -/
def blockXfer (s : State) (t : Tus) (m : Nat) (c : Iss) (a : BlkArg) (toLocal hbm : Bool) : Option State :=
  let n := 256 * (a.len.toNat + 1)
  let own := hummockOf c.tus
  let rung := s.get F.plnLadderStat_RUNG []
  let go (kind h addr : Nat) (d : List Byte) (remote : Option Nat) : State :=
    let x : Xfer := { kind := kind, hummock := h, addr := addr, data := d, slu := a.slu.toNat, write := bitAt m 0, run := c.run,
                      due := c.clk + xferClocks toLocal hbm rung (a.len.toNat + 1) remote, hbm := hbm }
    s.setTus c.tus (({ t with xfers := t.xfers ++ [x] }.postInc c a.pi a.al.toNat).postInc c a.pi a.ar.toNat)
  if 4 ≤ t.xfers.length ∨ t.areg a.al.toNat % 256 ≠ 0 ∨ t.areg a.ar.toNat % 256 ≠ 0 then none
  else
  match decodeAddr (t.areg a.al.toNat) n, decodeAddr (t.areg a.ar.toNat) n, s.routeOf c.tus c.run a.rte.toNat with
  | some (.local_ l), some (.hum o), some r =>
    if hbm ∨ r.exit ≠ 0 ∨ r.dest ≠ own then none
    else if toLocal then some (go 0 own l (Mem.bytes (s.humSram own) o n) none)
    else some (go 1 own o (Mem.bytes t.sram l n) none)
  | some (.local_ l), some (.other h o), some r =>
    if hbm ∨ r.exit ≠ 0 ∨ r.dest ≠ h ∨ ¬ s.humMay c h then none
    else if toLocal then some (go 0 own l (Mem.bytes (s.humSram h) o n) (if h = own then none else some r.hops))
    else some (go 1 h o (Mem.bytes t.sram l n) (if h = own then none else some r.hops))
  | some (.local_ l), some (.hbm o), some r =>
    if ¬ hbm ∨ r.exit ≠ 1 ∨ portStack r.dest ≠ some (stackOf o) ∨ 4096 < o % 4096 + n ∨ ¬ s.windowMay c o n (!toLocal) then none
    else if toLocal then some (go 0 own l (s.hbmRead (s.runOf c.tus c.run) o n) (some r.hops))
    else some (go 2 r.dest o (Mem.bytes t.sram l n) (some r.hops))
  | _, _, _ => none

/-- MXRD: hummock SRAM to local SRAM (R119). -/
def execMxrd (c : Iss) (a : BlkArg) (s : State) : Host.Outcome State Fault Refusal :=
  onIssue (s.useMay c (.mxrd c a)) c s (fun s t m => blockXfer s t m c a true false)

/-- MXWR: local SRAM to hummock SRAM (R119). -/
def execMxwr (c : Iss) (a : BlkArg) (s : State) : Host.Outcome State Fault Refusal :=
  onIssue (s.useMay c (.mxwr c a)) c s (fun s t m => blockXfer s t m c a false false)

/-- MHRD: HBM to local SRAM (R119). -/
def execMhrd (c : Iss) (a : BlkArg) (s : State) : Host.Outcome State Fault Refusal :=
  onIssue (s.useMay c (.mhrd c a)) c s (fun s t m => blockXfer s t m c a true true)

/-- MHWR: local SRAM to HBM (R119). -/
def execMhwr (c : Iss) (a : BlkArg) (s : State) : Host.Outcome State Fault Refusal :=
  onIssue (s.useMay c (.mhwr c a)) c s (fun s t m => blockXfer s t m c a false true)

/-- The hummock whose reset absorbs a transfer (R381): a destination under compute reset. -/
def State.absorbs (s : State) (tus : Nat) (x : Xfer) : Option Nat :=
  if x.kind = 0 then (if (s.tus tus).inReset then some (hummockOf tus) else none)
  else if x.kind = 1 then (if s.rst.objs.any (fun o => o.active && decide (o.kind ≠ 0) && bitAt o.hum x.hummock) then some x.hummock else none)
  else none

/-- TRANSFER_COMPLETE (R119): no earlier than the transfer's clock, the data lands at its destination, unless masked (R104), and a signal to
the sluice leaves the hummock of its completion; a transfer into a target under reset is absorbed instead, and so is its signal (R136, R381). -/
def execTransferComplete (tus : Fin 256) (k : XferClk) (s : State) : Host.Outcome State Fault Refusal :=
  let s := s.quiet
  let t := s.tus tus
  match t.xfers[k.slot.val]? with
  | none => .next s
  | some x =>
    if k.clk < x.due then .next s
    else
      let at_ := s.reaches (if x.hbm then k.clk else x.due) x.hummock x.slu
      let s := s.setTus tus { t with xfers := t.xfers.eraseIdx k.slot.val }
      match s.absorbs tus x with
      | some h => .next ((s.bump F.humStat_ABSORB_CNT [h] 1).carry ⟨at_, x.slu, .absorbed⟩)
      | none =>
        let s :=
          if ¬ x.write then s
          else if x.kind = 0 then
            let t := s.tus tus
            s.setTus tus { t with sram := Mem.setBytes t.sram x.addr x.data }
          else if x.kind = 1 then s.setHumSram x.hummock (Mem.setBytes (s.humSram x.hummock) x.addr x.data)
          else s.hbmWrite tus x.run x.addr x.data
        .next (s.carry ⟨at_, x.slu, .signal⟩)

/-- MAIL (R118). -/
def execMail (c : Iss) (ad : BitVec 4) (imm : BitVec 32) (s : State) : Host.Outcome State Fault Refusal :=
  onTus true c s (fun t m => if bitAt m 0 then t.land (c.clk + 1) (.a ad.toNat imm.toNat (ones 48)) else t)

/-- MAIH (R118). -/
def execMaih (c : Iss) (ad : BitVec 4) (imm : BitVec 16) (s : State) : Host.Outcome State Fault Refusal :=
  onTus true c s (fun t m =>
    if bitAt m 0 then t.land (c.clk + 1) (.a ad.toNat (imm.toNat * 2 ^ 32) (ones 16 * 2 ^ 32)) else t)

/-- MAADD (R118). -/
def execMaadd (c : Iss) (ad : BitVec 4) (imm : BitVec 32) (s : State) : Host.Outcome State Fault Refusal :=
  onTus true c s (fun t m => if bitAt m 0 then t.land (c.clk + 1) (.aAdd ad.toNat imm.toInt) else t)

/-- MASTR (R118). -/
def execMastr (c : Iss) (ad : BitVec 4) (imm : BitVec 24) (s : State) : Host.Outcome State Fault Refusal :=
  onTus true c s (fun t m => if bitAt m 0 then t.land (c.clk + 1) (.aStr ad.toNat imm.toNat) else t)

/-- MVS (R118). -/
def execMvs (c : Iss) (sr : BitVec 5) (vr : BitVec 6) (chunk : BitVec 3) (s : State) : Host.Outcome State Fault Refusal :=
  onTus true c s (fun t m =>
    if bitAt m 0 then t.land (c.clk + 2) (.s sr.toNat (elem (t.vreg vr.toNat) 64 chunk.toNat) (ones 64)) else t)

/-- MSV (R118). -/
def execMsv (c : Iss) (sr : BitVec 5) (vr : BitVec 6) (chunk : BitVec 3) (s : State) : Host.Outcome State Fault Refusal :=
  onTus true c s (fun t m =>
    if bitAt m 0 then
      t.land (c.clk + 2) (.v vr.toNat (t.sreg sr.toNat * 2 ^ (64 * chunk.toNat)) (ones 64 * 2 ^ (64 * chunk.toNat)))
    else t)

/-- MPV (R118); a write of P0 is rejected (R101). -/
def execMpv (c : Iss) (pr : BitVec 3) (vr : BitVec 6) (s : State) : Host.Outcome State Fault Refusal :=
  onTus (decide (pr.toNat ≠ 0)) c s (fun t m =>
    if bitAt m 0 then t.land (c.clk + 1) (.p pr.toNat (elem (t.vreg vr.toNat) 64 0) (ones 64)) else t)

/-- MVP (R118). -/
def execMvp (c : Iss) (pr : BitVec 3) (vr : BitVec 6) (s : State) : Host.Outcome State Fault Refusal :=
  onTus true c s (fun t m => if bitAt m 0 then t.land (c.clk + 1) (.v vr.toNat (t.pred pr.toNat) (ones 64)) else t)

/-- MFRD: the flags raised in clocks before the issue (R120). -/
def execMfrd (c : Iss) (sd : BitVec 5) (s : State) : Host.Outcome State Fault Refusal :=
  onTus true c s (fun t m => if bitAt m 0 then t.land (c.clk + 1) (.s sd.toNat t.flags (ones 64)) else t)

/-- MFCLR (R120). -/
def execMfclr (c : Iss) (mask : BitVec 6) (s : State) : Host.Outcome State Fault Refusal :=
  onTus true c s (fun t m => if bitAt m 0 then t.clearFlags (c.clk + 1) mask.toNat else t)

end Sys2Proof.Machine
end

