-- ==== Sys2Proof/Machine/Scalar.lean ====
section
/-!
DEFINITION. The S slot: scalar operations and counted loops (spec/05_isa_control.md R124 to R128).
-/
namespace Sys2Proof.Machine

/-- The format an S-slot operation works in: FP64 for TY 1, else INT64. -/
def sfmt (a : SArg) : Fmt := if a.ty then Fmt.fp64 else Fmt.int64

/-- Lands a scalar result with its flags; masked by M[0] (Table 5.3). -/
def Tus.landS (t : Tus) (m clk sd : Nat) (r : Nat × Nat) : Tus :=
  if bitAt m 0 then (t.land clk (.s sd r.1 (ones 64))).raise clk r.2 else t

/-- A scalar operation on the numbers in SA and SB. -/
def sop (ok : Bool) (c : Iss) (a : SArg) (lat lat64 : Nat) (op : Fmt → Bool → Num → Num → Nat × Nat) (s : State) :
    Host.Outcome State Fault Refusal :=
  onTus ok c s (fun t m =>
    let f := sfmt a
    t.landS m (c.clk + (if a.ty then lat64 else lat)) a.sd.toNat
      (op f (s.infMode c) (decodeNum f (t.sreg a.sa.toNat)) (decodeNum f (t.sreg a.sb.toNat))))

/-- A bitwise scalar operation. -/
def sbit (c : Iss) (a : SArg) (op : Nat → Nat → Nat) (s : State) : Host.Outcome State Fault Refusal :=
  onTus (sint64Ok a) c s (fun t m => t.landS m (c.clk + 1) a.sd.toNat (op (t.sreg a.sa.toNat) (t.sreg a.sb.toNat), 0))

/-- SLI: the sign-extended immediate (R125). -/
def execSli (c : Iss) (sd : BitVec 5) (imm : BitVec 32) (s : State) : Host.Outcome State Fault Refusal :=
  onTus true c s (fun t m => t.landS m (c.clk + 1) sd.toNat (unsigned 64 imm.toInt, 0))

/-- SLIH: the high half alone (R125). -/
def execSlih (c : Iss) (sd : BitVec 5) (imm : BitVec 32) (s : State) : Host.Outcome State Fault Refusal :=
  onTus true c s (fun t m =>
    if bitAt m 0 then t.land (c.clk + 1) (.s sd.toNat (imm.toNat * 2 ^ 32) (ones 32 * 2 ^ 32)) else t)

/-- SADD (R125). -/
def execSadd (c : Iss) (a : SArg) (s : State) : Host.Outcome State Fault Refusal :=
  sop true c a 1 4 (fun f inf x y => enc f inf (x.add y)) s

/-- SSUB (R125). -/
def execSsub (c : Iss) (a : SArg) (s : State) : Host.Outcome State Fault Refusal :=
  sop true c a 1 4 (fun f inf x y => enc f inf (x.add y.opp)) s

/-- SMUL (R125). -/
def execSmul (c : Iss) (a : SArg) (s : State) : Host.Outcome State Fault Refusal :=
  sop true c a 3 6 (fun f inf x y => enc f inf (x.mul y)) s

/-- SDIV (R90, R125). -/
def execSdiv (c : Iss) (a : SArg) (s : State) : Host.Outcome State Fault Refusal :=
  sop true c a 20 22 (fun f inf x y => divide f inf x y) s

/-- SMIN (R125). -/
def execSmin (c : Iss) (a : SArg) (s : State) : Host.Outcome State Fault Refusal :=
  sop true c a 1 2 (fun f inf x y => enc f inf (x.minimum y)) s

/-- SMAX (R125). -/
def execSmax (c : Iss) (a : SArg) (s : State) : Host.Outcome State Fault Refusal :=
  sop true c a 1 2 (fun f inf x y => enc f inf (x.maximum y)) s

/-- SAND (R125). -/
def execSand (c : Iss) (a : SArg) (s : State) : Host.Outcome State Fault Refusal := sbit c a (· &&& ·) s

/-- SOR (R125). -/
def execSor (c : Iss) (a : SArg) (s : State) : Host.Outcome State Fault Refusal := sbit c a (· ||| ·) s

/-- SXOR (R125). -/
def execSxor (c : Iss) (a : SArg) (s : State) : Host.Outcome State Fault Refusal := sbit c a (· ^^^ ·) s

/-- SSHL: a · 2^n, saturating (R125). -/
def execSshl (c : Iss) (a : SArg) (s : State) : Host.Outcome State Fault Refusal :=
  sop (sshOk a) c a 1 1 (fun f inf x _ => enc f inf (x.scale (a.fn.toNat : Int))) s

/-- SSHR: a / 2^n, rounded as R88 (R125). -/
def execSshr (c : Iss) (a : SArg) (s : State) : Host.Outcome State Fault Refusal :=
  sop (sshOk a) c a 1 1 (fun f inf x _ => enc f inf (x.scale (-(a.fn.toNat : Int)))) s

/-- SCVT: TY 1 INT64 to FP64, TY 0 FP64 to INT64 (R126). -/
def execScvt (c : Iss) (a : SArg) (s : State) : Host.Outcome State Fault Refusal :=
  onTus true c s (fun t m =>
    let x := t.sreg a.sa.toNat
    t.landS m (c.clk + 3) a.sd.toNat
      (if a.ty then enc Fmt.fp64 (s.infMode c) (decodeNum Fmt.int64 x) else enc Fmt.int64 (s.infMode c) (decodeNum Fmt.fp64 x)))

/-- SCMP: all ones or all zeros in the predicate (R125, R126). -/
def execScmp (c : Iss) (a : SArg) (s : State) : Host.Outcome State Fault Refusal :=
  onTus (scmpOk a) c s (fun t m =>
    let f := sfmt a
    let r := Num.cond (a.fn.toNat / 2 ^ 18) (decodeNum f (t.sreg a.sa.toNat)) (decodeNum f (t.sreg a.sb.toNat))
    if bitAt m 0 then t.land (c.clk + 2) (.p (a.fn.toNat / 2 ^ 21) (if r then ones 64 else 0) (ones 64)) else t)

/-- SMOV (R125). -/
def execSmov (c : Iss) (a : SArg) (s : State) : Host.Outcome State Fault Refusal :=
  onTus true c s (fun t m => t.landS m (c.clk + 1) a.sd.toNat (t.sreg a.sa.toNat, 0))

/-- SLCNT sets the pass count N of a level, never masked (R127, R129); `n1` is N − 1. -/
def execSlcnt (c : Iss) (lvl : BitVec 2) (n1 : BitVec 16) (s : State) : Host.Outcome State Fault Refusal :=
  onTus (singleOk c) c s (fun t _ => { t with counts := Tbl.put t.counts lvl.toNat (n1.toNat + 1) })

/-- SLOOP opens a loop over the next LEN bundles, never masked (R127, R129); `len1` is LEN − 1. -/
def execSloop (c : Iss) (lvl : BitVec 2) (len1 : BitVec 14) (amask : BitVec 16) (s : State) :
    Host.Outcome State Fault Refusal :=
  onTus (singleOk c) c s (fun t _ =>
    { t with loops := ⟨lvl.toNat, c.pos, len1.toNat + 1, amask.toNat, Tbl.at t.counts lvl.toNat 1 - 1⟩ :: t.loops })

end Sys2Proof.Machine
end

