-- ==== Sys2Proof/Machine/Dispatch.lean ====
section
/-!
DEFINITION. The meaning of every command: one arm per constructor, one call of its meaning each.
-/
namespace Sys2Proof.Machine

/-- The effect of a command on everything but the queue. -/
def exec (i : Instr) (s : State) : Host.Outcome State Fault Refusal :=
  match i with
  | .frameEdge t actIn => Sys2Proof.Machine.execFrameEdge t actIn s
  | .deadlineCheck t => Sys2Proof.Machine.execDeadlineCheck t s
  | .promotionRecordRead t => Sys2Proof.Machine.execPromotionRecordRead t s
  | .promotionCheckComplete t k => Sys2Proof.Machine.execPromotionCheckComplete t k s
  | .stateImageReceived t img => Sys2Proof.Machine.execStateImageReceived t img s
  | .snapshotStreamReceived t frame units => Sys2Proof.Machine.execSnapshotStreamReceived t frame units s
  | .outputBlockArrival t => Sys2Proof.Machine.execOutputBlockArrival t s
  | .leaseWordArrival t => Sys2Proof.Machine.execLeaseWordArrival t s
  | .companionSnapshotReady t => Sys2Proof.Machine.execCompanionSnapshotReady t s
  | .silenceCheck t => Sys2Proof.Machine.execSilenceCheck t s
  | .onSafe t n => Sys2Proof.Machine.execOnSafe t n s
  | .loopSample t n => Sys2Proof.Machine.execLoopSample t n s
  | .fbLost t n => Sys2Proof.Machine.execFbLost t n s
  | .followErr t n => Sys2Proof.Machine.execFollowErr t n s
  | .implaus t n => Sys2Proof.Machine.execImplaus t n s
  | .startToNormal t n => Sys2Proof.Machine.execStartToNormal t n s
  | .autoRecover t n => Sys2Proof.Machine.execAutoRecover t n s
  | .zoneRecompute t => Sys2Proof.Machine.execZoneRecompute t s
  | .pwmPeriod t p m => Sys2Proof.Machine.execPwmPeriod t p m s
  | .pumpStart t p turning => Sys2Proof.Machine.execPumpStart t p turning s
  | .pumpAlignEnd t p => Sys2Proof.Machine.execPumpAlignEnd t p s
  | .flyingStartSync t p speed => Sys2Proof.Machine.execFlyingStartSync t p speed s
  | .observerLock t p => Sys2Proof.Machine.execObserverLock t p s
  | .startFail t p => Sys2Proof.Machine.execStartFail t p s
  | .pumpFault t p cause => Sys2Proof.Machine.execPumpFault t p cause s
  | .pumpAutoRestart t p => Sys2Proof.Machine.execPumpAutoRestart t p s
  | .pumpStop t p => Sys2Proof.Machine.execPumpStop t p s
  | .fanAttempt t f => Sys2Proof.Machine.execFanAttempt t f s
  | .fanAttemptResult t f locked tachOk => Sys2Proof.Machine.execFanAttemptResult t f locked tachOk s
  | .fanStall t f => Sys2Proof.Machine.execFanStall t f s
  | .retryWaitExpiry t f => Sys2Proof.Machine.execRetryWaitExpiry t f s
  | .failsReset t f => Sys2Proof.Machine.execFailsReset t f s
  | .fanOc t f => Sys2Proof.Machine.execFanOc t f s
  | .tachLost t f => Sys2Proof.Machine.execTachLost t f s
  | .fanInputLow t => Sys2Proof.Machine.execFanInputLow t s
  | .actRise t => Sys2Proof.Machine.execActRise t s
  | .actFall t => Sys2Proof.Machine.execActFall t s
  | .canBusIdle t b => Sys2Proof.Machine.execCanBusIdle t b s
  | .canFrameSent t b => Sys2Proof.Machine.execCanFrameSent t b s
  | .canArbitrationLost t b => Sys2Proof.Machine.execCanArbitrationLost t b s
  | .canErrorFrame t b lec => Sys2Proof.Machine.execCanErrorFrame t b lec s
  | .canCancel t b m => Sys2Proof.Machine.execCanCancel t b m s
  | .canFrameReceived t b fr => Sys2Proof.Machine.execCanFrameReceived t b fr s
  | .beat t => Sys2Proof.Machine.execBeat t s
  | .busOff t b => Sys2Proof.Machine.execBusOff t b s
  | .boffHoldExpiry t b => Sys2Proof.Machine.execBoffHoldExpiry t b s
  | .busOffRecoveryEnd t b => Sys2Proof.Machine.execBusOffRecoveryEnd t b s
  | .canRejoin t b => Sys2Proof.Machine.execCanRejoin t b s
  | .peserCfgTimeout t b => Sys2Proof.Machine.execPeserCfgTimeout t b s
  | .temperatureConversion t k0 r => Sys2Proof.Machine.execTemperatureConversion t k0 r s
  | .currentLoopSample t k0 ma => Sys2Proof.Machine.execCurrentLoopSample t k0 ma s
  | .digitalInputAccept t j level => Sys2Proof.Machine.execDigitalInputAccept t j level s
  | .leakScan t k0 m => Sys2Proof.Machine.execLeakScan t k0 m s
  | .digitalOutputOc t j => Sys2Proof.Machine.execDigitalOutputOc t j s
  | .throttleLineFault t n microamps => Sys2Proof.Machine.execThrottleLineFault t n microamps s
  | .analogOutputFault t k0 => Sys2Proof.Machine.execAnalogOutputFault t k0 s
  | .ingestDatagram t j d => Sys2Proof.Machine.execIngestDatagram t j d s
  | .recordWrite t j => Sys2Proof.Machine.execRecordWrite t j s
  | .decimationCheck t => Sys2Proof.Machine.execDecimationCheck t s
  | .otherDatagram t j d => Sys2Proof.Machine.execOtherDatagram t j d s
  | .icmpv6Echo t j payload => Sys2Proof.Machine.execIcmpv6Echo t j payload s
  | .neighbourDiscovery t j duplicate => Sys2Proof.Machine.execNeighbourDiscovery t j duplicate s
  | .ethLinkChange t j up => Sys2Proof.Machine.execEthLinkChange t j up s
  | .ptpSync t j m => Sys2Proof.Machine.execPtpSync t j m s
  | .ptpAnnounce t j a => Sys2Proof.Machine.execPtpAnnounce t j a s
  | .ptpHoldover t => Sys2Proof.Machine.execPtpHoldover t s
  | .firstFrameEdge t actIn => Sys2Proof.Machine.execFirstFrameEdge t actIn s
  | .leasePairWord t w => Sys2Proof.Machine.execLeasePairWord t w s
  | .p0PartnerRecord t r => Sys2Proof.Machine.execP0PartnerRecord t r s
  | .leaseExpiry t => Sys2Proof.Machine.execLeaseExpiry t s
  | .claim t actIn4 => Sys2Proof.Machine.execClaim t actIn4 s
  | .pathsLost t => Sys2Proof.Machine.execPathsLost t s
  | .fence t => Sys2Proof.Machine.execFence t s
  | .reepoch t => Sys2Proof.Machine.execReepoch t s
  | .handoverFrame t => Sys2Proof.Machine.execHandoverFrame t s
  | .handoverActFall t => Sys2Proof.Machine.execHandoverActFall t s
  | .autoHandoverRequest t => Sys2Proof.Machine.execAutoHandoverRequest t s
  | .configTransferRequest t => Sys2Proof.Machine.execConfigTransferRequest t s
  | .configTransferComplete t c => Sys2Proof.Machine.execConfigTransferComplete t c s
  | .p0TimeExchange t offset => Sys2Proof.Machine.execP0TimeExchange t offset s
  | .domainTimeExchange t x => Sys2Proof.Machine.execDomainTimeExchange t x s
  | .domainAdmission t m => Sys2Proof.Machine.execDomainAdmission t m s
  | .boundaryRecordArrival t port record => Sys2Proof.Machine.execBoundaryRecordArrival t port record s
  | .domainLinkDown t port => Sys2Proof.Machine.execDomainLinkDown t port s
  | .positionLost t pos => Sys2Proof.Machine.execPositionLost t pos s
  | .comparatorEval t => Sys2Proof.Machine.execComparatorEval t s
  | .comparatorActivation t c => Sys2Proof.Machine.execComparatorActivation t c s
  | .comparatorClear t c => Sys2Proof.Machine.execComparatorClear t c s
  | .responseRelease t j => Sys2Proof.Machine.execResponseRelease t j s
  | .minAssertionExpiry t n => Sys2Proof.Machine.execMinAssertionExpiry t n s
  | .moduleCoolingState t dieC inletC => Sys2Proof.Machine.execModuleCoolingState t dieC inletC s
  | .critical t => Sys2Proof.Machine.execCritical t s
  | .shutdown t => Sys2Proof.Machine.execShutdown t s
  | .standaloneShutdownActRelease t => Sys2Proof.Machine.execStandaloneShutdownActRelease t s
  | .uncorrectableError t site => Sys2Proof.Machine.execUncorrectableError t site s
  | .retirementLogWrite t tus => Sys2Proof.Machine.execRetirementLogWrite t tus s
  | .correctedError t tus => Sys2Proof.Machine.execCorrectedError t tus s
  | .hbmReread t => Sys2Proof.Machine.execHbmReread t s
  | .sluiceSignal x => Sys2Proof.Machine.execSluiceSignal x s
  | .absorbedSignal x => Sys2Proof.Machine.execAbsorbedSignal x s
  | .sluiceRelease tus clk => Sys2Proof.Machine.execSluiceRelease tus clk s
  | .waitOverdue x => Sys2Proof.Machine.execWaitOverdue x s
  | .transferComplete tus k => Sys2Proof.Machine.execTransferComplete tus k s
  | .tmma c a => Sys2Proof.Machine.execTmma c a s
  | .tzero c a => Sys2Proof.Machine.execTzero c a s
  | .tadd c a => Sys2Proof.Machine.execTadd c a s
  | .tmov c a => Sys2Proof.Machine.execTmov c a s
  | .vadd c a => Sys2Proof.Machine.execVadd c a s
  | .vsub c a => Sys2Proof.Machine.execVsub c a s
  | .vmul c a => Sys2Proof.Machine.execVmul c a s
  | .vfma c a => Sys2Proof.Machine.execVfma c a s
  | .vmin c a => Sys2Proof.Machine.execVmin c a s
  | .vmax c a => Sys2Proof.Machine.execVmax c a s
  | .vabs c a => Sys2Proof.Machine.execVabs c a s
  | .vneg c a => Sys2Proof.Machine.execVneg c a s
  | .vclmp c a => Sys2Proof.Machine.execVclmp c a s
  | .vdiv c a => Sys2Proof.Machine.execVdiv c a s
  | .vsqrt c a => Sys2Proof.Machine.execVsqrt c a s
  | .vrcp c a => Sys2Proof.Machine.execVrcp c a s
  | .vrsq c a => Sys2Proof.Machine.execVrsq c a s
  | .vexp2 c a => Sys2Proof.Machine.execVexp2 c a s
  | .vlog2 c a => Sys2Proof.Machine.execVlog2 c a s
  | .vtanh c a => Sys2Proof.Machine.execVtanh c a s
  | .vsig c a => Sys2Proof.Machine.execVsig c a s
  | .vcvt c a => Sys2Proof.Machine.execVcvt c a s
  | .vcmp c a => Sys2Proof.Machine.execVcmp c a s
  | .vsel c a => Sys2Proof.Machine.execVsel c a s
  | .vand c a => Sys2Proof.Machine.execVand c a s
  | .vor c a => Sys2Proof.Machine.execVor c a s
  | .vxor c a => Sys2Proof.Machine.execVxor c a s
  | .vshl c a => Sys2Proof.Machine.execVshl c a s
  | .vshr c a => Sys2Proof.Machine.execVshr c a s
  | .vbc c a => Sys2Proof.Machine.execVbc c a s
  | .vred c a => Sys2Proof.Machine.execVred c a s
  | .vperm c a => Sys2Proof.Machine.execVperm c a s
  | .vtrd c a => Sys2Proof.Machine.execVtrd c a s
  | .vtwr c a => Sys2Proof.Machine.execVtwr c a s
  | .plog c a => Sys2Proof.Machine.execPlog c a s
  | .pset c a => Sys2Proof.Machine.execPset c a s
  | .mld c a => Sys2Proof.Machine.execMld c a s
  | .mst c a => Sys2Proof.Machine.execMst c a s
  | .mldh c a => Sys2Proof.Machine.execMldh c a s
  | .msth c a => Sys2Proof.Machine.execMsth c a s
  | .mgth c a => Sys2Proof.Machine.execMgth c a s
  | .msct c a => Sys2Proof.Machine.execMsct c a s
  | .mgt16 c a => Sys2Proof.Machine.execMgt16 c a s
  | .mxrd c a => Sys2Proof.Machine.execMxrd c a s
  | .mxwr c a => Sys2Proof.Machine.execMxwr c a s
  | .mhrd c a => Sys2Proof.Machine.execMhrd c a s
  | .mhwr c a => Sys2Proof.Machine.execMhwr c a s
  | .mail c ad imm => Sys2Proof.Machine.execMail c ad imm s
  | .maih c ad imm => Sys2Proof.Machine.execMaih c ad imm s
  | .maadd c ad imm => Sys2Proof.Machine.execMaadd c ad imm s
  | .mastr c ad imm => Sys2Proof.Machine.execMastr c ad imm s
  | .mvs c sr vr chunk => Sys2Proof.Machine.execMvs c sr vr chunk s
  | .msv c sr vr chunk => Sys2Proof.Machine.execMsv c sr vr chunk s
  | .mpv c pr vr => Sys2Proof.Machine.execMpv c pr vr s
  | .mvp c pr vr => Sys2Proof.Machine.execMvp c pr vr s
  | .mfrd c sd => Sys2Proof.Machine.execMfrd c sd s
  | .mfclr c mask => Sys2Proof.Machine.execMfclr c mask s
  | .sli c sd imm => Sys2Proof.Machine.execSli c sd imm s
  | .slih c sd imm => Sys2Proof.Machine.execSlih c sd imm s
  | .sadd c a => Sys2Proof.Machine.execSadd c a s
  | .ssub c a => Sys2Proof.Machine.execSsub c a s
  | .smul c a => Sys2Proof.Machine.execSmul c a s
  | .sdiv c a => Sys2Proof.Machine.execSdiv c a s
  | .smin c a => Sys2Proof.Machine.execSmin c a s
  | .smax c a => Sys2Proof.Machine.execSmax c a s
  | .sand c a => Sys2Proof.Machine.execSand c a s
  | .sor c a => Sys2Proof.Machine.execSor c a s
  | .sxor c a => Sys2Proof.Machine.execSxor c a s
  | .sshl c a => Sys2Proof.Machine.execSshl c a s
  | .sshr c a => Sys2Proof.Machine.execSshr c a s
  | .scvt c a => Sys2Proof.Machine.execScvt c a s
  | .scmp c a => Sys2Proof.Machine.execScmp c a s
  | .smov c a => Sys2Proof.Machine.execSmov c a s
  | .slcnt c lvl n1 => Sys2Proof.Machine.execSlcnt c lvl n1 s
  | .sloop c lvl len1 amask => Sys2Proof.Machine.execSloop c lvl len1 amask s
  | .xarm c slu target bound => Sys2Proof.Machine.execXarm c slu target bound s
  | .xsig c slu => Sys2Proof.Machine.execXsig c slu s
  | .xwait c slu hold => Sys2Proof.Machine.execXwait c slu hold s
  | .xend c => Sys2Proof.Machine.execXend c s
  | .xing c slu cls al index cnt => Sys2Proof.Machine.execXing c slu cls al index cnt s
  | .xemit c ocls fmt vr index cnt => Sys2Proof.Machine.execXemit c ocls fmt vr index cnt s
  | .xcanq c al bus obj dlc => Sys2Proof.Machine.execXcanq c al bus obj dlc s
  | .xjrn c al reason => Sys2Proof.Machine.execXjrn c al reason s
  | .xclk c sd sel => Sys2Proof.Machine.execXclk c sd sel s
  | .xsnd c slu al pmask len => Sys2Proof.Machine.execXsnd c slu al pmask len s
  | .xrcv c slu al port len => Sys2Proof.Machine.execXrcv c slu al port len s
  | .commandRingProd t prod entries => Sys2Proof.Machine.execCommandRingProd t prod entries s
  | .ringCons t k0 cons => Sys2Proof.Machine.execRingCons t k0 cons s
  | .ringEnable t k0 v => Sys2Proof.Machine.execRingEnable t k0 v s
  | .ringDmaFail t k0 => Sys2Proof.Machine.execRingDmaFail t k0 s
  | .eventLostReport t => Sys2Proof.Machine.execEventLostReport t s
  | .journalCopy t => Sys2Proof.Machine.execJournalCopy t s
  | .traceRecord t r => Sys2Proof.Machine.execTraceRecord t r s
  | .vectorModerationExpiry t vec => Sys2Proof.Machine.execVectorModerationExpiry t vec s
  | .nop t tag => Sys2Proof.Machine.execNop t tag s
  | .regSet t tag writes => Sys2Proof.Machine.execRegSet t tag writes s
  | .regSetBuf t tag writes => Sys2Proof.Machine.execRegSetBuf t tag writes s
  | .calSubmit t tag recs => Sys2Proof.Machine.execCalSubmit t tag recs s
  | .peserCfg t tag b node timeoutMs req => Sys2Proof.Machine.execPeserCfg t tag b node timeoutMs req s
  | .attest t tag nonce flags len => Sys2Proof.Machine.execAttest t tag nonce flags len s
  | .signed t tag o => Sys2Proof.Machine.execSigned t tag o s
  | .fwStage t tag offset flags chunk img => Sys2Proof.Machine.execFwStage t tag offset flags chunk img s
  | .resetWaitDrained t => Sys2Proof.Machine.execResetWaitDrained t s
  | .resetWaitTimeout t => Sys2Proof.Machine.execResetWaitTimeout t s
  | .registerWrite t off len v => Sys2Proof.Machine.execRegisterWrite t off len v s
  | .bar0BadRead t off len => Sys2Proof.Machine.execBar0BadRead t off len s
  | .bar2Write t addr data => Sys2Proof.Machine.execBar2Write t addr data s
  | .hstHb t v => Sys2Proof.Machine.execHstHb t v s
  | .hostSilence t => Sys2Proof.Machine.execHostSilence t s
  | .pcieFunctionReset t => Sys2Proof.Machine.execPcieFunctionReset t s
  | .checkStage t => Sys2Proof.Machine.execCheckStage t s
  | .checkComplete t img clean => Sys2Proof.Machine.execCheckComplete t img clean s
  | .clearStage t => Sys2Proof.Machine.execClearStage t s
  | .plnArm t target => Sys2Proof.Machine.execPlnArm t target s
  | .armingComplete t => Sys2Proof.Machine.execArmingComplete t s
  | .withdraw t => Sys2Proof.Machine.execWithdraw t s
  | .supersededBankRelease t => Sys2Proof.Machine.execSupersededBankRelease t s
  | .plnPlaceReq t v => Sys2Proof.Machine.execPlnPlaceReq t v s
  | .plnRetireReq t w v => Sys2Proof.Machine.execPlnRetireReq t w v s
  | .goW t => Sys2Proof.Machine.execGoW t s
  | .goC t => Sys2Proof.Machine.execGoC t s
  | .demoteW t => Sys2Proof.Machine.execDemoteW t s
  | .demoteC t => Sys2Proof.Machine.execDemoteC t s
  | .withdrawW t => Sys2Proof.Machine.execWithdrawW t s
  | .withdrawC t => Sys2Proof.Machine.execWithdrawC t s
  | .periodChange t k => Sys2Proof.Machine.execPeriodChange t k s
  | .epochLengthChange t m => Sys2Proof.Machine.execEpochLengthChange t m s
  | .timeSet t => Sys2Proof.Machine.execTimeSet t s
  | .handover t => Sys2Proof.Machine.execHandover t s
  | .rejoin t => Sys2Proof.Machine.execRejoin t s
  | .domLeave t => Sys2Proof.Machine.execDomLeave t s
  | .domainJoin t v => Sys2Proof.Machine.execDomainJoin t v s
  | .exerciseGo t => Sys2Proof.Machine.execExerciseGo t s
  | .exerciseAbort t => Sys2Proof.Machine.execExerciseAbort t s
  | .exerciseComplete t failed => Sys2Proof.Machine.execExerciseComplete t failed s
  | .rearm t mask => Sys2Proof.Machine.execRearm t mask s
  | .save t => Sys2Proof.Machine.execSave t s
  | .saveComplete t => Sys2Proof.Machine.execSaveComplete t s
  | .forceSafe t on => Sys2Proof.Machine.execForceSafe t on s
  | .modeWrite t n v => Sys2Proof.Machine.execModeWrite t n v s
  | .gainTblBase t n v => Sys2Proof.Machine.execGainTblBase t n v s
  | .rippleArm t k0 v => Sys2Proof.Machine.execRippleArm t k0 v s
  | .rippleEn t v => Sys2Proof.Machine.execRippleEn t v s
  | .pumpEn t p v => Sys2Proof.Machine.execPumpEn t p v s
  | .pumpStatClear t p v => Sys2Proof.Machine.execPumpStatClear t p v s
  | .fanEn t f v => Sys2Proof.Machine.execFanEn t f v s
  | .tachLostClear t f v => Sys2Proof.Machine.execTachLostClear t f v s
  | .canEn t b v => Sys2Proof.Machine.execCanEn t b v s
  | .streamEnable t n v => Sys2Proof.Machine.execStreamEnable t n v s
  | .tussockReset t h mask drain => Sys2Proof.Machine.execTussockReset t h mask drain s
  | .hummockReset t h drain => Sys2Proof.Machine.execHummockReset t h drain s
  | .partitionReset t h drain => Sys2Proof.Machine.execPartitionReset t h drain s
  | .drainResetAssert t => Sys2Proof.Machine.execDrainResetAssert t s
  | .absorb t h slu => Sys2Proof.Machine.execAbsorb t h slu s
  | .computeResetComplete t h => Sys2Proof.Machine.execComputeResetComplete t h s
  | .fabricReset t => Sys2Proof.Machine.execFabricReset t s
  | .fabricResetComplete t => Sys2Proof.Machine.execFabricResetComplete t s
  | .rstN t lowNs => Sys2Proof.Machine.execRstN t lowNs s
  | .powerLoss t millivolts durationNs => Sys2Proof.Machine.execPowerLoss t millivolts durationNs s
  | .powerGood t => Sys2Proof.Machine.execPowerGood t s
  | .startupPhaseComplete t inp => Sys2Proof.Machine.execStartupPhaseComplete t inp s
  | .phaseOverrun t => Sys2Proof.Machine.execPhaseOverrun t s
  | .strapCheck t lines => Sys2Proof.Machine.execStrapCheck t lines s
  | .hbToggle t => Sys2Proof.Machine.execHbToggle t s
  | .prsntNChange t partner present => Sys2Proof.Machine.execPrsntNChange t partner present s
  | .leaseEpochStored t => Sys2Proof.Machine.execLeaseEpochStored t s
  | .checkpointSigned t => Sys2Proof.Machine.execCheckpointSigned t s
  | .journalStageChange t => Sys2Proof.Machine.execJournalStageChange t s
  | .safetyAreaFold t => Sys2Proof.Machine.execSafetyAreaFold t s
  | .setNumericEffecterValue t effecter v => Sys2Proof.Machine.execSetNumericEffecterValue t effecter v s
  | .getNumericEffecterValue t effecter => Sys2Proof.Machine.execGetNumericEffecterValue t effecter s
  | .getSensorReading t sensor => Sys2Proof.Machine.execGetSensorReading t sensor s
  | .pldmSensorRefresh t r => Sys2Proof.Machine.execPldmSensorRefresh t r s
  | .entdaa t addr => Sys2Proof.Machine.execEntdaa t addr s
  | .mgmtLost t => Sys2Proof.Machine.execMgmtLost t s
  | .frameSequencerStop t => Sys2Proof.Machine.execFrameSequencerStop t s
  | .p0LinkChange t up => Sys2Proof.Machine.execP0LinkChange t up s
  | .pcieLinkUp t width speed flit => Sys2Proof.Machine.execPcieLinkUp t width speed flit s
  | .domainLinkUp t port => Sys2Proof.Machine.execDomainLinkUp t port s
  | .domainJoinNoLink t => Sys2Proof.Machine.execDomainJoinNoLink t s
  | .p0PlanSetReceived t img data target => Sys2Proof.Machine.execP0PlanSetReceived t img data target s
  | .p0CandidateReceived t k data => Sys2Proof.Machine.execP0CandidateReceived t k data s
  | .p0FirmwareChunkReceived t offset flags chunk img => Sys2Proof.Machine.execP0FirmwareChunkReceived t offset flags chunk img s
  | .fanAlignEnd t f => Sys2Proof.Machine.execFanAlignEnd t f s
  | .exerDue t => Sys2Proof.Machine.execExerDue t s
  | .setEndpointId t eid => Sys2Proof.Machine.execSetEndpointId t eid s
  | .ptpDelayResp t j delay => Sys2Proof.Machine.execPtpDelayResp t j delay s

end Sys2Proof.Machine
end

