-- ==== Sys2Proof/Machine/View.lean ====
section
/-!
DEFINITION. What a BAR0 read returns (spec/14_host.md R324, spec/20_registers.md R445): the register as the accepted writes leave it, with the fields that time or
another unit gives at the read. A read changes nothing, so that none is a command.
-/
namespace Sys2Proof.Machine

/-- Fields of a register that are formed at the read: ages, levels, the slot in progress and the time (Tables 11.14, 12.9, 13.5, 20.7,
20.8). -/
def State.formed (s : State) (r : Reg) (idx : List Nat) : List (Fld × Nat) :=
  let i := idx.headD 0
  match r with
  | .frmStat => [(F.frmStat_SLOT, if s.on F.frmStat_RUNNING [] then min 63 ((s.now - s.fab.tai0) * 64 / s.tF) else 0)]
  | .frmTaiNs => if s.on F.frmStat_TIME_VALID [] then [(F.frmTaiNs_TAI_NS, s.now)] else []
  | .fbPvalVal => [(F.fbPvalVal_FAULTED, b2n (s.pvalFaulted i)), (F.fbPvalVal_AGE, s.pvalAge i)]
  | .pioTinVal => [(F.pioTinVal_AGE, s.pioAge i)]
  | .pioAinVal => [(F.pioAinVal_AGE, s.pioAge (64 + i))]
  | .pioLeakVal => [(F.pioLeakVal_AGE, s.pioAge (96 + i))]
  | .stmHi => [(F.stmHi_DECIM, b2n (decide (s.streamDec i ≠ 0))), (F.stmHi_DEC_LVL, s.streamDec i)]
  | _ => []

/-- The word that a read of a listed register returns: WO fields read 0 (R12). -/
def State.readReg (s : State) (r : Reg) (idx : List Nat) : Nat :=
  let w := r.fields.foldl (fun (n : Nat) f => if f.acc = .wo then setBits n f.lo f.width 0 else n) (s.held.rd r idx)
  (s.formed r idx).foldl (fun (n : Nat) e => setBits n e.1.lo e.1.width (e.2 % 2 ^ e.1.width)) w

/-- An aligned 8-byte read of BAR0: 0 where nothing is listed (R445). -/
def State.readBar0 (s : State) (off : Nat) : Word :=
  match Reg.lookup off with
  | some (r, idx) => BitVec.ofNat 64 (s.readReg r idx)
  | none => 0

/-- Where a journal entry lies in the journal region (Table 18.4); its place in its area is open (notes/assumptions/149.md). -/
def JEntry.place (e : JEntry) : Nat :=
  if e.safety then 0x2E_0000_0000 + 256 * (Config.journalSlot e.seq % safeCapacity)
  else 0x2E_0400_0000 + 256 * (Config.journalSlot e.seq % mainCapacity)

/-- A byte of HBM as a BAR2 read returns it (R325, Table 14.2): the journal region holds the chained entries, and from 0x30_0000_0000 on
there is no HBM. -/
def State.bar2Byte (s : State) (a : Nat) : Byte :=
  if 0x30_0000_0000 ≤ a then 0
  else if 0x2E_0000_0000 ≤ a then
    match s.jrn.held.find? (fun e => decide (e.place ≤ a ∧ a < e.place + 256)) with
    | some e => e.bytes.getD (a - e.place) 0
    | none => 0
  else Mem.byte s.hbm a

/-- A BAR2 read (R204, R325, R435). -/
def State.readBar2 (s : State) (a n : Nat) : List Byte := (List.range n).map (fun i => s.bar2Byte (a + i))

end Sys2Proof.Machine
end

