-- ==== Sys2Proof/Safety.lean ====
section
/-!
DEFINITION. What the statements speak of: memories and registers in their canonical form, and what of the state and of the
registers a command leaves as it was.
-/
namespace Sys2Proof.Machine

/-- A tussock's memories are canonical, and its transfers and its wait name sluices and hummocks that exist. -/
def Tus.sound (t : Tus) : Bool :=
  Mem.wf t.sram && Mem.wf t.cst && Mem.wf t.cstAlt && t.xfers.all (fun x => decide (x.slu < 8192 ∧ x.hummock < 32)) &&
  t.wait.all (fun w => decide (w.slu < 8192))

/-- Every memory and every table that is read back by key is in its canonical form: HBM, tussocks and hummocks with their SRAM, the
register file, requests of the plan sequencer, stream records, keys and cooling conditions. Runs are of partitions 0 to 7, queued
records of streams 0 to 65,535. -/
def State.canonical (s : State) : Bool :=
  Tbl.wf s.regs && Mem.wf s.hbm && Tbl.wf s.fab.tus && s.fab.tus.all (fun e => e.2.sound) && Tbl.wf s.fab.hum &&
  s.fab.hum.all (fun e => Mem.wf e.2) && Tbl.wf s.pln.placeAt && Tbl.wf s.pln.retireAt && Tbl.wf s.tel.recs && Tbl.wf s.nv.keys &&
  Tbl.wf s.prt.mcSince && s.runs.all (fun r => decide (r.part < 8)) && (s.tel.q0 ++ s.tel.q1).all (fun e => decide (e.1 < 65536))

/-- The registers that journalling an entry and raising an event may change: fill and counts of the journal, PROD and counts of
the event ring, the pending bits of MSI-X. -/
def noteOffs : List Nat :=
  [Reg.off .jrnFill [], Reg.off .jrnCnt [], Reg.off .hstRingProd [1], Reg.off .hstRingCnt [1], Reg.off .hstMsixPba []]

/-- Every register but those at the listed offsets is as it was. -/
def State.regsKept (s s' : State) (l : List Nat) : Prop := ∀ a, a ∉ l → Tbl.find s'.regs a = Tbl.find s.regs a

/-- Everything but time, output, registers, journal and host interface is as it was. -/
def State.unitsKept (s s' : State) : Prop :=
  s' = { s with now := s'.now, out := s'.out, regs := s'.regs, jrn := s'.jrn, hst := s'.hst }

/-- A command completes: it answers a next state, of which `post` holds. -/
def Completes (i : Instr) (s : State) (post : State → Prop) : Prop := ∃ s', exec i s = .next s' ∧ post s'

/-- The state in which an operation of a track issues: hummock writes due have landed, what the tussock sent has entered staging where it
is due, and no output is left. -/
def State.issue (s : State) (c : Iss) : State := (s.quiet.landHum c.clk).landSends c

/-- A run without what it has staged. -/
def Run.core (r : Run) : Run := { r with emits := [], can := [], annots := [] }

/-- The issuing tussock once its bundle issue has begun: due results and flags have landed and loops are followed. -/
def State.begun (s : State) (c : Iss) : Tus := ((s.issue c).tus c.tus).begin_ c

/-- The bundle mask M at the issue. -/
def State.maskM (s : State) (c : Iss) : Nat := (s.begun c).mask c

/-- The state after an issue whose effect is on the tussock alone: all but the tussock is as at the issue. -/
def State.issued (s : State) (c : Iss) (t : Tus) : State := (s.issue c).setTus c.tus t

/-- The SRAM of the issuing tussock's hummock at the issue. -/
def State.humNow (s : State) (c : Iss) : Mem := (s.issue c).humSram (hummockOf c.tus)

/-- The tussock may issue the operation: not stopped for the frame, neither waiting nor past its XEND. -/
def State.mayIssue (s : State) (c : Iss) : Prop := (s.tus c.tus).issues c = true

/-- A lane-wise result: one result goes in flight for register d, whose lane i is the i-th result, written where M enables
the lane; the flags of the enabled lanes are raised when it lands. -/
def Tus.Lanes (t t' : Tus) (m clk d : Nat) (f : Fmt) (r : Nat → Nat × Nat) : Prop :=
  ∃ val mask fl, t' = (t.land clk (.v d val mask)).raise clk fl ∧
    (∀ i < f.lanes, elem val f.w i = (r i).1 % 2 ^ f.w ∧ ∀ n < f.w, mask.testBit (f.w * i + n) = bitAt m i) ∧
    ∀ n, fl.testBit n = true ↔ ∃ i < f.lanes, bitAt m i = true ∧ (r i).2.testBit n = true

/-- The direct write by which the host sets one field of a register, with the register's other fields as they stand. -/
def State.fieldWrite (s : State) (f : Fld) (idx : List Nat) (v : Nat) : Wr := wholeWrite f.reg idx (s.withField f idx v)

/-- Nothing forbids a direct write of the host: the rails are on, its classes suffice, no standby refuses it, the journal is not
full or the write passes all the same, the register's description takes it, with the registers as accepted writes leave them, and no
higher origin wrote the fields in this frame. -/
def State.writeMay (s : State) (w : Wr) : Prop :=
  s.prt.cut = none ∧ (s.hostReq 0xFFFF).lacks w.reg = none ∧ s.held.standbyRefuses w = false ∧
  (s.get F.jrnStat_JOURNAL_FULL [] = 0 ∨ s.passesFull w = true) ∧ s.held.refuses (fun _ => false) w = false ∧
  s.loses (s.hostReq 0xFFFF) w = false

/-- A write was accepted and journalled and has not yet changed its register: all but time, output, journal, host interface, the
record of accepted writes and what travels to the partner is as before. -/
def State.accepted (s u : State) : Prop :=
  u = { s with out := u.out, regs := u.regs, jrn := u.jrn, hst := u.hst, acs := { s.acs with last := u.acs.last }, pair := { s.pair with writes := u.pair.writes } } ∧
  s.regsKept u (Reg.off .hstStat [] :: noteOffs)

/-- The commands that are direct register writes of the host, with their instants and writes; none for any other command. -/
def hostWriteOf (i : Instr) (s : State) : Option (Tai × Wr) :=
  match i with
  | .checkStage t => some (t, s.fieldWrite F.plnStageCtrl_CHECK [] 1)
  | .clearStage t => some (t, s.fieldWrite F.plnStageCtrl_CLEAR [] 1)
  | .plnArm t v => some (t, s.fieldWrite F.plnArm_TARGET [] v.toNat)
  | .withdraw t => some (t, s.fieldWrite F.plnArm_WITHDRAW [] 1)
  | .plnPlaceReq t v => some (t, wholeWrite .plnPlaceReq [] v.toNat)
  | .plnRetireReq t w v => some (t, wholeWrite .plnRetireReq [w] v.toNat)
  | .goW t => some (t, s.fieldWrite F.plnPromoCtrl_GO_W [] 1)
  | .goC t => some (t, s.fieldWrite F.plnPromoCtrl_GO_C [] 1)
  | .demoteW t => some (t, s.fieldWrite F.plnPromoCtrl_DEMOTE_W [] 1)
  | .demoteC t => some (t, s.fieldWrite F.plnPromoCtrl_DEMOTE_C [] 1)
  | .withdrawW t => some (t, s.fieldWrite F.plnPromoCtrl_WITHDRAW_W [] 1)
  | .withdrawC t => some (t, s.fieldWrite F.plnPromoCtrl_WITHDRAW_C [] 1)
  | .periodChange t k => some (t, s.fieldWrite F.frmCfg_PERIOD_K [] k.toNat)
  | .epochLengthChange t m => some (t, s.fieldWrite F.frmCfg_EPOCH_M [] m.toNat)
  | .timeSet t => some (t, s.fieldWrite F.frmCfg_TIME_SET [] 1)
  | .handover t => some (t, s.fieldWrite F.parCtrl_HANDOVER [] 1)
  | .rejoin t => some (t, s.fieldWrite F.parCtrl_REJOIN [] 1)
  | .domLeave t => some (t, s.fieldWrite F.parCtrl_DOM_LEAVE [] 1)
  | .domainJoin t v => some (t, wholeWrite .parDomCfg [] v.toNat)
  | .exerciseGo t => some (t, s.fieldWrite F.parExer_GO [] 1)
  | .rearm t m => some (t, s.fieldWrite F.prtCtrl_REARM [] m.toNat)
  | .save t => some (t, s.fieldWrite F.lpeCtrl_SAVE [] 1)
  | .forceSafe t on => some (t, s.fieldWrite F.lpeCtrl_FORCE_SAFE [] (b2n on))
  | .modeWrite t n v => some (t, wholeWrite .lpeChCfg [n] v.toNat)
  | .gainTblBase t n v => some (t, wholeWrite .lpeChGtb [n] v.toNat)
  | .rippleArm t i v => some (t, wholeWrite .lpeRplCfg [i] v.toNat)
  | .rippleEn t v => some (t, wholeWrite .lpeRplCtrl [] v.toNat)
  | .pumpEn t p v => some (t, wholeWrite .drvPmpCfg [p] v.toNat)
  | .pumpStatClear t p v => some (t, wholeWrite .drvPmpStat [p] v.toNat)
  | .fanEn t f v => some (t, wholeWrite .drvFanCfg [f] v.toNat)
  | .tachLostClear t f v => some (t, wholeWrite .drvFanStat [f] v.toNat)
  | .canEn t b v => some (t, wholeWrite .fbCfg [b] v.toNat)
  | .streamEnable t n v => some (t, wholeWrite .stmLo [n] v.toNat)
  | .ringEnable t i v => some (t, wholeWrite .hstRingCfg [i] v.toNat)
  | .tussockReset t h mask drain => some (t, wholeWrite .humCtrl [h] (humWord F.humCtrl_TRST mask.toNat drain))
  | .hummockReset t h drain => some (t, wholeWrite .humCtrl [h] (humWord F.humCtrl_RST 1 drain))
  | .partitionReset t h drain => some (t, wholeWrite .humCtrl [h] (humWord F.humCtrl_PRST 1 drain))
  | _ => none

end Sys2Proof.Machine
end

