-- ==== Sys2Proof/Certificates/Slice0/Obligations.lean ====
section
/-!
DEFINITION. The statements for the provers, from the numbered rules of spec/. `Completes i s post` says that command i answers a
next state of which post holds.
-/
open Sys2Proof Sys2Proof.Machine

/-- The queue: a step takes the command at its front and runs it with the queue's rest; on an empty queue the module idles. The
model's own choices in it: notes/assumptions/3. -/
def Obligations.StepRunsFrontCommand : Prop :=
  (∀ (c : Instr) (r : List Instr) (s : Sys2Proof.Machine.State), step { s with pending := c :: r } = exec c { s with pending := r }) ∧
  ∀ s : Sys2Proof.Machine.State, s.pending = [] → step s = .next s

/-- What reset leaves: an empty queue, no runs, tables in canonical form, every register at its word of reset, and the reset values
that the register tables give (values where the spec gives none are the model's, notes/assumptions/5.md). The model's own choices
in it: notes/assumptions/4, 5. -/
def Obligations.ResetLeavesTheTablesValues : Prop :=
  let z := Sys2Proof.Machine.State.reset
  z.pending = [] ∧ z.canonical = true ∧ z.runs = [] ∧ (∀ a, Mem.byte z.hbm a = Mem.unlisted) ∧ (∀ r idx, z.rd r idx = r.resetWord idx) ∧
  z.get F.glbId_PART [] = 0x640 ∧ z.get F.frmCfg_PERIOD_K [] = 3 ∧ z.get F.frmCfg_EPOCH_M [] = 8 ∧ z.tF = 1000000 ∧
  z.get F.plnLadderCfg_UP_LOG [] = 0xA ∧ z.get F.parCfg_DUR_F [] = 4 ∧ z.get F.parCfg_GUARD_F [] = 2 ∧ z.get F.jrnGrant_PCIE [] = 7 ∧
  z.get F.telIngCfg_UDP_PORT [] = 50000 ∧ z.get F.capRowBudget_BUDGET [] = 0xFFFFFFFF ∧
  (∀ p < 640, z.get F.capPkgRamp_RAMP_UP [p] = 25000) ∧ z.get F.hstHbCfg_TIMEOUT_F [] = 100 ∧
  (∀ n < 256, z.get F.lpeChCfg_MISS_MAX [n] = 8 ∧ z.get F.lpeChStat_ON_SAFE [n] = 1 ∧ z.get F.lpeChCfg_MODE [n] = 0) ∧
  (∀ p < 4, z.get F.drvPmpCfg_F_SW [p] = 16 ∧ z.get F.drvPmpStat_OFF_ACT [p] = 1) ∧ (∀ f < 8, z.get F.drvFanCfg_POLES [f] = 4) ∧
  (∀ b < 4, z.get F.fbErr_STATE [b] = 3 ∧ z.get F.fbBeat_BEAT_MS [b] = 10) ∧ (∀ i < 32, z.get F.pioLeakCfg_WET_KOHM [i] = 100) ∧
  (∀ c < 32, z.getI F.prtTripLim_LO [c] = -(2 ^ 31) ∧ z.getI F.prtTripLim_HI [c] = 2 ^ 31 - 1) ∧ z.get F.prtMcCfg_CRIT_C [] = 118 ∧
  (∀ n < 65536, z.get F.stmHi_NEVER [n] = 1 ∧ z.get F.stmLo_T_STALE [n] = 200) ∧ ∀ u < 256, (z.tus u).sram = [] ∧ (z.tus u).fly = []

/-- Every step keeps every memory and table in its canonical form (`State.canonical`), whichever command it takes, and no command
touches the queue but by being taken from it. The model's own choices in it: notes/assumptions/2. -/
def Obligations.StepKeepsCanonical : Prop :=
  ∀ s s' : Sys2Proof.Machine.State, s.canonical = true → step s = .next s' → s'.canonical = true ∧ s'.pending = s.pending.tail

/-- R98, R100, R139, R141: an operation of a track is refused where the checker rejects its encoding, and otherwise does nothing while
its tussock may not issue. The model's own choices in it: notes/assumptions/23, 24. -/
def Obligations.HeldTussockIssuesNothing : Prop :=
  ∀ (i : Instr) (c : Iss) (s : Sys2Proof.Machine.State), issueOf i = some c → ¬ s.mayIssue c →
    exec i s = .next s.quiet ∨ exec i s = .refused .checkerRejects

/-- R21, R48, R95, R136: what an operation of a track leaves as it was: every other tussock's state, every register but its sluice,
the emit counts and the counts of its partition, and every unit but the fabric, the runs' staging and the free values. The model's
own choices in it: notes/assumptions/13, 24, 30. -/
def Obligations.TrackOperationsKeepTheRest : Prop :=
  ∀ (i : Instr) (c : Iss) (s s' : Sys2Proof.Machine.State), issueOf i = some c → exec i s = .next s' →
    s' = { s with free := s'.free, out := s'.out, regs := s'.regs, fab := s'.fab, runs := s'.runs } ∧
    (∀ u, u ≠ c.tus.val → s'.tus u = s.tus u) ∧
    s'.fab.tai0 = s.fab.tai0 ∧ s'.fab.closed = s.fab.closed ∧ s'.fab.comp = s.fab.comp ∧
    ∀ off, (∀ idx, off ≠ Reg.off .slu idx) → (∀ idx, off ≠ Reg.off .obsPart0 idx) → (∀ idx, off ≠ Reg.off .obsPart3 idx) →
      (∀ idx, off ≠ Reg.off .obsRepl idx) → Tbl.find s'.regs off = Tbl.find s.regs off

/-- R101, R103, R104: a result that lands changes the bits under its mask and no other register; P0 is never written. -/
def Obligations.LandingWritesTheMaskedBits : Prop :=
  ∀ (t : Tus) (r val mask n : Nat),
    (∀ q, ((t.apply (.v r val mask)).vreg q).testBit n = (if q = r ∧ mask.testBit n then val.testBit n else (t.vreg q).testBit n)) ∧
    (∀ q, ((t.apply (.s r val mask)).sreg q).testBit n = (if q = r ∧ mask.testBit n then val.testBit n else (t.sreg q).testBit n)) ∧
    (∀ q, ((t.apply (.a r val mask)).areg q).testBit n = (if q = r ∧ mask.testBit n then val.testBit n else (t.areg q).testBit n)) ∧
    (∀ q mma, ((t.apply (.tile r val mask mma)).row q).testBit n = (if q = r ∧ mask.testBit n then val.testBit n else (t.row q).testBit n)) ∧
    (∀ q, ((t.apply (.p r val mask)).pred q).testBit n =
      (if q = r ∧ r ≠ 0 ∧ mask.testBit n then val.testBit n else (t.pred q).testBit n)) ∧
    (t.apply (.p r val mask)).pred 0 = ones 64 ∧
    (∀ d q, (t.apply (.aAdd r d)).areg q = if q = r then unsigned 48 ((t.areg r : Int) + d) else t.areg q) ∧
    (∀ q, (t.apply (.aStr r val)).stride q = if q = r then signed 24 val else t.stride q) ∧
    ∀ a mma, (t.apply (.v r val mask)) = { t with v := (t.apply (.v r val mask)).v } ∧
      (t.apply (.s r val mask)) = { t with s := (t.apply (.s r val mask)).s } ∧
      (t.apply (.p r val mask)) = { t with p := (t.apply (.p r val mask)).p } ∧
      (t.apply (.a r val mask)) = { t with a := (t.apply (.a r val mask)).a } ∧
      (t.apply (.tile r val mask mma)) = { t with tile := (t.apply (.tile r val mask mma)).tile } ∧
      (t.apply (.local_ a [] mask)).sram = t.sram

/-- R67, R86, R108 to R112: TMMA, TZERO, TADD and TMOV on the rows that M enables: each accumulator element takes the products of its
row and column, added exactly and rounded once per clock of the tensor unit, eight clocks after the issue. The model's own choices
in it: notes/assumptions/16, 17, 20, 21. -/
def Obligations.TensorOperations : Prop :=
  ∀ (c : Iss) (a : TArg) (s : Sys2Proof.Machine.State), s.mayIssue c →
    let t := s.begun c
    let rows := bitList (s.maskM c) 16
    let inf := s.infMode c
    let fa := a.fmta.toNat
    let x := tmmaOperand t c a a.va.toNat
    let y := tmmaOperand t c a a.vb.toNat
    let sc := t.vreg a.vs.toNat
    let acc := tmmaAcc fa
    let product (r col i : Nat) : Sys2Proof.Machine.Num :=
      (tmmaElem fa x (r * tmmaK fa + i) (elem sc 8 r)).mul (tmmaElem a.fmtb.toNat y (16 * i + col) (elem sc 8 (16 + col)))
    let old (r col : Nat) : Nat := if a.z ∧ c.rep = 0 then 0 else tileElem t.chainRow (decide (acc.w = 64)) a.td.toNat r col
    let mma (r : Nat) : List (Nat × Nat) := (List.range 16).map (fun col =>
      accumulate acc inf (old r col) (chunks (tmmaPerClock fa) (tmmaK fa) ((List.range (tmmaK fa)).map (product r col))))
    let g := accFmt fa
    let pr := decide (g.w = 64)
    let sum (r : Nat) : List (Nat × Nat) := (List.range 16).map (fun col => encodeNum g inf .rne
      ((decodeNum g (tileElem t.row pr a.td.toNat r col)).add (decodeNum g (tileElem t.row pr a.ts.toNat r col))))
    (tmmaOk c a = true → Completes (.tmma c a) s (fun s' => s' = s.issued c (rows.foldl (fun u r =>
      (u.landRow (c.clk + 8) (decide (acc.w = 64)) true a.td.toNat r ((mma r).map Prod.fst)).raise (c.clk + 8)
        (tmmaFlags acc (flagsOr ((mma r).map Prod.snd)))) t))) ∧
    (tzeroOk a = true → Completes (.tzero c a) s (fun s' => ∃ t', s' = s.issued c t' ∧ t' = { t with fly := t'.fly } ∧
      ∀ e, e ∈ t'.fly ↔ e ∈ t.fly ∨ ∃ r ∈ rows, e = (c.clk + 1, .tile (16 * a.td.toNat + r) 0 (ones 512) false))) ∧
    (taccOk a = true →
      Completes (.tadd c a) s (fun s' => s' = s.issued c (rows.foldl (fun u r =>
        (u.landRow (c.clk + 4) pr false a.td.toNat r ((sum r).map Prod.fst)).raise (c.clk + 4) (flagsOr ((sum r).map Prod.snd))) t)) ∧
      Completes (.tmov c a) s (fun s' => s' = s.issued c (rows.foldl (fun u r =>
        u.landRow (c.clk + 2) pr false a.td.toNat r ((List.range 16).map (tileElem t.row pr a.ts.toNat r))) t)))

/-- R113, R114, Table 4.10: the lane-wise arithmetic, each lane computed exactly and encoded once in the lane type, with its latency;
lanes that M turns off keep their value. R68, R90, R114: VDIV and the six functions. In BF16 and FP16 a function's lane is the
correctly rounded result; in FP32 it is that result or lies up to two units in the last place beside it, by a free value, as the
base-2 logarithm of 0 is (notes/assumptions/1.md). R90: division by zero and the zero, infinity and NaN cases of a quotient. The
model's own choices in it: notes/assumptions/14, 19, 20, 21, 132, 133. -/
def Obligations.VectorArithmeticAndFunctions : Prop :=
  (∀ (c : Iss) (a : VArg) (s : Sys2Proof.Machine.State), s.mayIssue c →
    let f := vfmt a
    let x (i : Nat) := decodeNum f (elem (vA (s.begun c) c a) f.w i)
    let y (i : Nat) := decodeNum f (elem (vB (s.begun c) c a) f.w i)
    let z (i : Nat) := decodeNum f (elem (vC (s.begun c) c a) f.w i)
    let lanes (op : Instr) (lat : Nat) (r : Nat → Sys2Proof.Machine.Num) : Prop :=
      Completes op s (fun s' => ∃ t', s' = s.issued c t' ∧
        Tus.Lanes (s.begun c) t' (s.maskM c) (c.clk + lat) (vD c a) f (fun i => encodeNum f (s.infMode c) .rne (r i)))
    let lat (p q : Nat) : Nat := if a.fmt.toNat = 0 then q else p
    (varithOk c a 2 = true →
      lanes (.vadd c a) (lat 3 4) (fun i => (x i).add (y i)) ∧ lanes (.vsub c a) (lat 3 4) (fun i => (x i).add (y i).opp) ∧
      lanes (.vmul c a) (lat 4 6) (fun i => (x i).mul (y i)) ∧
      lanes (.vmin c a) 3 (fun i => (x i).minimum (y i)) ∧ lanes (.vmax c a) 3 (fun i => (x i).maximum (y i))) ∧
    (varithOk c a 1 = true → lanes (.vabs c a) 3 (fun i => (x i).mag) ∧ lanes (.vneg c a) 3 (fun i => (x i).opp)) ∧
    (varithOk c a 3 = true →
      lanes (.vfma c a) (lat 4 6) (fun i => ((x i).mul (y i)).add (z i)) ∧
      lanes (.vclmp c a) 3 (fun i => ((x i).maximum (y i)).minimum (z i))) ∧
    (vbitOk c a 1 = true →
      lanes (.vshl c a) 1 (fun i => (x i).scale (a.fn.toNat % 64 : Nat)) ∧ lanes (.vshr c a) 1 (fun i => (x i).scale (-(a.fn.toNat % 64 : Nat)))) ∧
    (vdivOk c a 1 = true → lanes (.vsqrt c a) (lat 14 22) (fun i => sqrtNum (x i)))) ∧
  (∀ (c : Iss) (a : VArg) (s : Sys2Proof.Machine.State), s.mayIssue c →
    let f := vfmt a
    let inf := s.infMode c
    let x (i : Nat) := decodeNum f (elem (vA (s.begun c) c a) f.w i)
    let y (i : Nat) := decodeNum f (elem (vB (s.begun c) c a) f.w i)
    let fr (i : Nat) := Config.freeValue (s.free + i)
    let fun_ (op : Instr) (r : Nat → Nat × Nat) : Prop :=
      Completes op s (fun s' => ∃ t', s' = { s.issued c t' with free := s.free + 64 } ∧
        Tus.Lanes (s.begun c) t' (s.maskM c) (c.clk + 8) (vD c a) f (fun i => within2 f (fr i % 8) (r i)))
    (vdivOk c a 2 = true → Completes (.vdiv c a) s (fun s' => ∃ t', s' = s.issued c t' ∧
        Tus.Lanes (s.begun c) t' (s.maskM c) (c.clk + if a.fmt.toNat = 0 then 22 else 14) (vD c a) f (fun i => divide f inf (x i) (y i)))) ∧
    (vfunOk c a = true →
      fun_ (.vrcp c a) (fun i => divide f inf .one (x i)) ∧ fun_ (.vrsq c a) (fun i => rsqrt f inf (x i)) ∧
      fun_ (.vexp2 c a) (fun i => encodeNum f inf .rne (x i).exp2) ∧ fun_ (.vlog2 c a) (fun i => log2Num f inf (fr i / 8) (x i)) ∧
      fun_ (.vtanh c a) (fun i => encodeNum f inf .rne (x i).tanh) ∧ fun_ (.vsig c a) (fun i => encodeNum f inf .rne (x i).sigmoid)) ∧
    (∀ d r, f.w ≠ 32 → within2 f d r = r) ∧
    ∀ d r, f.w = 32 → ((bits (within2 f d r).1 0 31 : Int) - bits r.1 0 31).natAbs ≤ 2) ∧
  (∀ (f : Fmt) (inf : Bool) (g h st st' : Bool) (m : Nat) (e e' : Int),
    (f.isFloat = true → divide f inf (.fin g 0 e st) (.fin h 0 e' st') = (f.nanEnc, flNan)) ∧
    (f.isFloat = true → m ≠ 0 → divide f inf (.fin g m e st) (.fin h 0 e' st') =
      (b2n (xor g h) * 2 ^ (f.w - 1) + (if inf && f.hasInf then f.infEnc else f.maxEnc), flDz)) ∧
    (f.isFloat = false → divide f inf (.fin g 0 e st) (.fin h 0 e' st') = (0, flDz)) ∧
    (f.isFloat = false → m ≠ 0 → divide f inf (.fin g m e st) (.fin h 0 e' st') =
      (unsigned f.w (if g then -(2 ^ (f.w - 1) : Int) else 2 ^ (f.w - 1) - 1), flDz)))

/-- R114, R115: the bitwise operations, selection, broadcast, permutation, comparison and predicate operations: destination, latency
and the value of every lane that M enables. The value VPERM broadcasts from a lane that does not exist is free. The model's own
choices in it: notes/assumptions/18, 19. -/
def Obligations.VectorBitsLanesAndPredicates : Prop :=
  ∀ (c : Iss) (a : VArg) (s : Sys2Proof.Machine.State), s.mayIssue c →
    let f := vfmt a
    let t := s.begun c
    let m := s.maskM c
    let x := vA t c a
    let y := vB t c a
    let psel := t.pred (a.fn.toNat / 16 % 8)
    let moved (op : Instr) (lat : Nat) (r : Nat → Nat) : Prop :=
      Completes op s (fun s' => ∃ val mask, s' = { s.issued c (t.land (c.clk + lat) (.v (vD c a) val mask)) with free := s'.free } ∧
        ∀ i < f.lanes, elem val f.w i = r i % 2 ^ f.w ∧ ∀ n < f.w, mask.testBit (f.w * i + n) = bitAt m i)
    let pred (op : Instr) (val : Nat) : Prop :=
      Completes op s (fun s' => s' = s.issued c (if bitAt m 0 then t.land (c.clk + 1) (.p (a.vd.toNat % 8) val (ones 64)) else t))
    (vbitOk c a 2 = true →
      moved (.vand c a) 1 (fun i => elem x f.w i &&& elem y f.w i) ∧ moved (.vor c a) 1 (fun i => elem x f.w i ||| elem y f.w i) ∧
      moved (.vxor c a) 1 (fun i => elem x f.w i ^^^ elem y f.w i)) ∧
    (varithOk c a 2 = true → moved (.vsel c a) 1 (fun i => if bitAt psel i then elem x f.w i else elem y f.w i)) ∧
    (vbcOk c a = true → moved (.vbc c a) 2 (fun _ => t.sreg (a.fn.toNat % 32))) ∧
    (vpermOk c a = true → moved (.vperm c a) 2 (fun i => match a.fn.toNat / 16 % 8 with
      | 0 => elem x f.w (f.lanes - 1 - i)
      | 1 => elem x f.w ((i + a.fn.toNat % 16) % f.lanes)
      | 2 => elem (if i % 2 = 0 then x else y) f.w (i / 2)
      | 3 => elem (if i % 2 = 0 then x else y) f.w (f.lanes / 2 + i / 2)
      | _ => if a.fn.toNat % 16 < f.lanes then elem x f.w (a.fn.toNat % 16) else Config.freeValue s.free)) ∧
    (vcmpOk c a = true → Completes (.vcmp c a) s (fun s' => ∃ val mask,
      s' = s.issued c (t.land (c.clk + 2) (.p (a.fn.toNat / 16 % 8) val mask)) ∧ ∀ i < f.lanes, mask.testBit i = m.testBit i ∧
        val.testBit i = Sys2Proof.Machine.Num.cond (a.fn.toNat % 8) (decodeNum f (elem x f.w i)) (decodeNum f (elem y f.w i)))) ∧
    (plogOk a = true → pred (.plog c a) (plogOp a.fn.toNat (t.pred (a.va.toNat % 8)) (t.pred (a.vb.toNat % 8)))) ∧
    (psetOk a = true → pred (.pset c a) (ones a.fn.toNat))

/-- R85, R89, R115, R116: VCVT between lane types and to and from BS4, VRED by a pairwise tree of neighbours, and the tile rows that
VTRD and VTWR move. The model's own choices in it: notes/assumptions/19, 22, 138. -/
def Obligations.VectorConversionReductionAndTiles : Prop :=
  ∀ (c : Iss) (a : VArg) (s : Sys2Proof.Machine.State), s.mayIssue c →
    let f := vfmt a
    let t := s.begun c
    let m := s.maskM c
    let x := vA t c a
    let inf := s.infMode c
    let g := (Fmt.ofCode (a.fn.toNat / 8)).getD Fmt.fp32
    let fr (i : Nat) := Config.freeValue (s.free + i)
    let part := a.fn.toNat % 8
    let ns := (List.range 32).map (fun i => decodeNum f (elem x 16 i))
    let node (p q : Nat × Nat) : Nat × Nat :=
      let u := decodeNum f p.1
      let v := decodeNum f q.1
      let r := encodeNum f inf .rne (match a.fn.toNat % 4 with | 0 => u.add v | 1 => u.minimum v | _ => u.maximum v)
      (r.1, r.2 ||| p.2 ||| q.2)
    let top := pairTree node 7 ((List.range f.lanes).map (fun i => (elem x f.w i, 0)))
    (vcvtOk c a = true → a.fmt.toNat ≠ 6 → a.fn.toNat / 8 ≠ 6 → Completes (.vcvt c a) s (fun s' => ∃ val mask fl,
      s' = { s.issued c ((t.land (c.clk + 3) (.v (vD c a) val mask)).raise (c.clk + 3) fl) with free := s.free + 64 } ∧
      ∀ i < 512 / max f.w g.w,
        let r := encodeNum g inf (if a.rm then .sr (fr i) else .rne)
          (decodeNum f (elem x f.w (if f.w < g.w then part * (512 / max f.w g.w) + i else i)))
        let j := if g.w < f.w then part * (512 / max f.w g.w) + i else i
        elem val g.w j = r.1 % 2 ^ g.w ∧ (∀ n < g.w, mask.testBit (g.w * j + n) = bitAt m i))) ∧
    (vcvtOk c a = true → a.fmt.toNat = 6 → Completes (.vcvt c a) s (fun s' =>
      s' = { s.issued c (vcvtFromBs4 t m c a inf) with free := s.free + 64 } ∧
      Tus.Lanes t (vcvtFromBs4 t m c a inf) m (c.clk + 4) (vD c a) ((Fmt.ofCode (a.fn.toNat / 8)).getD Fmt.bf16)
        (fun i => encodeNum ((Fmt.ofCode (a.fn.toNat / 8)).getD Fmt.bf16) inf .rne
          (decodeBs4 (elem x 4 (32 * part + i)) (elem (vB t c a) 8 part))))) ∧
    (vcvtOk c a = true → a.fmt.toNat ≠ 6 → a.fn.toNat / 8 = 6 → Completes (.vcvt c a) s (fun s' =>
      s' = { s.issued c (vcvtToBs4 t m c a fr) with free := s.free + 64 } ∧
      (∃ val mask, (c.clk + 4, Land.v (vD c a) val mask) ∈ (vcvtToBs4 t m c a fr).fly ∧ ∀ i < 32,
        elem val 4 (32 * part + i) = (if ns.all Sys2Proof.Machine.Num.isZero then 0 else if (ns.getD i .nan).isNan then fr i else
          (encodeBs4 (if a.rm then .sr (fr i) else .rne) (bs4Scale ns).1 (bs4Scale ns).2.2 (ns.getD i .nan)).1) % 16) ∧
      (m % 2 ^ 32 ≠ 0 → (c.clk + 4, Land.v (regAt a.vb.toNat (advB a) c.rep) ((bs4Scale ns).1 * 2 ^ (8 * part)) (0xFF * 2 ^ (8 * part))) ∈
        (vcvtToBs4 t m c a fr).fly))) ∧
    (vredOk c a = true → Completes (.vred c a) s (fun s' => ∃ t', s' = s.issued c t' ∧ (bitAt m 0 = false → t' = t) ∧
      (bitAt m 0 = true → t' = (t.land (c.clk + 6) (.v (vD c a) top.1 (ones 512))).raise (c.clk + 6) top.2))) ∧
    (vtileOk c a a.vd.toNat (advD a) = true → Completes (.vtrd c a) s (fun s' => s' = s.issued c (vtrd t m c a) ∧
      (pairCode a.fmt.toNat = false →
        vtrd t m c a = t.land (c.clk + 2) (.v (vD c a) (t.row (16 * (a.fn.toNat / 16) + vrow c a)) (laneMask 32 16 m))))) ∧
    (vtileOk c a a.va.toNat (advA a) = true → Completes (.vtwr c a) s (fun s' => s' = s.issued c (vtwr t m c a) ∧
      (pairCode a.fmt.toNat = false →
        vtwr t m c a = t.land (c.clk + 2) (.tile (16 * (a.fn.toNat / 16) + vrow c a) x (laneMask 32 16 m) false))))

/-- R117, R118, R121: loads of a V register from local SRAM (4 clocks) and hummock SRAM (12 clocks) at AA + 64·(OFF + I), masked by
M[0]; the post-increments follow in every case. A gather reads its rows through the constant store, four of MGT16 in each clock.
R104, R117, R118, R121: stores of a V register at AA + 64·(OFF + I): local SRAM in 2 clocks, hummock SRAM in 8, the 8-byte chunks
that M enables and no other. The model's own choices in it: notes/assumptions/13, 14, 25, 139. -/
def Obligations.LoadsAndStores : Prop :=
  (∀ (c : Iss) (a : MemArg) (s : Sys2Proof.Machine.State), s.mayIssue c →
    let t := s.begun c
    let on := bitAt (s.maskM c) 0
    let hum := s.humNow c
    let at_ (units : Int) := decodeAddr (addAddr (t.areg a.aa.toNat) (64 * units)) 64
    let loads (op : Instr) (units : Int) (idx : Bool) : Prop :=
      (∀ off, at_ units = some (.local_ off) → Completes op s (fun s' => s' = s.issued c
        ((if on then t.land (c.clk + 4) (.v (memV c a 1) (Mem.num t.sram off 64) (ones 512)) else t).memInc c a idx))) ∧
      (∀ off, at_ units = some (.hum off) → Completes op s (fun s' => s' = s.issued c
        ((if on then t.land (c.clk + 12) (.v (memV c a 1) (Mem.num hum off 64) (ones 512)) else t).memInc c a idx)))
    (memOk c a 1 false = true → loads (.mld c a) a.off.toInt false) ∧
    (memOk c a 1 true = true → ∀ o, decodeAddr (t.areg a.ai.toNat) 2 = some (.const o) →
      loads (.mgth c a) (a.off.toInt + (Mem.num t.cst o 2 : Int)) true) ∧
    (memOk c a 4 false = true → ∀ off, decodeAddr (addAddr (t.areg a.aa.toNat) (256 * a.off.toInt)) 256 = some (.hum off) →
      Completes (.mldh c a) s (fun s' => ∃ t' : Tus, s' = s.issued c (t'.memInc c a false) ∧ t' = { t with fly := t'.fly } ∧
        ∀ e, e ∈ t'.fly ↔ e ∈ t.fly ∨ (on = true ∧ ∃ j < 4,
          e = (c.clk + 12, .v (memV c a 4 + j) (Mem.num hum (off + 64 * j) 64) (ones 512))))) ∧
    (memOk c a 16 true = true → ∀ o, decodeAddr (t.areg a.ai.toNat) 32 = some (.const o) → ∀ row : Nat → Nat,
      (∀ r < 16, at_ (a.off.toInt + (Mem.num t.cst (o + 2 * r) 2 : Int)) = some (.local_ (row r))) →
      Completes (.mgt16 c a) s (fun s' => ∃ (t' : Tus) (val : Nat → Nat), s' = s.issued c (t'.memInc c a true) ∧ t' = { t with fly := t'.fly } ∧
        (∀ j < 16, ∀ r < 16, elem (val j) 32 r = elem (Mem.num (t.sramAt (c.clk + r / 4)) (row r) 64) 32 j) ∧
        ∀ e, e ∈ t'.fly ↔ e ∈ t.fly ∨ (on = true ∧ ∃ j < 16, e = (c.clk + 12, .v (memV c a 16 + j) (val j) (ones 512)))))) ∧
  (∀ (c : Iss) (a : MemArg) (s : Sys2Proof.Machine.State), s.mayIssue c →
    let t := s.begun c
    let m := s.maskM c
    let at_ (units : Int) := decodeAddr (addAddr (t.areg a.aa.toNat) (64 * units)) 64
    let data := leBytes 64 (t.vreg (memV c a 1))
    let stores (op : Instr) (units : Int) (idx : Bool) : Prop :=
      (∀ off, at_ units = some (.local_ off) → Completes op s (fun s' =>
        s' = s.issued c ((t.land (c.clk + 2) (.local_ off data (m % 256))).memInc c a idx))) ∧
      (∀ off, at_ units = some (.hum off) → Completes op s (fun s' =>
        let u := s.issued c (t.memInc c a idx)
        s' = { u with fab := { u.fab with hfly := s'.fab.hfly } } ∧ s'.fab.hfly = u.fab.hfly ++ (bitList m 8).map (fun j =>
          (c.clk + 8, hummockOf c.tus, off + 8 * j, (data.drop (8 * j)).take 8))))
    (memOk c a 1 false = true → stores (.mst c a) a.off.toInt false) ∧
    (memOk c a 1 true = true → ∀ o, decodeAddr (t.areg a.ai.toNat) 2 = some (.const o) →
      stores (.msct c a) (a.off.toInt + (Mem.num t.cst o 2 : Int)) true) ∧
    (memOk c a 4 false = true → ∀ off, decodeAddr (addAddr (t.areg a.aa.toNat) (256 * a.off.toInt)) 256 = some (.hum off) →
      Completes (.msth c a) s (fun s' =>
        let u := s.issued c (t.memInc c a false)
        s' = { u with fab := { u.fab with hfly := s'.fab.hfly } } ∧ s'.fab.hfly = u.fab.hfly ++ (if bitAt m 0 then
          [(c.clk + 8, hummockOf c.tus, off, (List.range 4).flatMap (fun j => leBytes 64 (t.vreg (memV c a 4 + j))))] else []))) ∧
    (∀ (t : Tus) (off m : Nat) (d : List Byte) (x : Nat), d.length = 64 → (x < off ∨ off + 64 ≤ x ∨ bitAt m ((x - off) / 8) = false) →
      Mem.byte (t.apply (.local_ off d m)).sram x = Mem.byte t.sram x) ∧
    ∀ (t : Tus) (off m : Nat) (d : List Byte) (j : Nat), d.length = 64 → j < 64 → bitAt m (j / 8) = true → Mem.wf t.sram = true →
      Mem.byte (t.apply (.local_ off d m)).sram (off + j) = d.getD j 0)

/-- R28, R119, R121, R123, R154: a block transfer that its plan may make takes its data at the issue and goes in flight with its
destination and the clock of its completion; it stops where more than four would fly or where it is misaligned. A transfer between
SRAMs goes by a route that leaves at its hummock, one of HBM by a route to the port of the granule's stack, in a window of the
plan for its direction. R119, R136, R137, R381: a transfer completes no earlier than its clock; then it writes its data, unless it
was masked, and a signal leaves for its sluice; into a target under compute reset it is absorbed and counted instead, nothing is
written, and the signal is an absorbed one. The model's own choices in it: notes/assumptions/15, 25, 91, 134. -/
def Obligations.BlockTransfersFlyAndComplete : Prop :=
  (∀ (c : Iss) (a : BlkArg) (s : Sys2Proof.Machine.State), s.mayIssue c →
    let t := s.begun c
    let w := s.issue c
    let n := 256 * (a.len.toNat + 1)
    let l := t.areg a.al.toNat
    let r := t.areg a.ar.toNat
    let own := hummockOf c.tus
    let flies (op : Instr) (kind h addr : Nat) (d : List Byte) (toLocal hbm : Bool) (remote : Option Nat) : Prop :=
      let x : Xfer := ⟨kind, h, addr, d, a.slu.toNat, bitAt (s.maskM c) 0, c.run,
        c.clk + xferClocks toLocal hbm (w.get F.plnLadderStat_RUNG []) (a.len.toNat + 1) remote, hbm⟩
      s.useMay c op = true → Completes op s (fun s' => s' = s.issued c
        ((({ t with xfers := t.xfers ++ [x] } : Tus).postInc c a.pi a.al.toNat).postInc c a.pi a.ar.toNat))
    let hum (h o : Nat) := Mem.bytes (Tbl.at w.fab.hum h []) o n
    (∀ op ∈ [Instr.mxrd c a, .mxwr c a, .mhrd c a, .mhwr c a],
      (s.useMay c op = false → exec op s = .refused .checkerRejects) ∧
      (s.useMay c op = true → 4 ≤ t.xfers.length ∨ l % 256 ≠ 0 ∨ r % 256 ≠ 0 → exec op s = .fault .planLimit)) ∧
    (t.xfers.length < 4 → l % 256 = 0 → r % 256 = 0 → ∀ lo, decodeAddr l n = some (.local_ lo) →
      ∀ q, w.routeOf c.tus c.run a.rte.toNat = some q →
      (∀ o, decodeAddr r n = some (.hum o) → q.exit = 0 → q.dest = own →
        flies (.mxrd c a) 0 own lo (hum own o) true false none ∧ flies (.mxwr c a) 1 own o (Mem.bytes t.sram lo n) false false none) ∧
      (∀ h o, decodeAddr r n = some (.other h o) → q.exit = 0 → q.dest = h → w.humMay c h = true →
        let remote := if h = own then none else some q.hops
        flies (.mxrd c a) 0 own lo (hum h o) true false remote ∧ flies (.mxwr c a) 1 h o (Mem.bytes t.sram lo n) false false remote) ∧
      (∀ o, decodeAddr r n = some (.hbm o) → o % 4096 + n ≤ 4096 → q.exit = 1 → portStack q.dest = some (stackOf o) →
        (w.windowMay c o n false = true →
          flies (.mhrd c a) 0 own lo (s.hbmRead (w.runOf c.tus c.run) o n) true true (some q.hops)) ∧
        (w.windowMay c o n true = true → flies (.mhwr c a) 2 q.dest o (Mem.bytes t.sram lo n) false true (some q.hops))))) ∧
  (∀ (s : Sys2Proof.Machine.State) (u : Fin 256) (k : Fin 4) (clk : Nat) (x : Xfer), (s.tus u).xfers[k.val]? = some x →
    let msg (kind : MsgKind) : Msg := ⟨s.reaches (if x.hbm then clk else x.due) x.hummock x.slu, x.slu, kind⟩
    (clk < x.due → exec (.transferComplete u ⟨k, clk⟩) s = .next s.quiet) ∧
    (x.due ≤ clk → s.absorbs u x = none → Completes (.transferComplete u ⟨k, clk⟩) s (fun s' =>
      s'.fab.msgs = s.fab.msgs ++ [msg .signal] ∧
      (s'.tus u).xfers = (s.tus u).xfers.eraseIdx k.val ∧ s'.regs = s.regs ∧ (∀ q, q ≠ u.val → s'.tus q = s.tus q) ∧
      (s'.tus u).sram = (if x.kind = 0 ∧ x.write then Mem.setBytes (s.tus u).sram x.addr x.data else (s.tus u).sram) ∧
      (∀ h, s'.humSram h = if x.kind = 1 ∧ x.write ∧ h = x.hummock then Mem.setBytes (s.humSram h) x.addr x.data else s.humSram h) ∧
      ((x.kind = 0 ∨ x.kind = 1 ∨ x.write = false) → s'.hbm = s.hbm ∧ s'.runs = s.runs) ∧
      (2 ≤ x.kind → x.write = true → s'.hbm = (s.hbmWrite u x.run x.addr x.data).hbm ∧ s'.runs = (s.hbmWrite u x.run x.addr x.data).runs))) ∧
    (x.due ≤ clk → ∀ h, s.absorbs u x = some h → h < 32 → Completes (.transferComplete u ⟨k, clk⟩) s (fun s' =>
      s'.get F.humStat_ABSORB_CNT [h] = min (s.get F.humStat_ABSORB_CNT [h] + 1) (2 ^ F.humStat_ABSORB_CNT.width - 1) ∧
      s.regsKept s' [Reg.off .humStat [h]] ∧ s'.fab.msgs = s.fab.msgs ++ [msg .absorbed] ∧
      s'.hbm = s.hbm ∧ s'.runs = s.runs ∧ s'.fab.hum = s.fab.hum ∧ (s'.tus u).sram = (s.tus u).sram)) ∧
    ∀ (u : Fin 256) (k : Fin 4), (s.tus u).xfers[k.val]? = none → exec (.transferComplete u ⟨k, clk⟩) s = .next s.quiet)

/-- R118, R120: the register moves, each with its latency, masked by M[0]. The model's own choices in it: notes/assumptions/13. -/
def Obligations.RegisterMoves : Prop :=
  ∀ (c : Iss) (s : Sys2Proof.Machine.State), s.mayIssue c →
    let t := s.begun c
    let moves (op : Instr) (lat : Nat) (l : Land) : Prop :=
      Completes op s (fun s' => s' = s.issued c (if bitAt (s.maskM c) 0 then t.land (c.clk + lat) l else t))
    (∀ (ad : BitVec 4) (imm : BitVec 32), moves (.mail c ad imm) 1 (.a ad.toNat imm.toNat (ones 48)) ∧
      moves (.maadd c ad imm) 1 (.aAdd ad.toNat imm.toInt)) ∧
    (∀ (ad : BitVec 4) (imm : BitVec 16), moves (.maih c ad imm) 1 (.a ad.toNat (imm.toNat * 2 ^ 32) (ones 16 * 2 ^ 32))) ∧
    (∀ (ad : BitVec 4) (imm : BitVec 24), moves (.mastr c ad imm) 1 (.aStr ad.toNat imm.toNat)) ∧
    (∀ (sr : BitVec 5) (vr : BitVec 6) (k : BitVec 3),
      moves (.mvs c sr vr k) 2 (.s sr.toNat (bits (t.vreg vr.toNat) (64 * k.toNat) 64) (ones 64)) ∧
      moves (.msv c sr vr k) 2 (.v vr.toNat (t.sreg sr.toNat * 2 ^ (64 * k.toNat)) (ones 64 * 2 ^ (64 * k.toNat)))) ∧
    (∀ (pr : BitVec 3) (vr : BitVec 6), (pr.toNat ≠ 0 → moves (.mpv c pr vr) 1 (.p pr.toNat (bits (t.vreg vr.toNat) 0 64) (ones 64))) ∧
      moves (.mvp c pr vr) 1 (.v vr.toNat (t.pred pr.toNat) (ones 64))) ∧
    (∀ sd : BitVec 5, moves (.mfrd c sd) 1 (.s sd.toNat t.flags (ones 64))) ∧
    (∀ mask : BitVec 6, Completes (.mfclr c mask) s (fun s' =>
      s' = s.issued c (if bitAt (s.maskM c) 0 then t.clearFlags (c.clk + 1) mask.toNat else t))) ∧
    ∀ (u : Tus) (e : Nat × Nat × Nat) (n : Nat), ((u.flagStep e).flags.testBit n = ((u.flags.testBit n && !e.2.1.testBit n) || e.2.2.testBit n)) ∧
      (u.flagStep e).fold.testBit n = (u.fold.testBit n || e.2.2.testBit n)

/-- R124 to R126: the scalar operations, in INT64 and FP64, with their latencies; a result is written where M[0] is 1. The model's own
choices in it: notes/assumptions/20, 21, 132, 133. -/
def Obligations.ScalarOperations : Prop :=
  ∀ (c : Iss) (a : SArg) (s : Sys2Proof.Machine.State), s.mayIssue c →
    let t := s.begun c
    let on := bitAt (s.maskM c) 0
    let inf := s.infMode c
    let f := sfmt a
    let x := decodeNum f (t.sreg a.sa.toNat)
    let y := decodeNum f (t.sreg a.sb.toNat)
    let lat (p q : Nat) : Nat := if a.ty then q else p
    let sets (op : Instr) (lat : Nat) (r : Nat × Nat) : Prop :=
      Completes op s (fun s' => s' = s.issued c
        (if on then (t.land (c.clk + lat) (.s a.sd.toNat r.1 (ones 64))).raise (c.clk + lat) r.2 else t))
    let arith (op : Instr) (lat : Nat) (r : Sys2Proof.Machine.Num) : Prop := sets op lat (encodeNum f inf .rne r)
    arith (.sadd c a) (lat 1 4) (x.add y) ∧ arith (.ssub c a) (lat 1 4) (x.add y.opp) ∧ arith (.smul c a) (lat 3 6) (x.mul y) ∧
    sets (.sdiv c a) (lat 20 22) (divide f inf x y) ∧ arith (.smin c a) (lat 1 2) (x.minimum y) ∧
    arith (.smax c a) (lat 1 2) (x.maximum y) ∧
    (a.ty = false → sets (.sand c a) 1 (t.sreg a.sa.toNat &&& t.sreg a.sb.toNat, 0) ∧
      sets (.sor c a) 1 (t.sreg a.sa.toNat ||| t.sreg a.sb.toNat, 0) ∧ sets (.sxor c a) 1 (t.sreg a.sa.toNat ^^^ t.sreg a.sb.toNat, 0)) ∧
    (a.ty = false → a.fn.toNat < 64 → arith (.sshl c a) 1 (x.scale a.fn.toNat) ∧ arith (.sshr c a) 1 (x.scale (-(a.fn.toNat : Int)))) ∧
    sets (.scvt c a) 3 (if a.ty then encodeNum Fmt.fp64 inf .rne (decodeNum Fmt.int64 (t.sreg a.sa.toNat))
      else encodeNum Fmt.int64 inf .rne (decodeNum Fmt.fp64 (t.sreg a.sa.toNat))) ∧
    sets (.smov c a) 1 (t.sreg a.sa.toNat, 0) ∧
    (a.fn.toNat / 2 ^ 21 ≠ 0 → Completes (.scmp c a) s (fun s' => s' = s.issued c (if on then t.land (c.clk + 2)
      (.p (a.fn.toNat / 2 ^ 21) (if Sys2Proof.Machine.Num.cond (a.fn.toNat / 2 ^ 18) x y then ones 64 else 0) (ones 64)) else t))) ∧
    ∀ (sd : BitVec 5) (imm : BitVec 32),
      Completes (.sli c sd imm) s (fun s' => s' = s.issued c
        (if on then t.land (c.clk + 1) (.s sd.toNat (unsigned 64 imm.toInt) (ones 64)) else t)) ∧
      Completes (.slih c sd imm) s (fun s' => s' = s.issued c
        (if on then t.land (c.clk + 1) (.s sd.toNat (imm.toNat * 2 ^ 32) (ones 32 * 2 ^ 32)) else t))

/-- R127, R128: SLCNT sets a level's pass count, SLOOP opens a loop with it, and both are rejected in a bundle with RPT. At the next
issue a step back inside the body ends a pass, and a bundle outside the body ends the loop; every pass that ends adds the strides
that AMASK names. The model's own choices in it: notes/assumptions/13. -/
def Obligations.CountedLoops : Prop :=
  ∀ (c : Iss) (s : Sys2Proof.Machine.State) (lvl : BitVec 2) (n1 : BitVec 16) (len1 : BitVec 14) (am : BitVec 16),
    let t := s.begun c
    (s.mayIssue c → c.rpt = 0 →
      Completes (.slcnt c lvl n1) s (fun s' => ∃ t', s' = s.issued c t' ∧ t' = { t with counts := t'.counts } ∧
        (∀ l, Tbl.at t'.counts l 1 = if l = lvl.toNat then n1.toNat + 1 else Tbl.at t.counts l 1)) ∧
      Completes (.sloop c lvl len1 am) s (fun s' => s' = s.issued c
        { t with loops := ⟨lvl.toNat, c.pos, len1.toNat + 1, am.toNat, Tbl.at t.counts lvl.toNat 1 - 1⟩ :: t.loops })) ∧
    (c.rpt ≠ 0 → exec (.slcnt c lvl n1) s = .refused .checkerRejects ∧ exec (.sloop c lvl len1 am) s = .refused .checkerRejects) ∧
    ∀ (u : Tus) (f : LoopFrame) (r : List LoopFrame) (pos last : Nat),
      (f.p < pos → pos < last → pos ≤ f.p + f.len → f.p < last →
        u.loopStep pos last false (f :: r) = (u.strides f.amask 1, { f with left := f.left - 1 } :: r)) ∧
      (f.p < pos → pos ≤ f.p + f.len → last < pos → u.loopStep pos last false (f :: r) = (u, f :: r)) ∧
      (pos ≤ f.p ∨ f.p + f.len < pos → u.loopStep pos last false (f :: r) = (u.strides f.amask (f.left + 1)).loopStep pos last false r)

/-- R132, R134, R136, R137: a message takes 2 + h clocks to a sluice's home; an arming that reaches it sets the sluice, a signal
counts and an absorbed one counts and marks, and the clock of the count that releases the sluice is kept. The model's own choices
in it: notes/assumptions/24, 26. -/
def Obligations.SluicesArmCountAndAbsorb : Prop :=
  (∀ (s : Sys2Proof.Machine.State) (u : Fin 8192) (clk : Nat),
    (s.arrived .signal u clk = none → exec (.sluiceSignal ⟨u, clk⟩) s = .next s.quiet) ∧
    (s.arrived .absorbed u clk = none → exec (.absorbedSignal ⟨u, clk⟩) s = .next s.quiet) ∧
    ∀ m, let b := s.take m
      let n := min (b.get F.slu_COUNT [u] + 1) (2 ^ F.slu_COUNT.width - 1)
      let st := b.get F.slu_STATUS [u]
      let one (s' : Sys2Proof.Machine.State) : Prop := b.regsKept s' [Reg.off .slu [u], Reg.off .obsSlu []] ∧
        s' = { b with out := [], regs := s'.regs, fab := { b.fab with relAt := s'.fab.relAt } } ∧ s'.get F.slu_COUNT [u] = n ∧
        Tbl.find s'.fab.relAt u = (if s'.released u ∧ (Tbl.find b.fab.relAt u).isNone then some m.at_ else Tbl.find b.fab.relAt u)
      (s.arrived .signal u clk = some m → m.at_ ≤ clk ∧ Completes (.sluiceSignal ⟨u, clk⟩) s (fun s' => one s' ∧
        s'.get F.slu_STATUS [u] = (if st = 1 ∧ b.get F.slu_TARGET [u] ≤ n then 2 else st) ∧
        s'.get F.obsSlu_STRAY [] = (if st = 1 ∨ st = 4 then b.get F.obsSlu_STRAY [] else
          min (b.get F.obsSlu_STRAY [] + 1) (2 ^ F.obsSlu_STRAY.width - 1)))) ∧
      (s.arrived .absorbed u clk = some m → m.at_ ≤ clk ∧ Completes (.absorbedSignal ⟨u, clk⟩) s (fun s' => one s' ∧
        s'.get F.slu_STATUS [u] = (if st = 1 ∨ st = 2 then 4 else st) ∧ s'.get F.obsSlu_STRAY [] = b.get F.obsSlu_STRAY []))) ∧
  (∀ (s : Sys2Proof.Machine.State) (a slu target bound : Nat), slu < 8192 →
    let v := s.takeArm ⟨a, slu, .arm target bound⟩
    v = { s with regs := v.regs, fab := { s.fab with relAt := Tbl.del s.fab.relAt slu } } ∧ s.regsKept v [Reg.off .slu [slu]] ∧
    v.get F.slu_COUNT [slu] = 0 ∧ v.get F.slu_TARGET [slu] = target % 2 ^ F.slu_TARGET.width ∧
    v.get F.slu_BOUND [slu] = bound % 2 ^ F.slu_BOUND.width ∧ v.get F.slu_STATUS [slu] = 1 ∧ v.get F.slu_SLIP [slu] = 0) ∧
  (∀ (c : Iss) (s : Sys2Proof.Machine.State) (slu : BitVec 13) (target : BitVec 16) (bound : BitVec 11), s.mayIssue c →
    let u := s.issued c (s.begun c)
    let sent (k : MsgKind) := u.carry ⟨c.clk + 2 + meshHops (hummockOf c.tus) (s.homeOfSluice slu.toNat), slu.toNat, k⟩
    (xarmOk c target = true → s.useMay c (.xarm c slu target bound) = true →
      Completes (.xarm c slu target bound) s (fun s' => s' = sent (.arm target.toNat (16 * bound.toNat)))) ∧
    (s.useMay c (.xsig c slu) = true → Completes (.xsig c slu) s (fun s' => s' = sent .signal)))

/-- R138, R139: a release reaches a tussock 1 + h clocks after the count that made it; a wait ends at the later of its planned release
and that clock, with the slip between them, unless that passes its bound: then the sluice is OVERDUE, the event is counted, the
bound is recorded as the wait's slip and the tussock issues nothing more in the frame. R128, R130, R134, R138, R141: XWAIT waits,
or ends its wait at once where the sluice is released; XEND ends the section and signals the partition's completion sluice. In a
bundle that repeats XARM, XWAIT and XEND are rejected, as is a sluice the plan may not use. The model's own choices in it:
notes/assumptions/24, 27, 28. -/
def Obligations.WaitsAndSectionEnds : Prop :=
  (∀ (s : Sys2Proof.Machine.State) (u : Fin 256) (w : Wait) (clk : Nat), w.slu < 8192 →
    let slipped (s' : Sys2Proof.Machine.State) (n : Nat) : Prop :=
      s'.get F.slu_SLIP [w.slu] = max (s.get F.slu_SLIP [w.slu]) (min 0xFF ((n + 15) / 16))
    let overdue (s' : Sys2Proof.Machine.State) : Prop :=
      s'.get F.slu_STATUS [w.slu] = 3 ∧ (s'.tus u).stopped = true ∧ (s'.tus u).wait = none ∧ slipped s' w.bound ∧
      (s'.tus u).overdue = min ((s.tus u).overdue + 1) 0xFFFFFFFF ∧
      s'.get F.obsPart0_OVERDUE [s.get F.slu_OWNER [w.slu]] =
        min (s.get F.obsPart0_OVERDUE [s.get F.slu_OWNER [w.slu]] + 1) (2 ^ F.obsPart0_OVERDUE.width - 1) ∧
      s.regsKept s' [Reg.off .slu [w.slu], Reg.off .obsPart0 [s.get F.slu_OWNER [w.slu]]]
    let rest (s' : Sys2Proof.Machine.State) : Prop := s' = { s with out := [], regs := s'.regs, fab := s'.fab } ∧
      s'.fab = { s.fab with tus := s'.fab.tus } ∧ ∀ q, q ≠ u.val → s'.tus q = s.tus q
    let a := match Tbl.find s.fab.relAt w.slu with
      | some k => k + 1 + meshHops (s.homeOfSluice w.slu) (hummockOf u)
      | none => 0
    let r := max w.planned (max a w.next)
    ((s.tus u).wait = some w →
      (clk < w.planned + w.bound ∨ s.released w.slu = true ∧ r ≤ w.planned + w.bound → exec (.waitOverdue ⟨u, clk⟩) s = .next s.quiet) ∧
      (w.planned + w.bound ≤ clk → s.released w.slu = false ∨ w.planned + w.bound < r →
        Completes (.waitOverdue ⟨u, clk⟩) s (fun s' => overdue s' ∧ rest s')) ∧
      (s.released w.slu = false ∨ clk < a → exec (.sluiceRelease u clk) s = .next s.quiet) ∧
      (s.released w.slu = true → a ≤ clk → w.planned + w.bound < r → Completes (.sluiceRelease u clk) s (fun s' => overdue s' ∧ rest s')) ∧
      (s.released w.slu = true → a ≤ clk → r ≤ w.planned + w.bound → Completes (.sluiceRelease u clk) s (fun s' => rest s' ∧
        (s'.tus u) = { s.tus u with wait := none, slip := r - w.planned, maxSlip := max (s.tus u).maxSlip (r - w.planned) } ∧
        slipped s' (r - w.planned) ∧ s.regsKept s' [Reg.off .slu [w.slu]]))) ∧
    ((s.tus u).wait = none → exec (.waitOverdue ⟨u, clk⟩) s = .next s.quiet ∧ exec (.sluiceRelease u clk) s = .next s.quiet)) ∧
  (∀ (c : Iss) (s : Sys2Proof.Machine.State), s.mayIssue c →
    let t := s.begun c
    (∀ (slu : BitVec 13) (hold : BitVec 16), c.rpt = 0 → s.useMay c (.xwait c slu hold) = true →
      let v := (s.issued c t).landArm slu.toNat c.clk
      let w : Wait := ⟨slu.toNat, c.clk - t.slip + 1 + hold.toNat, c.clk + 1, v.get F.slu_BOUND [slu.toNat]⟩
      let r := max w.planned (max (v.releaseAt c.tus slu.toNat) w.next)
      (v.released slu.toNat = false → Completes (.xwait c slu hold) s (fun s' => s' = v.setTus c.tus { t with wait := some w } ∧
        (s'.tus c.tus).wait = some w)) ∧
      (v.released slu.toNat = true → Completes (.xwait c slu hold) s (fun s' => (s'.tus c.tus).wait = none ∧
        s' = { v with regs := s'.regs, fab := { v.fab with tus := s'.fab.tus } } ∧
        (r ≤ w.planned + w.bound → (s'.tus c.tus).slip = r - w.planned ∧ (s'.tus c.tus).stopped = t.stopped) ∧
        (w.planned + w.bound < r → (s'.tus c.tus).stopped = true)))) ∧
    (c.rpt = 0 → Completes (.xend c) s (fun s' => (s'.tus c.tus) = { t with ended := true, endClk := c.clk } ∧ s'.regs = (s.issue c).regs ∧
      (∀ q, q ≠ c.tus.val → s'.tus q = s.tus q) ∧
      (∀ p, (s.issue c).planOf c.tus c.run = some p → s'.fab.msgs = s.fab.msgs ++
        [⟨c.clk + 2 + meshHops (hummockOf c.tus) (s.homeOfSluice p.completion), p.completion, .signal⟩]) ∧
      ((s.issue c).planOf c.tus c.run = none → s'.fab.msgs = s.fab.msgs))) ∧
    (∀ (slu : BitVec 13) (target : BitVec 16) (bound : BitVec 11) (hold : BitVec 16) (d : Iss),
      (d.rpt ≠ 0 ∨ target.toNat = 0 ∨ s.useMay d (.xarm d slu target bound) = false → exec (.xarm d slu target bound) s = .refused .checkerRejects) ∧
      (d.rpt ≠ 0 ∨ s.useMay d (.xwait d slu hold) = false → exec (.xwait d slu hold) s = .refused .checkerRejects) ∧
      (s.useMay d (.xsig d slu) = false → exec (.xsig d slu) s = .refused .checkerRejects) ∧
      (d.rpt ≠ 0 → exec (.xend d) s = .refused .checkerRejects)))

/-- R69, R142, R143: XING lands unit j of the snapshot at AL + 64·j so that a read 41 + j clocks after its issue finds it, moves AL by
its stride, and its signal leaves when the last unit has landed. The model's own choices in it: notes/assumptions/15, 24. -/
def Obligations.IngestLandsSnapshotUnits : Prop :=
  ∀ (c : Iss) (s : Sys2Proof.Machine.State) (slu : BitVec 13) (cls : BitVec 3) (al : BitVec 4) (index : BitVec 16) (cnt : BitVec 4),
    s.mayIssue c → xingOk c cls index cnt = true → s.ingestMay c cls.toNat = true → s.useMay c (.xing c slu cls al index cnt) = true →
    let t := s.begun c
    let k := if cls.toNat = 5 then 2 else 1
    let n := (cnt.toNat + 1) * k
    ∀ off, t.alOff al.toNat (64 * n) = some off → Completes (.xing c slu cls al index cnt) s (fun s' => ∃ t' : Tus,
      s' = (s.issued c (t'.land (c.clk + 1) (.aAdd al.toNat (t.stride al.toNat)))).carry
        ⟨c.clk + 39 + n + 2 + meshHops (hummockOf c.tus) (s.homeOfSluice slu.toNat), slu.toNat, .signal⟩ ∧ t' = { t with fly := t'.fly } ∧
      ∀ e, e ∈ t'.fly ↔ e ∈ t.fly ∨ (bitAt (s.maskM c) 0 = true ∧ ∃ j < n, e = (c.clk + 41 + j, .local_ (off + 64 * j)
        (leBytes 64 (s.snapUnit cls.toNat ((index.toNat + c.rep * (cnt.toNat + 1)) * k + j))) 0xFF)))

/-- R91, R132, R144, R145: XEMIT sends the enabled lanes of its register, which enter their run's staging 24 clocks later; there a
value is converted and clamped to the range of its output: a NaN is replaced by the in-range value nearest 0, an infinity by the
largest finite value of the format, both counted, as is a value that the range limits, with the flags they raise. The model's own
choices in it: notes/assumptions/29, 30, 136, 137. -/
def Obligations.EmitStagesClampedValues : Prop :=
  (∀ (c : Iss) (s : Sys2Proof.Machine.State) (ocls fmt : BitVec 4) (vr : BitVec 6) (index : BitVec 14) (cnt : BitVec 4),
    s.mayIssue c → xemitOk c ocls fmt vr index cnt = true → s.useMay c (.xemit c ocls fmt vr index cnt) = true →
    let u := s.issued c (s.begun c)
    let lane (j : Nat) : Sending := ⟨c.clk + 24, c.tus, c.run, .emit (1024 * ocls.toNat + (index.toNat + c.rep * (cnt.toNat + 1) + j))
      (decide (fmt.toNat = 9)) (elem ((s.begun c).vreg (vr.toNat + c.rep)) 32 j)⟩
    let lanes := ((List.range (cnt.toNat + 1)).filter (fun j => bitAt (s.maskM c) j)).map lane
    Completes (.xemit c ocls fmt vr index cnt) s (fun s' => s' = { u with fab := { u.fab with sends := u.fab.sends ++ lanes } })) ∧
  ∀ (s : Sys2Proof.Machine.State) (x : Sending) (o i : Nat) (q16 : Bool) (b : Nat), o < 8 → i < 1024 → x.what = .emit (1024 * o + i) q16 b →
    let n := decodeNum (if q16 then Fmt.q16 else Fmt.fp32) b
    let v := s.emitValue o i n
    let lo := (s.outRange o i).1
    let hi := (s.outRange o i).2
    let limits (z : Int) : Prop := v.1 = unsigned 32 (max lo (min hi z)) ∧ (v.2.2 = true ↔ z < lo ∨ hi < z)
    let infinite := match n with | .inf _ => true | _ => false
    (s.enter x).runs = (s.mapRun x.tus x.run (fun r => { r with emits := Tbl.put r.emits (1024 * o + i) v.1 })).runs ∧
    (s.enter x).tus x.tus = (s.tus x.tus).raise x.at_ ((if v.2.1 then flNan else 0) + (if v.2.2 then flSat else 0)) ∧
    s.regsKept (s.enter x) [Reg.off .obsRepl [o, i]] ∧
    (s.enter x).get F.obsRepl_REPL [o, i] = min (s.get F.obsRepl_REPL [o, i] + b2n v.2.1) (2 ^ F.obsRepl_REPL.width - 1) ∧
    (s.enter x).get F.obsRepl_SAT [o, i] = min (s.get F.obsRepl_SAT [o, i] + b2n v.2.2) (2 ^ F.obsRepl_SAT.width - 1) ∧
    (v.2.1 = true ↔ n.isNan = true ∨ infinite = true) ∧
    (o ≠ 5 → lo ≤ hi → (n = .nan → limits 0) ∧ (∀ g, n = .inf g → limits (if g then (if o = 0 then 0 else -(2 ^ 31)) else
      if o = 0 then 2 ^ 32 - 1 else 2 ^ 31 - 1)) ∧ ∃ z, limits z)

/-- R146 to R148: XCANQ sends a CAN transmit towards the staging of its run with the data taken at the issue, XJRN an annotation
(refused and counted while the journal is full), each entering it 32 clocks later, and XCLK reads the clocks and identities. R149,
R362, R364: XSND hands its record to the relay for each port of PMASK while the module is ACTIVE or SOLO and signals in every
case; XRCV posts a receive buffer. The model's own choices in it: notes/assumptions/15, 24, 30, 86, 145. -/
def Obligations.CanAnnotationClockAndBoundaryOperations : Prop :=
  (∀ (c : Iss) (s : Sys2Proof.Machine.State), s.mayIssue c →
    let t := s.begun c
    let w := s.issue c
    let on := bitAt (s.maskM c) 0
    let inc (al : Nat) := s.issued c (t.land (c.clk + 1) (.aAdd al (t.stride al)))
    let sent (u : Sys2Proof.Machine.State) (x : Staged) : Sys2Proof.Machine.State :=
      { u with fab := { u.fab with sends := u.fab.sends ++ [(⟨c.clk + 32, c.tus, c.run, x⟩ : Sending)] } }
    (∀ (al : BitVec 4) (bus : BitVec 2) (obj : BitVec 8) (dlc : BitVec 4) (off : Nat), t.alOff al.toNat 64 = some off →
      s.useMay c (.xcanq c al bus obj dlc) = true → Completes (.xcanq c al bus obj dlc) s (fun s' => s' = if on then sent (inc al.toNat)
        (.can (256 * bus.toNat + obj.toNat) dlc.toNat (Mem.bytes t.sram off (dlcLen dlc.toNat))) else inc al.toNat)) ∧
    (∀ (al : BitVec 4) (reason : BitVec 12) (off : Nat), t.alOff al.toNat 64 = some off →
      (on = true → w.on F.jrnStat_JOURNAL_FULL [] = false → Completes (.xjrn c al reason) s (fun s' =>
        s' = sent (inc al.toNat) (.annot reason.toNat (BitVec.ofNat 512 (Mem.num t.sram off 64))))) ∧
      (on = true → w.on F.jrnStat_JOURNAL_FULL [] = true → Completes (.xjrn c al reason) s (fun s' =>
        s' = { inc al.toNat with regs := s'.regs } ∧ (w.planOf c.tus c.run = none → s'.regs = w.regs) ∧
        ∀ p, w.planOf c.tus c.run = some p → w.regsKept s' [Reg.off .obsPart3 [p.partition]] ∧
          s'.get F.obsPart3_ANNOT_REF [p.partition] = min (w.get F.obsPart3_ANNOT_REF [p.partition] + 1) (2 ^ F.obsPart3_ANNOT_REF.width - 1))) ∧
      (on = false → Completes (.xjrn c al reason) s (fun s' => s' = inc al.toNat))) ∧
    (∀ (u : Sys2Proof.Machine.State) (x : Sending),
      (∀ key dlc d, x.what = .can key dlc d → u.enter x = u.mapRun x.tus x.run (fun r => { r with can := Tbl.put r.can key (dlc, d) })) ∧
      ∀ reason d, x.what = .annot reason d →
        u.enter x = u.mapRun x.tus x.run (fun r => { r with annots := r.annots ++ [⟨x.tus.val, reason, d⟩] })) ∧
    ∀ (sd : BitVec 5) (sel : BitVec 3), Completes (.xclk c sd sel) s (fun s' =>
      s' = s.issued c (if on then t.land (c.clk + 2) (.s sd.toNat (w.clockValue c sel.toNat) (ones 64)) else t)) ∧
      (sel.toNat = 0 → w.clockValue c sel.toNat = w.get F.frmCount_COUNT []) ∧ (sel.toNat = 1 → w.clockValue c sel.toNat = s.fab.tai0) ∧
      (sel.toNat = 2 → w.clockValue c sel.toNat = w.get F.frmEpoch_EPOCH []) ∧
      (sel.toNat = 3 → w.clockValue c sel.toNat = w.get F.parLease_EPOCH []) ∧
      (sel.toNat = 4 → w.clockValue c sel.toNat = w.get F.plnLadderStat_RUNG []) ∧
      (sel.toNat = 5 → w.clockValue c sel.toNat = c.run) ∧ (sel.toNat = 6 → w.clockValue c sel.toNat = c.clk) ∧
      (sel.toNat = 7 → ∀ p r, w.planOf c.tus c.run = some p → w.runOf c.tus c.run = some r → w.clockValue c sel.toNat = p.partition + 16 * r.place)) ∧
  (∀ (c : Iss) (s : Sys2Proof.Machine.State) (slu : BitVec 13) (al : BitVec 4) (len : BitVec 8) (off : Nat), s.mayIssue c →
    let t := s.begun c
    let n := 256 * (len.toNat + 1)
    let u := s.issued c (t.land (c.clk + 1) (.aAdd al.toNat (t.stride al.toNat)))
    let sig := u.carry ⟨c.clk + 4 * (len.toNat + 1) + 2 + meshHops (hummockOf c.tus) (s.homeOfSluice slu.toNat), slu.toNat, .signal⟩
    let role := (s.issue c).get F.parStat_ROLE []
    t.alOff al.toNat n = some off →
      (∀ pmask : BitVec 4, s.useMay c (.xsnd c slu al pmask len) = true →
        (bitAt (s.maskM c) 0 = true → role = 1 ∨ role = 2 → Completes (.xsnd c slu al pmask len) s (fun s' =>
          s' = { sig with out := s'.out } ∧ s'.out.length = (bitList pmask.toNat 4).length ∧
          ∀ o ∈ s'.out, ∃ port d, o = .boundary port d)) ∧
        (bitAt (s.maskM c) 0 = false ∨ (role ≠ 1 ∧ role ≠ 2) → Completes (.xsnd c slu al pmask len) s (fun s' => s' = sig))) ∧
      ∀ port : BitVec 2, s.useMay c (.xrcv c slu al port len) = true → Completes (.xrcv c slu al port len) s (fun s' =>
        s' = { u with fab := { u.fab with recv := u.fab.recv ++ [(⟨c.tus.val, slu.toNat, port.toNat, off, n, bitAt (s.maskM c) 0⟩ : RecvBuf)] } }))

/-- R252: the phases of a pump start. R253, Table 10.1: a pump fault sets its flag and FLT_OFF and switches the gates off; with
AUTO_RST, and no other fault within 60 s, one flying start follows 1 s after. The model's own choices in it: notes/assumptions/8,
9, 63, 64. -/
def Obligations.PumpStartsAndFaults : Prop :=
  (∀ (t : Sys2Proof.Tai) (p : Fin 4) (s : Sys2Proof.Machine.State),
    let one (s' : Sys2Proof.Machine.State) (offs : List Nat) : Prop :=
      s.regsKept s' offs ∧ s.unitsKept { s' with drv := s.drv } ∧ s'.drv.fan = s.drv.fan ∧ s'.now = t ∧
      ∀ q, q ≠ p.val → s'.pump q = s.pump q
    (∀ turning, s.pumpMay p = true → (s.pump p).phase = 0 → s.pumpCmd p ≠ 0 →
      Completes (.pumpStart t p turning) s (fun s' => one s' [Reg.off .drvPmpStat [p]] ∧
        (s'.pump p).phase = (if turning then 3 else 1) ∧ (s'.pump p).startAt = t ∧ s'.get F.drvPmpStat_RUN [p] = 1)) ∧
    ((s.pump p).phase = 1 → (s.pump p).startAt + 100000000 ≤ t →
      Completes (.pumpAlignEnd t p) s (fun s' => one s' [] ∧ s'.pump p = { s.pump p with phase := 2 })) ∧
    (∀ speed, (s.pump p).phase = 3 → speed < 300 →
      Completes (.flyingStartSync t p speed) s (fun s' => one s' [Reg.off .drvPmpStat [p]] ∧
        (s'.pump p).phase = 1 ∧ (s'.pump p).startAt = t ∧ s'.get F.drvPmpStat_RUN [p] = 1)) ∧
    (∀ speed, (s.pump p).phase = 3 → 300 ≤ speed →
      Completes (.flyingStartSync t p speed) s (fun s' => one s' [] ∧
        s'.pump p = { s.pump p with phase := 4, ref := centi speed * 65536 })) ∧
    ((s.pump p).phase = 2 → t ≤ (s.pump p).startAt + 1500000000 →
      Completes (.observerLock t p) s (fun s' => one s' [] ∧ s'.pump p = { s.pump p with phase := 4, lostAt := none })) ∧
    (s.pumpCmd p = 0 → (s.pump p).phase ≠ 0 → s.get F.drvPmpMeas_SPEED [p] < 300 →
      Completes (.pumpStop t p) s (fun s' => one s' [Reg.off .drvPmpStat [p]] ∧
        (s'.pump p).phase = 0 ∧ s'.get F.drvPmpStat_RUN [p] = 0))) ∧
  (∀ (t : Sys2Proof.Tai) (p : Fin 4) (s : Sys2Proof.Machine.State),
    let one (s' : Sys2Proof.Machine.State) : Prop :=
      s.regsKept s' (Reg.off .drvPmpStat [p] :: noteOffs) ∧ s.unitsKept { s' with drv := s.drv } ∧ s'.drv.fan = s.drv.fan ∧ s'.now = t ∧
      ∀ q, q ≠ p.val → s'.pump q = s.pump q
    let stopped (flag : Fld) (s' : Sys2Proof.Machine.State) : Prop :=
      one s' ∧ s'.get flag [p] = 1 ∧ s'.get F.drvPmpStat_FLT_OFF [p] = 1 ∧ s'.get F.drvPmpStat_RUN [p] = 0 ∧ (s'.pump p).phase = 0 ∧
      ((s'.pump p).restart = true ↔ s.get F.drvPmpCfg_AUTO_RST [p] ≠ 0 ∧ ∀ a, (s.pump p).faultAt = some a → a + 60000000000 ≤ t)
    ((s.pump p).phase = 1 ∨ (s.pump p).phase = 2 → (s.pump p).startAt + 1500000000 ≤ t →
      Completes (.startFail t p) s (stopped F.drvPmpStat_START_FAIL)) ∧
    (∀ cause, s.get F.drvPmpCfg_EN [p] ≠ 0 → cause ≠ .lockLost →
      Completes (.pumpFault t p cause) s (stopped (causeFlag cause))) ∧
    (s.get F.drvPmpCfg_EN [p] ≠ 0 → (s.pump p).phase = 4 → 500 ≤ s.pumpCmd p →
      Completes (.pumpFault t p .lockLost) s (stopped F.drvPmpStat_LOCK_LOST)) ∧
    (∀ a, (s.pump p).restart = true → (s.pump p).faultAt = some a → a + 1000000000 ≤ t → s.get F.drvPmpCfg_AUTO_RST [p] ≠ 0 →
      s.get F.drvPmpCfg_EN [p] ≠ 0 → s.driving = true → s.pumpCmd p ≠ 0 →
      Completes (.pumpAutoRestart t p) s (fun s' => one s' ∧ s'.get F.drvPmpStat_FLT_OFF [p] = 0 ∧ s'.get F.drvPmpStat_RUN [p] = 1 ∧
        (s'.pump p).phase = 3 ∧ (s'.pump p).startAt = t ∧ (s'.pump p).restart = false)))

/-- R258, R259: a fan's attempts, failures and waits. The model's own choices in it: notes/assumptions/8, 9, 64. -/
def Obligations.FanAttemptsFailAndRetry : Prop :=
  ∀ (t : Sys2Proof.Tai) (f : Fin 8) (s : Sys2Proof.Machine.State),
    let one (s' : Sys2Proof.Machine.State) : Prop :=
      s.regsKept s' (Reg.off .drvFanStat [f] :: noteOffs) ∧ s.unitsKept { s' with drv := s.drv } ∧ s'.drv.pump = s.drv.pump ∧
      s'.now = t ∧ ∀ q, q ≠ f.val → s'.fan q = s.fan q
    let begun (s' : Sys2Proof.Machine.State) : Prop :=
      one s' ∧ s'.get F.drvFanStat_RUN [f] = 1 ∧ s'.get F.drvFanStat_RETRY_WAIT [f] = 0 ∧ s'.get F.drvFanStat_RETRY_S [f] = 0 ∧
      (s'.fan f).phase = 1 ∧ (s'.fan f).startAt = t
    let failed (s' : Sys2Proof.Machine.State) : Prop :=
      let k := min (s.get F.drvFanStat_FAILS [f] + 1) 255
      one s' ∧ s'.get F.drvFanStat_STALL [f] = 1 ∧ s'.get F.drvFanStat_RUN [f] = 0 ∧ s'.get F.drvFanStat_FAILS [f] = k ∧
      s'.get F.drvFanStat_RETRY_WAIT [f] = 1 ∧ s'.get F.drvFanStat_RETRY_S [f] = min (2 ^ k) 64 ∧ (s'.fan f).phase = 0 ∧
      (s'.fan f).waitEnd = t + 1000000000 * min (2 ^ k) 64 ∧ (k = 3 → s'.get F.drvFanStat_STALL_ALM [f] = 1)
    (s.fanMay f = true → (s.fan f).phase = 0 → s.get F.drvFanStat_RETRY_WAIT [f] = 0 → Completes (.fanAttempt t f) s begun) ∧
    ((s.fan f).phase = 1 → (s.fan f).startAt + 250000000 ≤ t →
      Completes (.fanAlignEnd t f) s (fun s' => one s' ∧ s'.regs = s.regs ∧ s'.fan f = { s.fan f with phase := 2 })) ∧
    (∀ tachOk, (s.fan f).phase = 1 ∨ (s.fan f).phase = 2 → (tachOk = true ∨ s.get F.drvFanCfg_TACH_EN [f] = 0 ∨ s.get F.drvFanStat_TACH_LOST [f] ≠ 0) →
      t ≤ (s.fan f).startAt + 2000000000 →
      Completes (.fanAttemptResult t f true tachOk) s (fun s' => one s' ∧ s'.regs = s.regs ∧ (s'.fan f).phase = 3 ∧
        (s'.fan f).lockedAt = some t)) ∧
    (∀ locked tachOk, (s.fan f).phase = 1 ∨ (s.fan f).phase = 2 →
      (locked = false ∨ (tachOk = false ∧ s.get F.drvFanCfg_TACH_EN [f] ≠ 0 ∧ s.get F.drvFanStat_TACH_LOST [f] = 0) ∨
        (s.fan f).startAt + 2000000000 < t) →
      Completes (.fanAttemptResult t f locked tachOk) s failed) ∧
    ((s.fan f).phase = 3 → Completes (.fanStall t f) s failed) ∧
    ((s.fan f).phase ≠ 0 → Completes (.fanOc t f) s (fun s' => failed s' ∧ s'.get F.drvFanStat_OC [f] = 1)) ∧
    (s.get F.drvFanStat_RETRY_WAIT [f] ≠ 0 → (s.fan f).waitEnd ≤ t →
      ((s.set F.drvFanStat_RETRY_WAIT [f] 0).set F.drvFanStat_RETRY_S [f] 0).fanMay f = true → Completes (.retryWaitExpiry t f) s begun) ∧
    (∀ a, (s.fan f).phase = 3 → (s.fan f).lockedAt = some a → a + 10000000000 ≤ t →
      Completes (.failsReset t f) s (fun s' => one s' ∧ s'.get F.drvFanStat_FAILS [f] = 0 ∧ s'.drv = s.drv)) ∧
    ((s.fan f).phase = 3 → s.get F.drvFanCfg_TACH_EN [f] ≠ 0 →
      Completes (.tachLost t f) s (fun s' => one s' ∧ s'.get F.drvFanStat_TACH_LOST [f] = 1 ∧ s'.get F.drvFanStat_SENSORLESS [f] = 1 ∧
        s'.drv = s.drv))

/-- R250, R256, R262, R280, R460: what a PWM period measures, what a T_S instant recomputes, what a change of ACT and a low fan input
do to the drives. The model's own choices in it: notes/assumptions/57, 61, 62, 65. -/
def Obligations.DrivesFollowTimeActAndInput : Prop :=
  ∀ (t : Sys2Proof.Tai) (s : Sys2Proof.Machine.State),
    (∀ (p : Fin 4) (m : PwmSample),
      Completes (.pwmPeriod t p m) s (fun s' =>
        s'.get F.drvPmpMeas_SPEED [p] = min m.speed 65535 ∧ s'.get F.drvPmpMeas_VBUS [p] = min m.vbus 65535 ∧
        (s'.pump p).meas = some t ∧ s.regsKept s' (Reg.off .drvPmpStat [p] :: Reg.off .drvPmpMeas [p] :: noteOffs) ∧
        s.unitsKept { s' with drv := s.drv, free := s.free } ∧ s'.drv.fan = s.drv.fan ∧ (∀ q, q ≠ p.val → s'.pump q = s.pump q))) ∧
    Completes (.fanInputLow t) s (fun s' => ∀ f : Fin 8,
      ((s.fan f).phase = 0 → s'.fan f = s.fan f ∧ s'.get F.drvFanStat_FAILS [f] = s.get F.drvFanStat_FAILS [f]) ∧
      ((s.fan f).phase ≠ 0 → (s'.fan f).phase = 0 ∧ s'.get F.drvFanStat_RUN [f] = 0 ∧ s'.get F.drvFanStat_STALL [f] = 1 ∧
        s'.get F.drvFanStat_FAILS [f] = min (s.get F.drvFanStat_FAILS [f] + 1) 255)) ∧
    Completes (.zoneRecompute t) s (fun s' => s' =
      ((List.range 4).foldl State.pumpTick ((List.range 8).foldl State.fanTick ((List.range 16).foldl State.zone (s.at t)))).refreshOutputs) ∧
    (s.get F.parStat_ROLE [] = 1 ∨ s.get F.parStat_ROLE [] = 2 → Completes (.actRise t) s (fun s' => s' = (s.at t).actRise)) ∧
    Completes (.actFall t) s (fun s' => s' = (s.at t).actFall ∧ (∀ p : Fin 4, (s'.pump p).phase = 0) ∧ ∀ f : Fin 8, (s'.fan f).phase = 0)

/-- R268, R269: at bus idle the frame on offer is loaded with the lease epoch in its first four bytes, and its start of frame goes
out; an emergency frame is offered before a BEAT, and a BEAT before every other frame. The model's own choices in it:
notes/assumptions/49, 51, 52. -/
def Obligations.CanBusIdleSendsTheOfferedFrame : Prop :=
  ∀ (t : Sys2Proof.Tai) (b : Fin 4) (s : Sys2Proof.Machine.State),
    let x := s.bus b
    let epoch := s.get F.parLease_EPOCH []
    (∀ m, s.busLive b = true → x.onBus = none → x.tec ≤ 255 → s.offer b = some m → Completes (.canBusIdle t b) s (fun s' =>
      s'.out = [.canStart b (s.loadFrame b m)] ∧ (s'.bus b).onBus = some ⟨m, s.loadFrame b m, false⟩ ∧
      (s'.bus b).queue = x.queue.filter (fun k => decide (k ≠ m)) ∧ (s'.bus b).msg = x.msg ∧ (∀ q, q ≠ b.val → s'.bus q = s.bus q) ∧
      s' = { s with now := t, out := s'.out, regs := s'.regs, can := { s.can with bus := s'.can.bus } } ∧
      (256 ≤ m → s'.regs = s.regs) ∧
      (m < 256 → s.regsKept s' [Reg.off .fbMoStat [b, m]] ∧ s'.get F.fbMoStat_TXS [b, m] = 2 ∧ s'.get F.fbMoStat_EPOCH [b, m] = epoch ∧
        s'.get F.fbMoStat_DLC [b, m] = (s.loadFrame b m).dlc % 16))) ∧
    (s.busLive b = false ∨ x.onBus.isSome = true ∨ 255 < x.tec ∨ s.offer b = none → exec (.canBusIdle t b) s = .next (s.at t)) ∧
    (∀ m, (s.loadFrame b m).data.take 4 = leBytes 4 epoch) ∧
    (x.emerg.isSome = true → s.maySend b objEmerg = true → s.offer b = some objEmerg) ∧
    (x.emerg = none → x.beat = true → s.maySend b objBeat = true → s.offer b = some objBeat) ∧
    ∀ m, s.get F.fbCfg_LISTEN [b] ≠ 0 → s.maySend b m = false

/-- R269 to R271, R282: how the frame on a bus ends: sent, lost to arbitration, destroyed by an error, or cancelled. The model's own
choices in it: notes/assumptions/49, 50. -/
def Obligations.CanFrameOnTheBusEnds : Prop :=
  ∀ (t : Sys2Proof.Tai) (b : Fin 4) (s : Sys2Proof.Machine.State) (m : Fin 256),
    let x := s.bus b
    let rest (s' : Sys2Proof.Machine.State) : Prop := (∀ q, q ≠ b.val → s'.bus q = s.bus q) ∧
      s.unitsKept { s' with can := s.can } ∧ s.regsKept s' ([Reg.off .fbMoStat [b, m], Reg.off .fbMoTs [b, m], Reg.off .fbErr [b],
        Reg.off .fbCnt [b]] ++ (List.range 8).map (fun k => Reg.off .fbMoData [b, m, k]) ++ noteOffs)
    (∀ o : OnBus, x.onBus = some o → o.obj = m → x.leaving = false → x.next.contains m.val = false →
      Completes (.canFrameSent t b) s (fun s' => rest s' ∧ (s'.bus b).onBus = none ∧ (s'.bus b).queue = x.queue ∧
        s'.get F.fbMoStat_TXS [b, m] = 3 ∧ s'.get F.fbMoTs_TS [b, m] = t % 2 ^ 64 ∧ s'.get F.fbErr_TEC [b] = min (x.tec - 1) 255) ∧
      (o.late = false → Completes (.canArbitrationLost t b) s (fun s' => rest s' ∧ (s'.bus b).onBus = none ∧
        (s'.bus b).queue = x.queue ++ [m.val] ∧ s'.get F.fbMoStat_TXS [b, m] = 1)) ∧
      (o.late = true → Completes (.canArbitrationLost t b) s (fun s' => rest s' ∧ (s'.bus b).onBus = none ∧
        (s'.bus b).queue = x.queue ∧ s'.get F.fbMoStat_TXS [b, m] = 4)) ∧
      (s.busLive b = true → ∀ lec, Completes (.canErrorFrame t b lec) s (fun s' => rest s' ∧ (s'.bus b).onBus = none ∧
        (s'.bus b).tec = x.tec + 8 ∧ s'.get F.fbErr_LEC [b] = lec.val ∧ s'.get F.fbErr_TEC [b] = min (x.tec + 8) 255 ∧
        s'.get F.fbErr_STATE [b] = (if 127 < x.tec + 8 ∨ 127 < s.get F.fbErr_REC [b] then 1 else 0) ∧
        s'.get F.fbMoStat_TXS [b, m] = if o.late then 4 else 1)) ∧
      (x.queue.contains m.val = false → o.late = false → Completes (.canCancel t b m) s (fun s' => rest s' ∧
        (s'.bus b).onBus = some { o with late := true } ∧ (s'.bus b).queue = x.queue ∧ s'.get F.fbMoStat_CANCEL_LATE [b, m] = 1 ∧
        s'.get F.fbCnt_CANCEL_LATE [b] = min (s.get F.fbCnt_CANCEL_LATE [b] + 1) 65535))) ∧
    (x.queue.contains m.val = true → Completes (.canCancel t b m) s (fun s' => rest s' ∧
      (s'.bus b).queue = x.queue.filter (fun k => decide (k ≠ m.val)) ∧ s'.get F.fbMoStat_TXS [b, m] = 4 ∧ (s'.bus b).onBus = x.onBus)) ∧
    (x.onBus = none → x.queue.contains m.val = false → exec (.canCancel t b m) s = .next (s.at t)) ∧
    (s.busLive b = true → x.onBus = none → ∀ lec, Completes (.canErrorFrame t b lec) s (fun s' =>
      s'.get F.fbErr_REC [b] = min (s.get F.fbErr_REC [b] + 1) 255 ∧ (s'.bus b).tec = x.tec))

/-- R272, R273, R282: a received frame goes where the first enabled filter that matches sends it: one of two FIFOs, which drops it
when full, an object or nowhere; a frame that no filter matches and a remote frame are counted. The model's own choices in it:
notes/assumptions/49. -/
def Obligations.CanReceptionFollowsTheFirstFilter : Prop :=
  ∀ (t : Sys2Proof.Tai) (b : Fin 4) (fr : CanFrame) (s : Sys2Proof.Machine.State),
    let x := s.bus b
    Completes (.canFrameReceived t b fr) s (fun s' => s'.now = t ∧ ∀ q, q ≠ b.val → s'.bus q = s.bus q) ∧
    (s.busLive b = false → exec (.canFrameReceived t b fr) s = .next (s.at t)) ∧
    (s.busLive b = true →
      (fr.rtr = true → Completes (.canFrameReceived t b fr) s (fun s' =>
        s'.get F.fbCnt_RTR_DROP [b] = min (s.get F.fbCnt_RTR_DROP [b] + 1) 65535 ∧ s'.can.seen = s.can.seen)) ∧
      (fr.rtr = false →
        (s.filterFor b fr = none → Completes (.canFrameReceived t b fr) s (fun s' =>
          s'.get F.fbCnt_UNMATCHED [b] = min (s.get F.fbCnt_UNMATCHED [b] + 1) 65535)) ∧
        (∀ i, s.filterFor b fr = some i → s.get F.fbFltId_ACT [b, i] = 3 → Completes (.canFrameReceived t b fr) s (fun s' =>
          let m := s.get F.fbFltId_OBJ [b, i]
          s'.get F.fbMoStat_NEW [b, m] = 1 ∧ s'.get F.fbMoStat_DLC [b, m] = fr.dlc % 16 ∧ s'.get F.fbMoTs_TS [b, m] = t % 2 ^ 64 ∧
          (s.get F.fbMoStat_NEW [b, m] = 1 → s'.get F.fbMoStat_OVERWRITE [b, m] = 1))) ∧
        (∀ i, ∀ j < 2, s.filterFor b fr = some i → s.get F.fbFltId_ACT [b, i] = j + 1 → Completes (.canFrameReceived t b fr) s (fun s' =>
          let fifo (y : Sys2Proof.Machine.Bus) := if j = 0 then y.fifo0 else y.fifo1
          let other (y : Sys2Proof.Machine.Bus) := if j = 0 then y.fifo1 else y.fifo0
          other (s'.bus b) = other x ∧
          ((fifo x).length < 64 → (∃ e, fifo (s'.bus b) = fifo x ++ [e]) ∧ s'.get F.fbFifo_LEVEL [b, j] = (fifo x).length + 1) ∧
          (64 ≤ (fifo x).length → fifo (s'.bus b) = fifo x ∧ s'.get F.fbFifo_OVF [b, j] = 1 ∧
            s'.get F.fbFifo_DROPPED [b, j] = min (s.get F.fbFifo_DROPPED [b, j] + 1) 65535))) ∧
        (∀ i, s.filterFor b fr = some i → s.get F.fbFltId_ACT [b, i] = 4 → Completes (.canFrameReceived t b fr) s (fun s' =>
          (s'.bus b).fifo0 = x.fifo0 ∧ (s'.bus b).fifo1 = x.fifo1 ∧ ∀ m, s'.get F.fbMoStat_NEW [b, m] = s.get F.fbMoStat_NEW [b, m] ∨ 256 ≤ m)))) ∧
    ∀ i, s.filterFor b fr = some i → s.get F.fbFltId_ACT [b, i] ≠ 0 ∧
      (fr.id ^^^ s.get F.fbFltId_MATCH [b, i]) &&& s.get F.fbFltMask_MASK [b, i] = 0 ∧
      ∀ j < i, s.get F.fbFltId_ACT [b, j] = 0 ∨ (fr.id ^^^ s.get F.fbFltId_MATCH [b, j]) &&& s.get F.fbFltMask_MASK [b, j] ≠ 0 ∨
        (s.get F.fbFltId_IDE_CHK [b, j] = 1 ∧ (s.get F.fbFltId_IDE [b, j] = 1) ≠ (fr.ide = true))

/-- R278, R282 to R284: bus-off discards every pending frame, recovery starts after BOFF_HOLD ms, and the controller comes back error
active with cleared counters and its committed frames due at the next commit edge; BEAT is queued where it is due. R330, R331:
PESER_CFG takes a well-formed request in turn, refuses it while the journal is full or ACT is not asserted, and completes it with
TIMEOUT when the device does not answer in time. The model's own choices in it: notes/assumptions/49, 51, 52, 53. -/
def Obligations.CanBusOffBeatAndConfiguration : Prop :=
  (∀ (t : Sys2Proof.Tai) (b : Fin 4) (s : Sys2Proof.Machine.State),
    let joined (s' : Sys2Proof.Machine.State) : Prop := s'.get F.fbErr_STATE [b] = 0 ∧ s'.get F.fbErr_RECOVERING [b] = 0 ∧
      s'.get F.fbErr_TEC [b] = 0 ∧ s'.get F.fbErr_REC [b] = 0 ∧ s'.get F.fbErr_WARN [b] = 0 ∧
      s'.bus b = { s.bus b with tec := 0, reenter := true, leaving := false } ∧ s.regsKept s' (Reg.off .fbErr [b] :: noteOffs) ∧
      (∀ q, q ≠ b.val → s'.bus q = s.bus q) ∧ s.unitsKept { s' with can := s.can }
    (s.busLive b = true → 255 < (s.bus b).tec → Completes (.busOff t b) s (fun s' =>
      s'.get F.fbErr_STATE [b] = 2 ∧ s'.get F.fbErr_BOFF_CNT [b] = min (s.get F.fbErr_BOFF_CNT [b] + 1) 255 ∧
      (s'.bus b).queue = [] ∧ (s'.bus b).next = [] ∧ (s'.bus b).onBus = none ∧ (s'.bus b).emerg = none ∧ (s'.bus b).beat = false ∧
      (s'.bus b).boffAt = t ∧ (∀ q, q ≠ b.val → s'.bus q = s.bus q) ∧ (s'.bus b).msg = (s.bus b).msg ∧
      ∀ m < 256, m ∈ (s.bus b).queue → s'.get F.fbMoStat_TXS [b, m] = 5)) ∧
    (s.get F.fbErr_STATE [b] = 2 → s.get F.fbCfg_EN [b] = 1 → (s.bus b).boffAt + 1000000 * s.get F.fbCfg_BOFF_HOLD [b] ≤ t →
      Completes (.boffHoldExpiry t b) s (fun s' => s' = (s.at t).set F.fbErr_RECOVERING [b] 1 ∧ s'.get F.fbErr_RECOVERING [b] = 1)) ∧
    (s.get F.fbErr_STATE [b] = 2 → t < (s.bus b).boffAt + 1000000 * s.get F.fbCfg_BOFF_HOLD [b] → exec (.boffHoldExpiry t b) s = .next (s.at t)) ∧
    (s.get F.fbErr_RECOVERING [b] = 1 → Completes (.busOffRecoveryEnd t b) s joined) ∧
    (s.get F.fbCfg_EN [b] = 1 → s.get F.fbErr_STATE [b] = 3 → Completes (.canRejoin t b) s joined) ∧
    Completes (.beat t) s (fun s' => s'.regs = s.regs ∧ s' = { s with now := t, out := [], can := { s.can with bus := s'.can.bus } } ∧
      ∀ q : Fin 4, s'.bus q = (let p := 1000000 * s.get F.fbBeat_BEAT_MS [q]
        if s.busLive q = true ∧ s.get F.fbBeat_EN [q] = 1 ∧ s.get F.parStat_ACT [] = 1 ∧ t - 400 < (t - 400) / p * p + s.tF then
          { s.bus q with beat := true, emerg := if s.emergMask q = 0 then (s.bus q).emerg else some (s.emergMask q) } else s.bus q))) ∧
  (∀ (t : Sys2Proof.Tai) (tag : BitVec 16) (b : Fin 4) (node ms : Nat) (req : List Byte) (s : Sys2Proof.Machine.State),
    let x := s.bus b
    let r : PeserReq := { tag := tag.toNat, node := node, timeout := if ms = 0 then 100 else ms, req := req }
    let fits := 8 ≤ req.length ∧ req.length ≤ 64 ∧ 1 ≤ node ∧ node ≤ 31 ∧ ms ≤ 255
    (¬ fits → exec (.peserCfg t tag b node ms req) s = .next ((s.at t).complete tag.toNat cFormat 0)) ∧
    (fits → bitAt (s.get F.jrnGrant_PCIE []) 0 = true → s.on F.jrnStat_JOURNAL_FULL [] = false →
      (s.on F.parStat_ACT [] = false → exec (.peserCfg t tag b node ms req) s = .next ((s.at t).complete tag.toNat cNotActive 0)) ∧
      (s.on F.parStat_ACT [] = true → (req.getD 4 0 = 2 → 3 * s.get F.fbBeat_BEAT_MS [b] ≤ ofLeBytes ((req.drop 8).take 2)) →
        Completes (.peserCfg t tag b node ms req) s (fun s' => s'.regs = s.regs ∧ s'.out = [] ∧ (∀ q, q ≠ b.val → s'.bus q = s.bus q) ∧
          (x.cfg.isSome = true → s'.bus b = { x with cfgWait := x.cfgWait ++ [r] }) ∧
          (x.cfg = none → x.cfgWait = [] → s'.bus b = { x with cfg := some r, cfgAt := t, cfgSend := true, cfgWait := [] })))) ∧
    (∀ q : PeserReq, x.cfg = some q → x.cfgAt + 1000000 * q.timeout ≤ t → Completes (.peserCfgTimeout t b) s (fun s' =>
      s'.bus b = (match x.cfgWait with
        | r :: l => { x with cfg := some r, cfgAt := t, cfgSend := true, cfgWait := l }
        | [] => { x with cfg := none, cfgSend := false }) ∧ s.regsKept s' noteOffs ∧ s' = ((s.at t).complete q.tag cTimeout 0).nextCfg b)) ∧
    ((x.cfg = none ∨ ∃ q : PeserReq, x.cfg = some q ∧ t < x.cfgAt + 1000000 * q.timeout) → exec (.peserCfgTimeout t b) s = .next (s.at t)))

/-- R286, R287, Tables 12.1 and 12.4: temperature and 4–20 mA conversions: an enabled input takes the value limited to its range, with
RANGE, OPEN and SHORT as found and FAULTED wherever one of them is set; open or short keeps the last valid value. R286, R289,
R290, Table 12.11: a digital input is accepted at its new level; a rope turns wet or dry after CONFIRM scans in a row against its
state, and a contended or broken scan faults it without turning it. The model's own choices in it: notes/assumptions/47, 48. -/
def Obligations.PlantInputsAreConverted : Prop :=
  (∀ (t : Sys2Proof.Tai) (s : Sys2Proof.Machine.State),
    let held (e : Nat) (v : Int) (op sh rg : Bool) (s' : Sys2Proof.Machine.State) : Prop :=
      let st := b2n op * 2 + b2n sh * 4 + b2n rg * 8
      s'.pioStatus e = st + b2n (op || sh || rg) ∧
      s'.pioValue e = (if op || sh then Tbl.at s.pio.valid e 0 % 2 ^ 32 else unsigned 32 v) ∧
      Tbl.at s'.pio.tai e 0 = t ∧ Tbl.at s'.pio.valid e 0 = (if op || sh || rg then Tbl.at s.pio.valid e 0 else unsigned 32 v) ∧
      s.regsKept s' [(pioReg e).1.off (pioReg e).2] ∧ s.unitsKept { s' with pio := s.pio } ∧
      ∀ d, d ≠ e → Tbl.at s'.pio.tai d 0 = Tbl.at s.pio.tai d 0 ∧ Tbl.at s'.pio.valid d 0 = Tbl.at s.pio.valid d 0
    (∀ (i : Fin 64) (r : TempReading), (s.get F.pioTinCfg_EN [i] = 0 → exec (.temperatureConversion t i r) s = .next (s.at t)) ∧
      (s.get F.pioTinCfg_EN [i] = 1 →
        let lo : Int := (if s.get F.pioTinCfg_TYPE [i] = 2 then -40 else -50) * 65536
        let hi : Int := (if s.get F.pioTinCfg_TYPE [i] = 2 then 150 else 250) * 65536
        let v := max lo (min hi r.value)
        Completes (.temperatureConversion t i r) s (held i v r.open_ r.short (decide (v ≠ r.value))))) ∧
    ∀ (i : Fin 32) (ma : Int),
      let l := (ma :: Tbl.at s.pio.raw (64 + i) []).take 5
      (s.get F.pioAinCfg_EN [i] = 0 → exec (.currentLoopSample t i ma) s = .next (s.at t)) ∧
      (s.get F.pioAinCfg_EN [i] = 1 → l.length < 4 → Completes (.currentLoopSample t i ma) s (fun s' =>
        s' = { s with now := t, out := [], pio := { s.pio with raw := Tbl.put s.pio.raw (64 + i) l } })) ∧
      (s.get F.pioAinCfg_EN [i] = 1 → 4 ≤ l.length →
        let mean := rneDiv ((l.take 4).foldl (· + ·) 0) 4
        let ne := s.get F.pioAinCfg_NE43 [i] = 1 ∧ l.length = 5
        let v := min mean (24 * 65536)
        Completes (.currentLoopSample t i ma) s (held (64 + i) v (decide (ne ∧ ∀ x ∈ l, 10 * x < 36 * 65536))
          (decide (ne ∧ ∀ x ∈ l, 21 * 65536 < x)) (decide (v ≠ mean))))) ∧
  (∀ (t : Sys2Proof.Tai) (s : Sys2Proof.Machine.State),
    (∀ (j : Fin 16) (lvl : Bool),
      (bitAt (s.get F.pioDinVal_STATE []) j = lvl → exec (.digitalInputAccept t j lvl) s = .next (s.at t)) ∧
      (bitAt (s.get F.pioDinVal_STATE []) j ≠ lvl → Completes (.digitalInputAccept t j lvl) s (fun s' =>
        (∀ k, bitAt (s'.get F.pioDinVal_STATE []) k = if k = j then lvl else bitAt (s.get F.pioDinVal_STATE []) k) ∧
        (∀ k, bitAt (s'.get F.pioDinVal_CHANGED []) k = (decide (k = j) || bitAt (s.get F.pioDinVal_CHANGED []) k)) ∧
        Tbl.at s'.pio.dinAt j 0 = t ∧ s.regsKept s' [Reg.off .pioDinVal []] ∧ s.unitsKept { s' with pio := s.pio }))) ∧
    ∀ (i : Fin 32) (m : LeakScan),
      let e := 96 + i.val
      let wet := bitAt (s.pioStatus e) 4
      let w := decide (m.kohm < s.get F.pioLeakCfg_WET_KOHM [i])
      let n := if w = wet then 0 else Tbl.at s.pio.scans e 0 + 1
      (s.get F.pioLeakCfg_EN [i] = 0 → exec (.leakScan t i m) s = .next (s.at t)) ∧
      (s.get F.pioLeakCfg_EN [i] = 1 →
        (m.contend = true ∨ m.broken = true → Completes (.leakScan t i m) s (fun s' =>
          bitAt (s'.pioStatus e) 4 = wet ∧ bitAt (s'.pioStatus e) 0 = true ∧
          bitAt (s'.pioStatus e) (if m.contend then 5 else 1) = true ∧ Tbl.at s'.pio.scans e 0 = Tbl.at s.pio.scans e 0)) ∧
        (m.contend = false → m.broken = false → Completes (.leakScan t i m) s (fun s' =>
          bitAt (s'.pioStatus e) 4 = (if s.get F.pioLeakCfg_CONFIRM [i] ≤ n then w else wet) ∧ bitAt (s'.pioStatus e) 0 = false ∧
          Tbl.at s'.pio.scans e 0 = (if s.get F.pioLeakCfg_CONFIRM [i] ≤ n then 0 else n) ∧
          ((if s.get F.pioLeakCfg_CONFIRM [i] ≤ n then w else wet) = false → s'.pioValue e = unsigned 32 (-65536)) ∧
          s.regsKept s' [Reg.off .pioLeakVal [i]] ∧ s.unitsKept { s' with pio := s.pio }))))

/-- R292, R296, R297, Tables 12.6 and 12.10: an overcurrent switches a digital output off; a fault of a driven analog output is
flagged by its mode; a released throttle pair with a current out of bounds is flagged and reported once; pairs that hold their
minimum assertion stay asserted. The model's own choices in it: notes/assumptions/9, 57. -/
def Obligations.OutputFaultsAndThrottlePairs : Prop :=
  ∀ (t : Sys2Proof.Tai) (s : Sys2Proof.Machine.State),
    (∀ j : Fin 16, Completes (.digitalOutputOc t j) s (fun s' =>
      (∀ k, bitAt (s'.get F.pioDoutVal_OC []) k = (decide (k = j) || bitAt (s.get F.pioDoutVal_OC []) k)) ∧
      (∀ k, bitAt (s'.get F.pioDoutVal_STATE []) k = (decide (k ≠ j) && bitAt (s.get F.pioDoutVal_STATE []) k)) ∧
      s'.digitalOut j = false ∧ s.regsKept s' [Reg.off .pioDoutVal []] ∧ s.unitsKept s')) ∧
    (∀ i : Fin 16,
      (s.get F.pioAoutVal_HIZ [i] = 1 ∨ (s.get F.pioAoutCfg_MODE [i] ≠ 1 ∧ s.get F.pioAoutCfg_MODE [i] ≠ 2) →
        exec (.analogOutputFault t i) s = .next (s.at t)) ∧
      (s.get F.pioAoutVal_HIZ [i] = 0 → s.get F.pioAoutCfg_MODE [i] = 1 ∨ s.get F.pioAoutCfg_MODE [i] = 2 →
        Completes (.analogOutputFault t i) s (fun s' =>
          s'.get F.pioAoutVal_SHORT [i] = (if s.get F.pioAoutCfg_MODE [i] = 1 then 1 else s.get F.pioAoutVal_SHORT [i]) ∧
          s'.get F.pioAoutVal_OPEN [i] = (if s.get F.pioAoutCfg_MODE [i] = 2 then 1 else s.get F.pioAoutVal_OPEN [i]) ∧
          s'.get F.pioAoutVal_VALUE [i] = s.get F.pioAoutVal_VALUE [i] ∧ s.regsKept s' [Reg.off .pioAoutVal [i]] ∧ s.unitsKept s'))) ∧
    (∀ (n : Fin 32) (ua : Nat),
      (s.pairsDriven.contains n.val = true → bitAt (s.get F.pioThrStat_ASSERTED []) n = false → (60000 < ua ∨ ua < 5000) →
        Completes (.throttleLineFault t n ua) s (fun s' =>
          (∀ k, bitAt (s'.get F.pioThrStat_LINE_FLT []) k = (decide (k = n) || bitAt (s.get F.pioThrStat_LINE_FLT []) k)) ∧
          s'.get F.pioThrStat_ASSERTED [] = s.get F.pioThrStat_ASSERTED [] ∧ s.regsKept s' (Reg.off .pioThrStat [] :: noteOffs) ∧
          s.unitsKept s' ∧ (bitAt (s.get F.pioThrStat_LINE_FLT []) n = true → s'.jrn = s.jrn ∧ s'.hst = s.hst))) ∧
      (s.pairsDriven.contains n.val = false ∨ bitAt (s.get F.pioThrStat_ASSERTED []) n = true ∨ (5000 ≤ ua ∧ ua ≤ 60000) →
        exec (.throttleLineFault t n ua) s = .next (s.at t))) ∧
    ∀ n : Fin 32,
      (t < Tbl.at s.prt.pairAt n 0 + 1000000 → exec (.minAssertionExpiry t n) s = .next (s.at t)) ∧
      (Tbl.at s.prt.pairAt n 0 + 1000000 ≤ t → Completes (.minAssertionExpiry t n) s (fun s' => s' = (s.at t).throttle ∧
        (bitAt s.pairsOrdered n = false → bitAt (s.get F.pioThrStat_ASSERTED []) n = true → bitAt (s'.get F.pioThrStat_ASSERTED []) n = false)))

/-- R300, R304, R306, R310, Tables 13.2 and 13.4: what an Ethernet port does with a datagram and with each record of it: other and
malformed datagrams are counted, a record is checked in the order of the table, and one that passes joins its port's queue. The
model's own choices in it: notes/assumptions/120. -/
def Obligations.IngestChecksEveryRecord : Prop :=
  ∀ (t : Sys2Proof.Tai) (j : Fin 2) (d : Datagram) (s : Sys2Proof.Machine.State),
    let counts (op : Instr) (f : Fld) : Prop := Completes op s (fun s' => s' = (s.at t).bump f [j] 1 ∧
      s'.get f [j] = min (s.get f [j] + 1) (2 ^ f.width - 1) ∧ s.regsKept s' [f.reg.off [j]] ∧ s.unitsKept s')
    let isIngest := d.dstOk = true ∧ d.udpPort = s.get F.telIngCfg_UDP_PORT [] ∧ d.checksumOk = true
    (s.ethOn j = false → exec (.ingestDatagram t j d) s = .next (s.at t) ∧ exec (.otherDatagram t j d) s = .next (s.at t)) ∧
    (s.ethOn j = true → counts (.otherDatagram t j d) F.obsIng0_OTHER ∧ (¬ isIngest → counts (.ingestDatagram t j d) F.obsIng0_OTHER) ∧
      (isIngest → ingestForm d.bytes = false → counts (.ingestDatagram t j d) F.obsIng0_MALFORMED) ∧
      (isIngest → ingestForm d.bytes = true → Completes (.ingestDatagram t j d) s (fun s' =>
        s' = (List.range (ofLeBytes ((d.bytes.drop 2).take 2))).foldl (fun u i => u.arrive j d.src
          (ofLeBytes (((d.bytes.drop (16 + 68 * i)).take 68).take 2)) (ofLeBytes (((d.bytes.drop (16 + 68 * i)).take 68).drop 4))) (s.at t) ∧
        s' = { s with now := t, out := [], regs := s'.regs, tel := s'.tel }))) ∧
    ∀ (n r : Nat), n < 65536 →
      let gen := bits r 64 64
      let src := s.on (if j.val = 0 then F.stmLo_PORT0 else F.stmLo_PORT1) [n] && s.sourceOk n d.src
      let u := s.arrive j d.src n r
      let drop (f : Fld) : Prop := u.get f [j] = min (s.get f [j] + 1) (2 ^ f.width - 1) ∧
        u.get F.stmHi_DROPPED [n] = min (s.get F.stmHi_DROPPED [n] + 1) (2 ^ F.stmHi_DROPPED.width - 1) ∧ u.tel = s.tel
      (0xFF00 ≤ n → n ≤ 0xFF7F → u = s.bump F.obsIng1_RESERVED [j] 1) ∧
      (n < 0xFF00 ∨ 0xFF7F < n →
        (s.get F.stmLo_EN [n] = 0 → u = s.bump F.obsIng1_DISABLED [j] 1) ∧
        (s.get F.stmLo_EN [n] = 1 →
          (src = false → drop F.obsIng2_SOURCE) ∧
          (src = true → bitAt r 23 = true → drop F.obsIng0_MALFORMED) ∧
          (src = true → bitAt r 23 = false →
            (s.now + 100000 < gen → drop F.obsIng2_FUTURE) ∧
            (gen ≤ s.now + 100000 → s.inGap n gen = true → drop F.obsIng3_DECIM) ∧
            (gen ≤ s.now + 100000 → s.inGap n gen = false →
              let cap := if s.get F.stmLo_PRIO [n] = 0 then 16384 else 14336
              (cap ≤ (s.queue j).length → u = s.bump F.obsIng4_OVERRUN [j] 1) ∧
              ((s.queue j).length < cap → u.queue j = s.queue j ++ [(n, r)] ∧ u.regs = s.regs ∧ Tbl.at u.tel.gens n 0 = gen)))))

/-- R306, R307, R311: the oldest queued record is written into the stream table unless it is no newer than the one held; decimation
steps up while a queue holds more than 8,192 records and down after eight checks with both below 2,048. The model's own choices in
it: notes/assumptions/120, 126. -/
def Obligations.RecordWritesAndDecimation : Prop :=
  ∀ (t : Sys2Proof.Tai) (s : Sys2Proof.Machine.State),
    (∀ j : Fin 2,
      (s.queue j = [] → exec (.recordWrite t j) s = .next (s.at t)) ∧
      ∀ n r q, n < 65536 → s.queue j = (n, r) :: q →
        (∀ h, Tbl.find s.tel.recs n = some h → bits r 64 64 ≤ bits h 64 64 → Completes (.recordWrite t j) s (fun s' =>
          s'.queue j = q ∧ s'.tel.recs = s.tel.recs ∧
          s'.get F.obsIng3_OLDER [j] = min (s.get F.obsIng3_OLDER [j] + 1) (2 ^ F.obsIng3_OLDER.width - 1) ∧
          s'.get F.stmHi_DROPPED [n] = min (s.get F.stmHi_DROPPED [n] + 1) (2 ^ F.stmHi_DROPPED.width - 1))) ∧
        ((∀ h, Tbl.find s.tel.recs n = some h → bits h 64 64 < bits r 64 64) → Completes (.recordWrite t j) s (fun s' =>
          s'.queue j = q ∧ Tbl.find s'.tel.recs n = some r ∧ (∀ k, k ≠ n → Tbl.find s'.tel.recs k = Tbl.find s.tel.recs k) ∧
          s'.get F.stmHi_NEVER [n] = 0 ∧
          s'.get F.stmHi_SUPERSEDED [n] = (if (Tbl.find s.tel.fresh n).isSome then
            min (s.get F.stmHi_SUPERSEDED [n] + 1) (2 ^ F.stmHi_SUPERSEDED.width - 1) else s.get F.stmHi_SUPERSEDED [n]) ∧
          s'.get F.obsIng4_ACCEPTED [j] = min (s.get F.obsIng4_ACCEPTED [j] + 1) (2 ^ F.obsIng4_ACCEPTED.width - 1) ∧
          s.regsKept s' [Reg.off .stmHi [n], Reg.off .obsIng4 [j]] ∧ s.unitsKept { s' with tel := s.tel }))) ∧
    (let n0 := s.tel.q0.length
     let n1 := s.tel.q1.length
     let low := if n0 < 2048 ∧ n1 < 2048 then s.tel.low + 1 else 0
     let only (s' : Sys2Proof.Machine.State) (c l : Nat) : Prop := s'.decLevel c = l ∧ (∀ k, k ≠ c → s'.decLevel k = s.decLevel k) ∧
       s'.tel = { s.tel with low := 0 } ∧ s.regsKept s' (Reg.off .telDecStat [] :: noteOffs)
     (8192 < n0 ∨ 8192 < n1 →
       (s.decLevel 3 < 6 → Completes (.decimationCheck t) s (fun s' => only s' 3 (s.decLevel 3 + 1))) ∧
       (6 ≤ s.decLevel 3 → s.decLevel 2 < 6 → Completes (.decimationCheck t) s (fun s' => only s' 2 (s.decLevel 2 + 1))) ∧
       (6 ≤ s.decLevel 3 → 6 ≤ s.decLevel 2 → s.decLevel 1 < 6 → Completes (.decimationCheck t) s (fun s' => only s' 1 (s.decLevel 1 + 1))) ∧
       (6 ≤ s.decLevel 3 → 6 ≤ s.decLevel 2 → 6 ≤ s.decLevel 1 → Completes (.decimationCheck t) s (fun s' =>
         s'.regs = s.regs ∧ s'.tel = { s.tel with low := 0 }))) ∧
     (n0 ≤ 8192 → n1 ≤ 8192 →
       (8 ≤ low →
         (0 < s.decLevel 1 → Completes (.decimationCheck t) s (fun s' => only s' 1 (s.decLevel 1 - 1))) ∧
         (s.decLevel 1 = 0 → 0 < s.decLevel 2 → Completes (.decimationCheck t) s (fun s' => only s' 2 (s.decLevel 2 - 1))) ∧
         (s.decLevel 1 = 0 → s.decLevel 2 = 0 → 0 < s.decLevel 3 → Completes (.decimationCheck t) s (fun s' => only s' 3 (s.decLevel 3 - 1)))) ∧
       (low < 8 ∨ (s.decLevel 1 = 0 ∧ s.decLevel 2 = 0 ∧ s.decLevel 3 = 0) →
         exec (.decimationCheck t) s = .next { s.at t with tel := { s.tel with low := low } })))

/-- R299, R300, R315, Table 13.9: echo requests are answered and duplicates found by neighbour discovery silence a port, on a port in
use with link; a change of link is recorded and journalled. R58, R59, R302, R303: the PTP ports: a Sync of the SLAVE port sets the
offset and, after sixteen in a row within 1 µs, LOCKED; a better Announce moves the SLAVE port; eight intervals without a Sync
change over or enter HOLDOVER. The model's own choices in it: notes/assumptions/9, 119. -/
def Obligations.EthernetPortsAndPtp : Prop :=
  (∀ (t : Sys2Proof.Tai) (j : Fin 2) (payload : List Byte) (up : Bool) (s : Sys2Proof.Machine.State),
    let reply : List Output :=
      if s.get F.telPortCfg_EN [j] = 1 ∧ s.get F.telPortStat_LINK [j] = 1 ∧ bitAt s.tel.dad j = false then [.ethReply j payload] else []
    Completes (.icmpv6Echo t j payload) s (fun s' => s' = { s with now := t, out := reply }) ∧
    (s.ethOn j = true → Completes (.neighbourDiscovery t j true) s (fun s' => s'.get F.telPortStat_DAD_FAIL [j] = 1 ∧
      bitAt s'.tel.dad j = true ∧ s.regsKept s' [Reg.off .telPortStat [j]] ∧ (∀ p, exec (.icmpv6Echo t j p) s' = .next (s'.at t)))) ∧
    exec (.neighbourDiscovery t j false) s = .next (s.at t) ∧
    (s.on F.telPortStat_LINK [j] = up → exec (.ethLinkChange t j up) s = .next (s.at t)) ∧
    (s.on F.telPortStat_LINK [j] ≠ up → Completes (.ethLinkChange t j up) s (fun s' => s'.get F.telPortStat_LINK [j] = b2n up ∧
      s.regsKept s' (Reg.off .telPortStat [j] :: noteOffs) ∧ s.unitsKept s'))) ∧
  (∀ (t : Sys2Proof.Tai) (j : Fin 2) (s : Sys2Proof.Machine.State),
    let slave := s.get F.telPtpStat_SLAVE_PORT []
    let st := s.get F.telPtpStat_STATE []
    (∀ m : SyncMeas, s.ptpRuns j = true → (j.val = slave ∨ s.ptpRuns slave = false) → 7812500 ≤ m.intervalNs → m.intervalNs ≤ 1000000000 →
      let within := if m.offset.natAbs ≤ 1000 then s.tel.within + 1 else 0
      Completes (.ptpSync t j m) s (fun s' =>
        s'.get F.telPtpStat_SLAVE_PORT [] = j.val ∧ s'.get F.telPtpGm_GM_ID [] = m.gm.toNat ∧
        s'.getI F.telPtpStat_OFFSET [] = max (-(2 ^ 31)) (min m.offset (2 ^ 31 - 1)) ∧
        s'.get F.frmStat_TIME_FAULT [] = b2n (decide (1000000 < m.offset.natAbs)) ∧
        s'.tel = { s.tel with within := min within 16, lastSync := some t, interval := m.intervalNs } ∧
        (16 ≤ within → s'.get F.telPtpStat_STATE [] = 2) ∧ (within < 16 → st ≠ 2 → s'.get F.telPtpStat_STATE [] = 1) ∧
        (st ≠ 2 → 16 ≤ within → s'.get F.frmStat_TIME_VALID [] = 1 ∧ s'.get F.frmStat_TIME_HOLDOVER [] = 0) ∧
        (st = 2 → within < 16 → s'.get F.telPtpStat_STATE [] = (if m.gm.toNat ≠ s.get F.telPtpGm_GM_ID [] ∧ 1000 < m.offset.natAbs then 1 else 2)))) ∧
    (∀ m : SyncMeas, s.ptpRuns j = false ∨ m.intervalNs < 7812500 ∨ 1000000000 < m.intervalNs → exec (.ptpSync t j m) s = .next (s.at t)) ∧
    (∀ a : Announce, s.ptpRuns j = true → a.domain = s.get F.telPtpCfg_DOMAIN [] → j.val ≠ slave → Completes (.ptpAnnounce t j a) s (fun s' =>
      Tbl.find s'.tel.heard j = some ⟨a.gm, a.rank⟩ ∧ s.regsKept s' [Reg.off .telPtpStat []] ∧
      s'.get F.telPtpStat_SLAVE_PORT [] = (if s.ptpRuns slave = true ∧ (∃ h, Tbl.find s.tel.heard slave = some h ∧ h.rank ≤ a.rank) then slave else j.val))) ∧
    (∀ delay : Int, Completes (.ptpDelayResp t j delay) s (fun s' => s' = (if s.ptpRuns j then
      { s.at t with tel := { s.tel with delay := Tbl.put s.tel.delay j delay } } else s.at t))) ∧
    ((st ≠ 2 ∨ ∃ l, s.tel.lastSync = some l ∧ t < l + 8 * s.tel.interval) → exec (.ptpHoldover t) s = .next (s.at t)) ∧
    (st = 2 → (∀ l, s.tel.lastSync = some l → l + 8 * s.tel.interval ≤ t) →
      (s.ptpRuns (1 - slave) = true → (Tbl.find s.tel.heard (1 - slave)).isSome = true → Completes (.ptpHoldover t) s (fun s' =>
        s'.get F.telPtpStat_SLAVE_PORT [] = 1 - slave ∧ s'.get F.telPtpStat_STATE [] = 2)) ∧
      (s.ptpRuns (1 - slave) = false → Completes (.ptpHoldover t) s (fun s' => s'.get F.telPtpStat_STATE [] = 3 ∧
        s'.get F.frmStat_TIME_HOLDOVER [] = 1 ∧ s'.tel = { s.tel with within := 0 } ∧
        s.regsKept s' ([Reg.off .telPtpStat [], Reg.off .frmStat []] ++ noteOffs)))))

/-- R55, R226 to R235, Table 9.2: a channel samples at the TAI multiples of (DIV + 1)·15,625 ns. Its sample applies the output
computed before, then takes a write, protection, the block, feedback, profile, supervision and law in the order of the table.
Under every law the output keeps its limits and slew step, and the integral its limits; the profile keeps its speed and stops on
its target. The model's own choices in it: notes/assumptions/57, 58, 59. -/
def Obligations.LoopSampleKeepsItsLimits : Prop :=
  (∀ (t : Sys2Proof.Tai) (n : Fin 256) (s : Sys2Proof.Machine.State),
    let c := s.chan n
    let a := (if c.mode ≠ 0 then (s.at t).setChan n { c with applied := some c.u } else s.at t).chanWrite n
    (t % ((s.get F.lpeChCfg_DIV [n] + 1) * 15625) ≠ 0 → exec (.loopSample t n) s = .next (s.at t)) ∧
    (t % ((s.get F.lpeChCfg_DIV [n] + 1) * 15625) = 0 → Completes (.loopSample t n) s (fun s' =>
      ((a.chan n).mode = 0 → s' = a.anySafe.refreshOutputs) ∧
      ((a.chan n).mode ≠ 0 → s' = ((((a.chanTable n).chanForced n).chanTake n).chanCompute n |>.publishChan n).anySafe.refreshOutputs)))) ∧
  ∀ (c : ChCfg) (up i d r y yp x v a : Int), -(2 ^ 31) ≤ c.umin → c.umin ≤ up → up ≤ c.umax → c.umax < 2 ^ 31 →
    (∀ o ∈ [lawP c up i d r y yp, lawG c up i d r y],
      c.umin ≤ o.u ∧ o.u ≤ c.umax ∧ (c.du ≠ 0 → up - duStep c ≤ o.u ∧ o.u ≤ up + duStep c) ∧
      (c.umin - c.bias) * 65536 ≤ o.i ∧ o.i ≤ (c.umax - c.bias) * 65536) ∧
    (let o := lawOpen c up i d r
     c.umin ≤ o.u ∧ o.u ≤ c.umax ∧ (c.du ≠ 0 → up - duStep c ≤ o.u ∧ o.u ≤ up + duStep c) ∧ o.i = i ∧ o.d = d ∧
     (c.du = 0 → c.umin ≤ r → r ≤ c.umax → o.u = r ∧ o.lim = false)) ∧
    (c.vmax = 0 → c.amax = 0 → profileStep c x r v a = (x * 65536, 0, 0)) ∧
    (0 < c.vmax → c.vmax < 2 ^ 31 → -(c.vmax * 65536) ≤ (profileStep c x r v a).2.1 ∧ (profileStep c x r v a).2.1 ≤ c.vmax * 65536) ∧
    ((profileStep c x r v a).1 = x * 65536 → r ≠ x * 65536 → -(2 ^ 63) ≤ x * 65536 - r → x * 65536 - r < 2 ^ 63 → (profileStep c x r v a).2 = (0, 0))

/-- R237 to R241: the faults of a channel and its way back: feedback lost, following error, implausible feedback, start to normal, and
automatic recovery; each happens only where its count has been reached. R243, R244: the silence of a frame: SILENT and SIL_CNT,
each channel's count of silent frames, and ON_SAFE from the SIL_F-th on. The model's own choices in it: notes/assumptions/9, 59. -/
def Obligations.ChannelFaultsRecoveryAndSilence : Prop :=
  (∀ (t : Sys2Proof.Tai) (n : Fin 256) (s : Sys2Proof.Machine.State),
    let c := s.chan n
    let lim (f : Fld) := samplesOver (s.get f [n]) (s.get F.lpeChCfg_DIV [n] + 1)
    let rest (s' : Sys2Proof.Machine.State) : Prop := s.regsKept s' (Reg.off .lpeChStat [n] :: noteOffs) ∧
      s.unitsKept { s' with lpe := s.lpe } ∧ ∀ m, m ≠ n.val → s'.chan m = s.chan m
    let faults (op : Instr) (f : Fld) : Prop := Completes op s (fun s' => s'.get f [n] = 1 ∧ s'.get F.lpeChStat_FAULTED [n] = 1 ∧
      (s'.chan n).eff = c.eff ∧ (s'.chan n).u = c.u ∧ rest s')
    (c.mode ≠ 0 → s.get F.lpeChCfg_FB_KIND [n] ≠ 0 → s.get F.lpeChCfg_MISS_MAX [n] < c.miss → faults (.fbLost t n) F.lpeChStat_FB_LOST) ∧
    (c.mode = 0 ∨ s.get F.lpeChCfg_FB_KIND [n] = 0 ∨ c.miss ≤ s.get F.lpeChCfg_MISS_MAX [n] → exec (.fbLost t n) s = .next (s.at t)) ∧
    (c.mode ≠ 0 → c.eff = 2 → c.forced = none → s.get F.lpeChSup_FE_LIM [n] ≠ 0 → lim F.lpeChSup_FE_TIME ≤ c.fe →
      faults (.followErr t n) F.lpeChStat_FOLLOW_ERR) ∧
    (c.eff ≠ 2 ∨ s.get F.lpeChSup_FE_LIM [n] = 0 ∨ c.fe < lim F.lpeChSup_FE_TIME → exec (.followErr t n) s = .next (s.at t)) ∧
    (c.mode ≠ 0 → c.forced = none → lim F.lpeChSup_BAND_TIME ≤ c.bnd →
      (c.eff ≠ 2 → faults (.implaus t n) F.lpeChStat_IMPLAUS) ∧
      (c.eff = 2 → Completes (.implaus t n) s (fun s' => s'.get F.lpeChStat_IMPLAUS [n] = 1 ∧ s'.lpe = s.lpe ∧
        s'.get F.lpeChStat_FAULTED [n] = s.get F.lpeChStat_FAULTED [n] ∧ rest s'))) ∧
    (c.eff = 1 ∨ c.eff = 4 → s.get F.lpeChStat_FAULTED [n] = 0 → lim F.lpeChSup_FE_TIME ≤ c.pas →
      Completes (.startToNormal t n) s (fun s' => s'.chan n = { c with eff := 2, pas := 0 } ∧ s'.get F.lpeChStat_STATE [n] = 2 ∧ rest s')) ∧
    (s.get F.lpeChStat_FAULTED [n] = 1 → s.get F.lpeChCfg_AUTO_REC [n] = 1 → lim F.lpeChSup_FE_TIME ≤ c.rec_ →
      Completes (.autoRecover t n) s (fun s' => s'.get F.lpeChStat_FAULTED [n] = 0 ∧ s'.get F.lpeChStat_STATE [n] = 4 ∧
        (s'.chan n).eff = 4 ∧ (s'.chan n).u = c.u ∧ (s'.chan n).v = 0 ∧ (s'.chan n).init = none ∧ (s'.chan n).lost = false ∧ rest s'))) ∧
  (∀ (t : Sys2Proof.Tai) (s : Sys2Proof.Machine.State),
    Completes (.silenceCheck t) s (fun s' =>
      s'.get F.lpeStat_SILENT [] = b2n (!s.lpe.got) ∧
      s'.get F.lpeStat_SIL_CNT [] = (if s.lpe.got then 0 else min (s.get F.lpeStat_SIL_CNT [] + 1) 255) ∧
      ∀ n < 256,
        (s.blockLive (1024 + n) = true → (s'.chan n).sil = 0 ∧ (s'.chan n).want = false) ∧
        (s.blockLive (1024 + n) = false → (s'.chan n).sil = min ((s.chan n).sil + 1) 255 ∧
          (s.get F.lpeCtrl_SIL_F [] ≤ min ((s.chan n).sil + 1) 255 → s'.get F.lpeChStat_ON_SAFE [n] = 1 ∧ (s'.chan n).want = true))) ∧
    ∀ n : Fin 256,
      (s.get F.lpeCtrl_SIL_F [] ≤ (s.chan n).sil → Completes (.onSafe t n) s (fun s' => s'.get F.lpeChStat_ON_SAFE [n] = 1 ∧
        s'.chan n = { s.chan n with want := true } ∧ s.regsKept s' (Reg.off .lpeChStat [n] :: noteOffs) ∧ ∀ m, m ≠ n.val → s'.chan m = s.chan m)) ∧
      ((s.chan n).sil < s.get F.lpeCtrl_SIL_F [] → exec (.onSafe t n) s = .next (s.at t)))

/-- R40, R42, R50, R54, R56, R58, Table 2.4: frame edges: at the next TAI multiple of T_F while frames run, FRM_COUNT rises by one and
the edge's steps follow; the first edge loads the counters from TAI; a sealed block is released at the edge after its seal, and a
new period or epoch length only where the edge is a multiple of both. The model's own choices in it: notes/assumptions/33, 117. -/
def Obligations.FrameEdgesAdvanceTheFrame : Prop :=
  ∀ (t : Sys2Proof.Tai) (act : Bool) (s : Sys2Proof.Machine.State),
    (s.get F.frmStat_RUNNING [] = 1 → s.rst.stopped = false → s.fab.tai0 < t → t % s.tF = 0 →
      let u := (s.at t).crossJournal.bumpWrap F.frmCount_COUNT [] 1
      u.frame = (s.frame + 1) % 2 ^ 64 ∧
      exec (.frameEdge t act) s = .next (u.edge t act (decide (u.frame = s.get F.frmNextEpoch_NEXT [])) false)) ∧
    (s.get F.frmStat_RUNNING [] = 0 ∨ s.rst.stopped = true ∨ t ≤ s.fab.tai0 ∨ t % s.tF ≠ 0 → exec (.frameEdge t act) s = .next (s.at t)) ∧
    (s.get F.frmStat_RUNNING [] = 0 → s.rst.stopped = false → s.get F.frmStat_TIME_VALID [] = 1 → s.get F.glbStat_PHASE [] = 5 →
      t % (s.eLen * s.tF) = 0 →
      Completes (.firstFrameEdge t act) s (fun s' => ∃ u : Sys2Proof.Machine.State, s' = u.firstRole.edge t act true true ∧
        u.frame = t / s.tF % 2 ^ 64 ∧ u.get F.frmEpoch_EPOCH [] = t / s.tF / s.eLen % 2 ^ 32 ∧
        u.get F.frmNextEpoch_NEXT [] = (t / s.tF + s.eLen) % 2 ^ 64 ∧ u.get F.frmStat_RUNNING [] = 1 ∧ u.get F.glbStat_PHASE [] = 6 ∧
        u.pair.first = some (t / s.tF) ∧ u.fab.tai0 = t)) ∧
    (s.get F.frmStat_RUNNING [] = 1 ∨ s.get F.frmStat_TIME_VALID [] = 0 ∨ s.get F.glbStat_PHASE [] ≠ 5 ∨ t % (s.eLen * s.tF) ≠ 0 →
      exec (.firstFrameEdge t act) s = .next (s.at t)) ∧
    s.tF = 125000 * 2 ^ s.get F.frmStat_PERIOD_K [] ∧ s.eLen = 2 ^ s.get F.frmStat_EPOCH_M [] ∧
    (s.rst.fabric = false → s.releaseEdge.frm = { s.frm with released := s.frm.sealed_, sealed_ := none }) ∧
    (s.rst.fabric = true → s.releaseEdge.frm.released = none ∧ s.releaseEdge.cap.pend = none) ∧
    (∀ k m, s.periodEdge.get F.frmStat_PERIOD_K [] = k → s.periodEdge.get F.frmStat_EPOCH_M [] = m →
      (k = s.get F.frmStat_PERIOD_K [] ∧ m = s.get F.frmStat_EPOCH_M []) ∨ s.now % (2 ^ m * (125000 * 2 ^ k)) = 0)

/-- R44 to R46, R93, R145, R420: the deadline at slot 60, once per frame: what has reached staging and the sluices by then counts,
each section is checked and every tussock sealed, and the seal window of the module's role follows. A section that finished is
recorded with its slot; one that did not is a counted miss. The model's own choices in it: notes/assumptions/35, 82, 147. -/
def Obligations.DeadlineChecksEverySection : Prop :=
  ∀ (t : Sys2Proof.Tai) (s : Sys2Proof.Machine.State),
    (s.get F.frmStat_RUNNING [] = 1 → s.rst.stopped = false → s.rcd.closed = false → 16 * s.fab.tai0 + 15 * s.tF ≤ 16 * t →
      let u := (List.range 256).foldl Sys2Proof.Machine.State.sealTus (s.rcd.secs.foldl Sys2Proof.Machine.State.checkSection (s.at t).landDue)
      let w := if u.rst.fabric then u.writeRecord.closeJournal [] else if u.standby then u.shadowSeal else u.liveSeal
      Completes (.deadlineCheck t) s (fun s' => s' = { w with rcd := { w.rcd with closed := true, secs := [] } } ∧
        ∀ v, exec (.deadlineCheck v) s' = .next (s'.at v))) ∧
    (s.get F.frmStat_RUNNING [] = 0 ∨ s.rst.stopped = true ∨ s.rcd.closed = true ∨ 16 * t < 16 * s.fab.tai0 + 15 * s.tF →
      exec (.deadlineCheck t) s = .next (s.at t)) ∧
    ∀ (q : Plan) (e : Nat × Bool × List Nat), s.secPlan e = some q →
      (s.secDone q e = true → (s.checkSection e).rcd = { s.rcd with finished := s.rcd.finished ||| 2 ^ e.1, done := Tbl.put s.rcd.done e.1 (s.doneSlot q e.2.2) } ∧
        (s.checkSection e).regs = s.regs ∧ s.doneSlot q e.2.2 ≤ 59) ∧
      (s.secDone q e = false → s.checkSection e = s.missSection q e ∧ bitAt (s.checkSection e).rcd.missed e.1 = true ∧
        Tbl.at (s.checkSection e).rcd.done e.1 0 = 0xFE)

/-- R17, R41, R42, R225, R355, R358: what the companion controller does in a frame: it takes the released output block, its part of
the snapshot becomes readable and an active sends the snapshot on, and a standby holds what its partner sends. The model's own
choices in it: notes/assumptions/37, 38, 113, 118. -/
def Obligations.CompanionSideOfAFrame : Prop :=
  ∀ (t : Sys2Proof.Tai) (s : Sys2Proof.Machine.State),
    (s.get F.frmStat_RUNNING [] = 1 → s.fab.tai0 + 400 ≤ t →
      (∀ b, s.frm.released = some b → Completes (.outputBlockArrival t) s (fun s' => s'.frm.released = none ∧ s'.lpe.blk = some b ∧
        s'.lpe.blkAt = t ∧ s'.lpe.got = true ∧ s'.get F.lpeStat_SILENT [] = 0 ∧
        (∀ n < 256, b.live.contains (1024 + n) = true → (s'.chan n).sil = 0 ∧ (s'.chan n).want = false))) ∧
      (s.frm.released = none → Completes (.outputBlockArrival t) s (fun s' => s'.lpe = s.lpe ∧ s'.frm = s.frm))) ∧
    (s.get F.frmStat_RUNNING [] = 0 ∨ t < s.fab.tai0 + 400 → exec (.outputBlockArrival t) s = .next (s.at t)) ∧
    (s.get F.frmStat_RUNNING [] = 1 → s.rst.stopped = false → s.fab.tai0 + 1000 ≤ t → s.standby = false →
      Completes (.companionSnapshotReady t) s (fun s' =>
        s'.snap = s.snap.filter (fun e => decide (e.1 < 0x40000)) ++ s.fab.comp.filter (fun e => decide (e.1 < 0x60000)) ++
          (List.range 256).map (fun n => (0x60000 + n, s.chanUnit n)) ++ s.fab.comp.filter (fun e => decide (0x80000 ≤ e.1)) ∧
        s'.jrn.crossing = [] ∧
        (s.get F.parStat_ROLE [] = 2 → s.get F.parStat_P0_UP [] = 1 → ∃ l, s'.out.getLast? = some (.p0Snapshot s.frame l)))) ∧
    (s.get F.frmStat_RUNNING [] = 1 → s.rst.stopped = false → s.fab.tai0 + 1000 ≤ t → s.standby = true →
      exec (.companionSnapshotReady t) s = .next (s.at t).crossed) ∧
    (∀ frame units, Completes (.snapshotStreamReceived t frame units) s (fun s' => s' = if s.standby ∧ s.get F.parStat_P0_UP [] = 1 then
      { s.at t with pair := { s.pair with snapNext := some (frame, units) } } else s.at t)) ∧
    (∀ img : StateImage, s.standby = true → s.get F.parStat_P0_UP [] = 1 → s.pair.transfer = false →
      (img.complete = true → Completes (.stateImageReceived t img) s (fun s' => s' = { s.at t with pair := s'.pair } ∧
        s'.pair = { s.pair with img := s'.pair.img, seenEpoch := s'.pair.seenEpoch, imgSeen := s'.pair.imgSeen, inbox := s'.pair.inbox } ∧
        s'.pair.img = some img ∧ s'.pair.seenEpoch = max s.pair.seenEpoch img.leaseEpoch ∧ s'.pair.imgSeen = some img.frame ∧
        s'.pair.inbox = s.pair.inbox ++ [img.writes])) ∧
      (img.complete = false → Completes (.stateImageReceived t img) s (fun s' => s'.pair.img = s.pair.img ∧ s'.pair.inbox = s.pair.inbox ∧
        s'.get F.parCnt_IMG_LOST [] = min (s.get F.parCnt_IMG_LOST [] + 1) (2 ^ F.parCnt_IMG_LOST.width - 1) ∧
        s'.get F.parStat_CLEAN_F [] = 0 ∧ s'.get F.parStat_ROLE [] ≠ 4))) ∧
    (∀ img : StateImage, s.standby = false → exec (.stateImageReceived t img) s = .next (s.at t)) ∧
    (∀ x e, s.pair.word = some (x, e) → Completes (.leaseWordArrival t) s (fun s' => s' = { s.at t with pair := { s.pair with compX := x, word := none } })) ∧
    (s.pair.word = none → exec (.leaseWordArrival t) s = .next (s.at t))

/-- R217 to R222, Tables 8.10 to 8.13: promotion: a sealed record makes its candidate SEALED with its digest, the checks make it
PASSED or REFUSED with the first failing check, GO approves a PASSED one, WITHDRAW discards it, and a demotion needs a former
bank. The model's own choices in it: notes/assumptions/42, 78, 79, 143, 148, 150. -/
def Obligations.PromotionSealsChecksAndApproves : Prop :=
  ∀ (t : Sys2Proof.Tai) (k : Fin 2) (s : Sys2Proof.Machine.State),
    let st := s.get F.plnPromoStat_STATE [k]
    let stays (s' : Sys2Proof.Machine.State) : Prop := s.regsKept s' (Reg.off .plnPromoStat [k] :: noteOffs) ∧ s'.hbm = s.hbm ∧ s'.pln.inForce = s.pln.inForce
    Completes (.promotionRecordRead t) s (fun s' => s' = ((s.at t).readRecord 0).readRecord 1 ∧ s'.hbm = s.hbm) ∧
    (∀ e, s.promoEntry k = some e → s.recNum k e 0 8 = 0x5345414C → (st = 0 ∨ st = 4) → s.standby = false →
      (s.promoAt k).spent ≠ some (s.candidateDigest k e) →
        (s.readRecord k).get F.plnPromoStat_STATE [k] = 1 ∧ ((s.readRecord k).promoAt k).digest = s.candidateDigest k e ∧ stays (s.readRecord k)) ∧
    (∀ e, s.promoEntry k = some e → (s.recNum k e 0 8 ≠ 0x5345414C ∨ st = 1 ∨ st = 2 ∨ st = 3 ∨ s.standby = true) → s.readRecord k = s) ∧
    (∀ e, s.promoEntry k = some e → st = 1 →
      (s.promoCheck k e ≠ 0 → Completes (.promotionCheckComplete t k) s (fun s' => s'.get F.plnPromoStat_STATE [k] = 4 ∧
        s'.get F.plnPromoStat_CODE [k] = s.promoCheck k e % 2 ^ F.plnPromoStat_CODE.width ∧ stays s')) ∧
      (s.promoCheck k e = 0 → Completes (.promotionCheckComplete t k) s (fun s' => stays s' ∧ s'.get F.plnPromoStat_STATE [k] =
        if s.on (if k.val = 0 then F.plnPromoCtrl_AUTO_W else F.plnPromoCtrl_AUTO_C) [] then 3 else 2))) ∧
    (st ≠ 1 → exec (.promotionCheckComplete t k) s = .next (s.at t)) ∧
    (st = 2 → (s.promoGo k).get F.plnPromoStat_STATE [k] = 3 ∧ ((s.promoGo k).promoAt k).readyAt = s.now) ∧ (st ≠ 2 → s.promoGo k = s) ∧
    (st = 1 ∨ st = 2 ∨ st = 3 → (s.promoWithdraw k).get F.plnPromoStat_STATE [k] = 0 ∧ stays (s.promoWithdraw k)) ∧
    (st ≠ 1 → st ≠ 2 → st ≠ 3 → s.promoWithdraw k = s) ∧
    (s.get F.plnPromoStat_PREV_VALID [k] = 1 → st ≠ 5 → (s.promoDemote k).get F.plnPromoStat_STATE [k] = 5 ∧
      ((s.promoDemote k).promoAt k).demoteAt = some s.now) ∧
    (s.get F.plnPromoStat_PREV_VALID [k] = 0 ∨ st = 5 → s.promoDemote k = s) ∧
    (∀ prev, ((s.promoFlip k prev).promoAt k).bankB = !(s.promoAt k).bankB ∧
      (s.promoFlip k prev).get F.plnPromoStat_VERSION [k] = (s.get F.plnPromoStat_VERSION [k] + 1) % 2 ^ F.plnPromoStat_VERSION.width ∧
      (s.promoFlip k prev).get F.plnPromoStat_PREV_VALID [k] = b2n prev ∧ (s.promoFlip k prev).get F.plnPromoStat_STATE [k] = 0) ∧
    ∀ e (data : List Byte), s.promoEntry k = some e → s.standby = true → data.length = e.len →
      Completes (.p0CandidateReceived t k data) s (fun s' => (s'.promoAt k).digest = digest data ∧ s'.regs = s.regs ∧
        s'.hbm = Mem.setBytes s.hbm (bankCandidate (s.promoAt k) e) data)

/-- R52, R324, R345, R422, R425, R426, R445, R446: a direct register write of the host takes effect where nothing forbids it, at once
or, for the registers whose changes wait while frames run, at the next frame edge; else it changes nothing but what is counted,
journalled and raised about it, each cause in its own way. R157, R324, R325, R327, R337, R426, R445: 8-byte aligned writes of a
listed register go to it; a misaligned, unlisted or wrongly sized one is discarded and counted; a bad read is answered with
Unsupported Request; BAR2 writes reach the staging bank alone. The model's own choices in it: notes/assumptions/57, 94, 95, 96,
98, 99, 101. -/
def Obligations.HostAccessesAreTakenOrRefused : Prop :=
  (∀ (s : Sys2Proof.Machine.State) (i : Instr) (t : Sys2Proof.Tai) (w : Wr), hostWriteOf i s = some (t, w) →
    let u := s.at t
    let q := u.hostReq 0xFFFF
    (s.prt.cut.isSome = true → exec i s = .next u) ∧
    (u.writeMay w → Completes i s (fun s' => ∃ v, u.accepted v ∧ s' = if u.waits w.reg then
      { v with acs := { v.acs with later := v.acs.later ++ [w] } } else Sys2Proof.Machine.State.effect v (v.wrote w) w)) ∧
    (∀ v : Sys2Proof.Machine.State, v.acs.later = [w] → v.frameWrites =
      let z : Sys2Proof.Machine.State := { v with acs := { v.acs with later := [] } }
      Sys2Proof.Machine.State.effect z (z.wrote w) w) ∧
    (¬ u.writeMay w → Completes i s (fun s' => s.unitsKept s' ∧
      s.regsKept s' (Reg.off .hstStat [] :: Reg.off .plnStageStatus [] :: noteOffs))) ∧
    (s.prt.cut = none →
      (∀ p, q.lacks w.reg = some p → exec i s = .next (u.discard q 3 w.off w.val p)) ∧
      (q.lacks w.reg = none → u.held.standbyRefuses w = true → exec i s = .next ((u.refuse q w).refusedEvent false 2 w.off)) ∧
      (q.lacks w.reg = none → u.held.standbyRefuses w = false → s.get F.jrnStat_JOURNAL_FULL [] = 1 → u.passesFull w = false →
        exec i s = .next (u.fullRefused.refusedEvent true 4 w.off)) ∧
      (q.lacks w.reg = none → u.held.standbyRefuses w = false → (s.get F.jrnStat_JOURNAL_FULL [] = 0 ∨ u.passesFull w = true) →
        (u.held.refuses (fun _ => false) w = true → exec i s = .next (((u.refuse q w).armCode w).refusedEvent false 2 w.off)) ∧
        (u.held.refuses (fun _ => false) w = false → u.loses q w = true → exec i s = .next (u.collide q w true))))) ∧
  (∀ (t : Sys2Proof.Tai) (off len : Nat) (v : Sys2Proof.Word) (addr : Nat) (data : List Byte) (s : Sys2Proof.Machine.State),
    let u := s.at t
    let badWr (s' : Sys2Proof.Machine.State) : Prop := s'.get F.hstStat_BAD_WR [] = min (s.get F.hstStat_BAD_WR [] + 1) (2 ^ F.hstStat_BAD_WR.width - 1) ∧
      s.unitsKept s' ∧ s.regsKept s' (Reg.off .hstStat [] :: noteOffs)
    (s.prt.cut = none →
      (len ≠ 8 ∨ off % 8 ≠ 0 ∨ Reg.lookup off = none → Completes (.registerWrite t off len v) s badWr) ∧
      (∀ r idx, len = 8 → off % 8 = 0 → Reg.lookup off = some (r, idx) → r.transport = false →
        exec (.registerWrite t off len v) s = .next (u.direct (wholeWrite r idx v.toNat))) ∧
      (∀ k : Fin 4, Reg.lookup off = some (.hstRingCons, [k.val]) → len = 8 → off % 8 = 0 → (u.hostReq 0xFFFF).lacks .hstRingCons = none →
        exec (.registerWrite t off len v) s = exec (.ringCons t k (v.toNat % 2 ^ 32)) s) ∧
      (∀ idx, Reg.lookup off = some (.hstHb, idx) → len = 8 → off % 8 = 0 → (u.hostReq 0xFFFF).lacks .hstHb = none →
        exec (.registerWrite t off len v) s = exec (.hstHb t (v.setWidth 32)) s)) ∧
    (s.prt.cut.isSome = true → exec (.registerWrite t off len v) s = .next u ∧ exec (.bar2Write t addr data) s = .next u) ∧
    (((len = 4 ∨ len = 8) ∧ off % len = 0 → exec (.bar0BadRead t off len) s = .next u) ∧
      (¬ ((len = 4 ∨ len = 8) ∧ off % len = 0) → Completes (.bar0BadRead t off len) s (fun s' => s' = { u with out := [.unsupportedRequest] }))) ∧
    (s.prt.cut = none →
      (bitAt (s.get F.jrnGrant_PCIE []) 0 = true → s.bar2May addr data.length = true → Completes (.bar2Write t addr data) s (fun s' =>
        s'.hbm = Mem.setBytes s.hbm addr data ∧ s'.get F.plnStageStatus_STATE [] = 0 ∧ s'.fab = s.fab ∧
        (s.get F.plnStageStatus_STATE [] = 0 → s' = { u with hbm := s'.hbm }) ∧
        (s.get F.plnStageStatus_STATE [] ≠ 0 → s'.pln.staged = none ∧ s'.get F.plnSetStaged_STAGED [] = 0))) ∧
      (bitAt (s.get F.jrnGrant_PCIE []) 0 = false ∨ s.bar2May addr data.length = false → Completes (.bar2Write t addr data) s badWr)) ∧
    (∀ n, s.bar2May addr n = true → ∃ b, (b = 0x2A00000000 ∨ b = 0x2C00000000) ∧ b ≤ addr ∧ addr + n ≤ b + 0x200000000))

/-- R53, R157, R158, R160, R169, R171, Table 20.9: the host's requests to the plan sequencer, where nothing forbids the write. R219,
R222, Table 8.12: GO approves a PASSED candidate, DEMOTE makes a demotion pending and WITHDRAW discards a candidate, each of its
own kind alone. The model's own choices in it: notes/assumptions/95, 96. -/
def Obligations.PlanAndPromotionRequests : Prop :=
  (∀ (t : Sys2Proof.Tai) (s : Sys2Proof.Machine.State),
    let may (i : Instr) : Prop := ∃ w, hostWriteOf i s = some (t, w) ∧ (s.at t).writeMay w
    let st := s.get F.plnStageStatus_STATE []
    (may (.checkStage t) → Completes (.checkStage t) s (fun s' =>
      s'.get F.plnStageStatus_STATE [] = (if st = 0 then 1 else st) ∧ s'.pln = s.pln ∧ s'.hbm = s.hbm ∧
      s.regsKept s' (Reg.off .plnStageCtrl [] :: Reg.off .plnStageStatus [] :: Reg.off .hstStat [] :: noteOffs))) ∧
    (may (.clearStage t) → Completes (.clearStage t) s (fun s' =>
      (st = 2 ∨ st = 3 → s'.get F.plnStageStatus_STATE [] = 0 ∧ s'.get F.plnStageStatus_CODE [] = 0 ∧ s'.get F.plnSetStaged_STAGED [] = 0 ∧
        s'.pln = { s.pln with staged := none }) ∧
      (st ≠ 2 → st ≠ 3 → s'.get F.plnStageStatus_STATE [] = st ∧ s'.pln = s.pln))) ∧
    (∀ target : BitVec 32, may (.plnArm t target) → Completes (.plnArm t target) s (fun s' =>
      s'.get F.plnStageStatus_STATE [] = 4 ∧ s'.get F.plnArm_TARGET [] = target.toNat ∧ s'.get F.plnStageStatus_CODE [] = 0 ∧ s'.pln = s.pln)) ∧
    (may (.withdraw t) → Completes (.withdraw t) s (fun s' =>
      s'.get F.plnStageStatus_STATE [] = (if (s.at t).withdrawMay then 2 else st) ∧ (s.held.get F.plnStageStatus_STATE [] = 5 → (s.at t).held.withdrawMay = true) ∧ s'.get F.plnArm_TARGET [] = s.get F.plnArm_TARGET [] ∧ s'.pln = s.pln)) ∧
    (∀ v : BitVec 32, may (.plnPlaceReq t v) → Tbl.wf s.pln.placeAt = true → Completes (.plnPlaceReq t v) s (fun s' => ∀ p < 8,
      let old := bits (s.rd .plnPlaceReq []) (4 * p) 3
      let new := bits v.toNat (4 * p) 3
      bits (s'.rd .plnPlaceReq []) (4 * p) 3 = new ∧
      (old = new → Tbl.find s'.pln.placeAt p = Tbl.find s.pln.placeAt p) ∧
      (old ≠ new → Tbl.find s'.pln.placeAt p = if new = Tbl.at s.pln.placeReq p 0 then none else some t))) ∧
    ∀ (k : Fin 4) (v : Sys2Proof.Word), may (.plnRetireReq t k v) → Tbl.wf s.pln.retireAt = true →
      Completes (.plnRetireReq t k v) s (fun s' => s'.get F.plnRetireReq_REQ [k] = v.toNat ∧ ∀ i < 64,
        let old := bitAt (s.get F.plnRetireReq_REQ [k]) i
        let new := bitAt v.toNat i
        (old = new → Tbl.find s'.pln.retireAt (64 * k.val + i) = Tbl.find s.pln.retireAt (64 * k.val + i)) ∧
        (old ≠ new → Tbl.find s'.pln.retireAt (64 * k.val + i) = if new = true then some t else none))) ∧
  (∀ (t : Sys2Proof.Tai) (s : Sys2Proof.Machine.State),
    let may (i : Instr) : Prop := ∃ w, hostWriteOf i s = some (t, w) ∧ (s.at t).writeMay w
    let go (i : Instr) (k j : Nat) : Prop := may i → Completes i s (fun s' => s'.promoAt j = s.promoAt j ∧
      s'.get F.plnPromoStat_STATE [j] = s.get F.plnPromoStat_STATE [j] ∧ s'.hbm = s.hbm ∧
      (s.get F.plnPromoStat_STATE [k] = 2 → s'.get F.plnPromoStat_STATE [k] = 3 ∧ s'.promoAt k = { s.promoAt k with readyAt := t }) ∧
      (s.get F.plnPromoStat_STATE [k] ≠ 2 → s'.get F.plnPromoStat_STATE [k] = s.get F.plnPromoStat_STATE [k] ∧ s'.promoAt k = s.promoAt k))
    let demote (i : Instr) (k j : Nat) : Prop := may i → Completes i s (fun s' => s'.promoAt j = s.promoAt j ∧
      s'.get F.plnPromoStat_STATE [j] = s.get F.plnPromoStat_STATE [j] ∧ s'.hbm = s.hbm ∧ s.held.get F.plnPromoStat_PREV_VALID [k] = 1 ∧
      (s.get F.plnPromoStat_PREV_VALID [k] = 1 → s'.get F.plnPromoStat_STATE [k] = 5) ∧
      (s.get F.plnPromoStat_PREV_VALID [k] = 1 → s.get F.plnPromoStat_STATE [k] ≠ 5 → (s'.promoAt k).demoteAt = some t) ∧ (s.get F.plnPromoStat_STATE [k] = 5 → s'.promoAt k = s.promoAt k))
    let withdraw (i : Instr) (k j : Nat) : Prop := may i → Completes i s (fun s' => s'.promoAt j = s.promoAt j ∧
      s'.get F.plnPromoStat_STATE [j] = s.get F.plnPromoStat_STATE [j] ∧ s'.hbm = s.hbm ∧
      let st := s.get F.plnPromoStat_STATE [k]
      (st = 1 ∨ st = 2 ∨ st = 3 → s'.get F.plnPromoStat_STATE [k] = 0 ∧ s'.get F.plnPromoStat_DEFER [k] = 0) ∧
      (st ≠ 1 → st ≠ 2 → st ≠ 3 → s'.get F.plnPromoStat_STATE [k] = st ∧ s'.promoAt k = s.promoAt k))
    go (.goW t) 0 1 ∧ go (.goC t) 1 0 ∧ demote (.demoteW t) 0 1 ∧ demote (.demoteC t) 1 0 ∧ withdraw (.withdrawW t) 0 1 ∧
    withdraw (.withdrawC t) 1 0)

/-- R50 to R53, R58, R243, R246, R343, R354, R360, R363, R366, R400: the host's requests to the frame, pairing, domain, protection and
store sequencers, where nothing forbids the write. The model's own choices in it: notes/assumptions/57, 96, 146. -/
def Obligations.FrameAndPairRequestsTakeEffect : Prop :=
  ∀ (t : Sys2Proof.Tai) (s : Sys2Proof.Machine.State),
    let may (i : Instr) : Prop := ∃ w, hostWriteOf i s = some (t, w) ∧ (s.at t).writeMay w
    (∀ k : BitVec 3, may (.periodChange t k) → Completes (.periodChange t k) s (fun s' =>
      k.toNat ≠ 7 ∧ s'.get F.frmCfg_PERIOD_K [] = k.toNat ∧ s'.get F.frmStat_PERIOD_K [] = s.get F.frmStat_PERIOD_K [] ∧
      s'.pln.epochLen = s.pln.epochLen ∧
      s'.pln.period = (if s.get F.frmCfg_PERIOD_K [] = k.toNat then s.pln.period
        else if k.toNat = s.get F.frmStat_PERIOD_K [] then none else some (k.toNat, t)) ∧
      s'.get F.frmStat_PENDING [] = b2n (s'.pln.period.isSome || s'.pln.epochLen.isSome))) ∧
    (∀ m : BitVec 4, may (.epochLengthChange t m) → Completes (.epochLengthChange t m) s (fun s' =>
      4 ≤ m.toNat ∧ m.toNat ≤ 12 ∧ s'.get F.frmCfg_EPOCH_M [] = m.toNat ∧ s'.get F.frmStat_EPOCH_M [] = s.get F.frmStat_EPOCH_M [] ∧
      s'.pln.period = s.pln.period ∧
      s'.pln.epochLen = (if s.get F.frmCfg_EPOCH_M [] = m.toNat then s.pln.epochLen
        else if m.toNat = s.get F.frmStat_EPOCH_M [] then none else some (m.toNat, t)) ∧
      s'.get F.frmStat_PENDING [] = b2n (s'.pln.period.isSome || s'.pln.epochLen.isSome))) ∧
    (may (.timeSet t) → Completes (.timeSet t) s (fun s' => s.held.get F.frmStat_RUNNING [] = 0 ∧ s.tel.taiWritten = true ∧
      s'.now = s.get F.frmTaiNs_TAI_NS [] ∧
      s'.get F.frmStat_TIME_VALID [] = 1 ∧ s'.get F.frmStat_TIME_HOLDOVER [] = 1 ∧ s'.get F.frmStat_RUNNING [] = s.get F.frmStat_RUNNING [])) ∧
    (may (.handover t) → Completes (.handover t) s (fun s' => s.held.get F.parStat_ROLE [] = 2 ∧ s.pair.handover = none ∧
      s'.pair.handover = some (s.frame + 2) ∧ s'.get F.parStat_HANDOVER_PEND [] = 1 ∧ s'.get F.parStat_ROLE [] = s.get F.parStat_ROLE [])) ∧
    (may (.rejoin t) → Completes (.rejoin t) s (fun s' =>
      s'.get F.parStat_ROLE [] = (if s.get F.parStat_ROLE [] = 5 then 3 else s.get F.parStat_ROLE []) ∧
      s'.pair.stopped = (if s.get F.parStat_ROLE [] = 5 then false else s.pair.stopped))) ∧
    (may (.domLeave t) → Completes (.domLeave t) s (fun s' =>
      let st := s.get F.parDomStat_STATE []
      (st = 2 → s'.get F.parDomStat_STATE [] = 2 ∧ s'.dom = { s.dom with leaveAt := some (s.dom.leaveAt.getD t) }) ∧
      (st = 1 ∨ st = 3 → s'.get F.parDomStat_STATE [] = 0 ∧ s'.dom = { s.dom with askAt := none, join := none }) ∧
      (st = 0 → s'.get F.parDomStat_STATE [] = 0 ∧ s'.dom = s.dom))) ∧
    (∀ v : Sys2Proof.Word, may (.domainJoin t v) → Completes (.domainJoin t v) s (fun s' =>
      s'.get F.parDomCfg_EN [] = bits v.toNat 0 1 ∧
      (s.get F.parDomCfg_EN [] = 0 → bits v.toNat 0 1 = 1 → s.holder = true →
        s'.get F.parDomStat_STATE [] = 1 ∧ s'.get F.parDomStat_REFUSE [] = 0 ∧ s'.get F.parDomCfg_POS [] = bits v.toNat 1 4 ∧
        s'.dom = { s.dom with askAt := some t, join := none, leaveAt := none } ∧
        Output.domain (.request s.modId (s.get F.parCfg_PARTNER_ID []) (bits v.toNat 1 4) (s.get F.frmStat_PERIOD_K [])
          (s.get F.frmStat_EPOCH_M []) (bits v.toNat 5 8)) ∈ s'.out) ∧
      (s.get F.parDomCfg_EN [] = 0 → bits v.toNat 0 1 = 1 → s.holder = false → s'.dom = s.dom) ∧
      (s.get F.parDomCfg_EN [] = bits v.toNat 0 1 → s'.dom = s.dom) ∧
      (s.get F.parDomCfg_EN [] = 1 → bits v.toNat 0 1 = 0 → s.get F.parDomStat_STATE [] = 2 →
        s'.dom.leaveAt = some (s.dom.leaveAt.getD t)))) ∧
    (may (.exerciseGo t) → Completes (.exerciseGo t) s (fun s' =>
      (s.held.get F.parExer_BUSY [] = 0 → s.held.exerMay = true) ∧
      (s.get F.parExer_BUSY [] = 0 → s'.get F.parExer_BUSY [] = 1 ∧ s'.get F.parExer_PASS [] = 0 ∧
        s'.get F.parExer_STEP [] = 0 ∧ ∀ n < 256, s.get F.lpeChCfg_MODE [n] ≠ 0 → (s'.chan n).eff = 3 ∧ s'.get F.lpeChStat_STATE [n] = 3) ∧
      (s.get F.parExer_BUSY [] = 1 → s'.get F.parExer_BUSY [] = 1 ∧ s'.lpe = s.lpe ∧ s'.can = s.can))) ∧
    (∀ m : BitVec 8, may (.rearm t m) → Completes (.rearm t m) s (fun s' => s'.prt = { s.prt with rearm := s.prt.rearm ||| m.toNat } ∧
      s.regsKept s' (Reg.off .prtCtrl [] :: Reg.off .hstStat [] :: noteOffs))) ∧
    (may (.save t) → Completes (.save t) s (fun s' => s'.get F.lpeCtrl_FORCE_SAFE [] = s.get F.lpeCtrl_FORCE_SAFE [] ∧
      s'.get F.lpeStat_SAVE_BUSY [] = 1 ∧
      (s.get F.lpeStat_SAVE_BUSY [] = 0 → s'.boot.saving.isSome = true ∧ s'.nv = { s.nv with lpe := Tbl.del s.nv.lpe s.nv.olderCopy }) ∧
      (s.get F.lpeStat_SAVE_BUSY [] = 1 → s'.boot = s.boot ∧ s'.nv = s.nv))) ∧
    ∀ on : Bool, may (.forceSafe t on) → Completes (.forceSafe t on) s (fun s' => s'.get F.lpeCtrl_FORCE_SAFE [] = b2n on ∧
      s'.get F.lpeCtrl_SIL_F [] = s.get F.lpeCtrl_SIL_F [] ∧ s'.nv = s.nv ∧ s'.lpe = s.lpe ∧
      s.regsKept s' (Reg.off .lpeCtrl [] :: Reg.off .hstStat [] :: noteOffs))

/-- R52, R206, R208, R233, R241, R253, R254, R259, R260, R284, R308, R327, R334: what writes of the enables and modes of channels,
ripples, drives, buses, streams and rings bring about, where nothing forbids them. The model's own choices in it:
notes/assumptions/57, 58, 64. -/
def Obligations.EnablesAndModesTakeEffect : Prop :=
  ∀ (t : Sys2Proof.Tai) (v : Sys2Proof.Word) (s : Sys2Proof.Machine.State),
    let may (i : Instr) : Prop := ∃ w, hostWriteOf i s = some (t, w) ∧ (s.at t).writeMay w
    let x := v.toNat
    (∀ n : Fin 256, may (.modeWrite t n v) → Completes (.modeWrite t n v) s (fun s' =>
      s'.get F.lpeChCfg_MODE [n] = bits x 1 3 ∧ bits x 1 3 ≤ 4 ∧ (s'.chan n).modes = (s.chan n).modes ++ [bits x 1 3] ∧ s'.get F.lpeChCfg_CLASS [n] = s.get F.lpeChCfg_CLASS [n] ∧
      (s.get F.lpeChCfg_MODE [n] ≠ 0 → s'.get F.lpeChCfg_ACT_KIND [n] = s.get F.lpeChCfg_ACT_KIND [n] ∧
        s'.get F.lpeChCfg_DIV [n] = s.get F.lpeChCfg_DIV [n]) ∧
      (bits x 1 3 ≠ 0 → s'.lpe.rip = s.lpe.rip) ∧
      (bits x 1 3 = 0 → ∀ i < 32, s.get F.lpeRplCfg_CH [i] = n.val → (s'.ripple i).st ≠ 1))) ∧
    (∀ n : Fin 256, may (.gainTblBase t n v) → Completes (.gainTblBase t n v) s (fun s' =>
      s'.get F.lpeChGtb_TBL [n] = (if s.get F.lpeChCfg_CLASS [n] = 1 then bits x 0 8 else s.get F.lpeChGtb_TBL [n]) ∧ s'.lpe = s.lpe ∧
      s.regsKept s' (Reg.off .lpeChGtb [n] :: Reg.off .hstStat [] :: noteOffs))) ∧
    (∀ i : Fin 32, may (.rippleArm t i v) → Completes (.rippleArm t i v) s (fun s' => s'.get F.lpeRplCfg_ARM [i] = bits x 8 1 ∧
      (bits x 8 1 = 1 → s'.lpe = s.lpe) ∧ (s.get F.lpeRplCfg_ARM [i] = 1 → bits x 8 1 = 0 → (s'.ripple i).st ≠ 1) ∧
      (s.get F.lpeRplCfg_ARM [i] = 1 → s'.get F.lpeRplCfg_CH [i] = s.get F.lpeRplCfg_CH [i]))) ∧
    (may (.rippleEn t v) → Completes (.rippleEn t v) s (fun s' => s'.get F.lpeRplCtrl_EN [] = bits x 0 1 ∧
      (bits x 0 1 = 1 → s'.lpe = s.lpe) ∧ (bits x 0 1 = 0 → ∀ i < 32, (s'.ripple i).st ≠ 1))) ∧
    (∀ p : Fin 4, may (.pumpEn t p v) → Completes (.pumpEn t p v) s (fun s' => s'.get F.drvPmpCfg_EN [p] = bits x 0 1 ∧
      (s.get F.drvPmpCfg_EN [p] = 1 → bits x 0 1 = 0 → (s'.pump p).phase = 0 ∧ s'.get F.drvPmpStat_RUN [p] = 0) ∧
      (¬ (s.get F.drvPmpCfg_EN [p] = 1 ∧ bits x 0 1 = 0) → s'.drv = s.drv))) ∧
    (∀ p : Fin 4, may (.pumpStatClear t p v) → Completes (.pumpStatClear t p v) s (fun s' =>
      (∀ i < 5, bitAt (s'.rd .drvPmpStat [p]) i = (bitAt (s.rd .drvPmpStat [p]) i && !bitAt x i)) ∧
      (s.get F.drvPmpStat_FLT_OFF [p] = 1 → (∀ i < 5, bitAt (s.rd .drvPmpStat [p]) i = true → bitAt x i = true) →
        s'.get F.drvPmpStat_FLT_OFF [p] = 0 ∧ (s'.pump p).restart = false) ∧
      (s.get F.drvPmpStat_FLT_OFF [p] = 1 → (∃ i < 5, bitAt (s.rd .drvPmpStat [p]) i = true ∧ bitAt x i = false) →
        s'.get F.drvPmpStat_FLT_OFF [p] = 1 ∧ s'.drv = s.drv))) ∧
    (∀ f : Fin 8, may (.fanEn t f v) → Completes (.fanEn t f v) s (fun s' => s'.get F.drvFanCfg_EN [f] = bits x 0 1 ∧
      s'.get F.drvFanStat_SENSORLESS [f] = b2n (decide (s'.get F.drvFanCfg_TACH_EN [f] = 0 ∨ s.get F.drvFanStat_TACH_LOST [f] = 1)) ∧
      (s.get F.drvFanCfg_EN [f] = 1 → bits x 0 1 = 0 → (s'.fan f).phase = 0 ∧ s'.get F.drvFanStat_RUN [f] = 0 ∧
        s'.get F.drvFanStat_FAILS [f] = 0 ∧ s'.get F.drvFanStat_RETRY_WAIT [f] = 0) ∧
      (¬ (s.get F.drvFanCfg_EN [f] = 1 ∧ bits x 0 1 = 0) → s'.drv = s.drv))) ∧
    (∀ f : Fin 8, may (.tachLostClear t f v) → Completes (.tachLostClear t f v) s (fun s' => s'.drv = s.drv ∧
      (∀ i < 4, bitAt (s'.rd .drvFanStat [f]) i = (bitAt (s.rd .drvFanStat [f]) i && !bitAt x i)) ∧
      s'.get F.drvFanStat_SENSORLESS [f] = b2n (decide (s.get F.drvFanCfg_TACH_EN [f] = 0 ∨ s'.get F.drvFanStat_TACH_LOST [f] = 1)))) ∧
    (∀ b : Fin 4, may (.canEn t b v) → Completes (.canEn t b v) s (fun s' => 
      (s.waits .fbCfg = true → s'.held.get F.fbCfg_EN [b] = bits x 0 1 ∧ s'.get F.fbCfg_EN [b] = s.get F.fbCfg_EN [b] ∧ s'.can = s.can) ∧
      (s.waits .fbCfg = false → s'.get F.fbCfg_EN [b] = bits x 0 1) ∧
      (¬ (s.get F.fbCfg_EN [b] = 1 ∧ bits x 0 1 = 0) → s'.can = s.can) ∧
      (s.waits .fbCfg = false → s.get F.fbCfg_EN [b] = 1 → bits x 0 1 = 0 → (s.bus b).onBus.isSome = true → (s'.bus b).leaving = true) ∧
      (s.waits .fbCfg = false → s.get F.fbCfg_EN [b] = 1 → bits x 0 1 = 0 → (s.bus b).onBus = none → s'.get F.fbErr_STATE [b] = 3))) ∧
    (∀ n : Fin 65536, may (.streamEnable t n v) → Tbl.wf s.tel.recs = true → Completes (.streamEnable t n v) s (fun s' =>
      (s.waits .stmLo = true → s'.held.get F.stmLo_EN [n] = bits x 0 1 ∧ s'.get F.stmLo_EN [n] = s.get F.stmLo_EN [n] ∧ s'.tel = s.tel) ∧
      (s.waits .stmLo = false → s'.get F.stmLo_EN [n] = bits x 0 1) ∧
      (s.waits .stmLo = false → s.get F.stmLo_EN [n] = 0 → bits x 0 1 = 1 → Tbl.find s'.tel.recs n = none ∧ s'.rd .stmHi [n] = Reg.resetWord .stmHi [n]) ∧
      (¬ (s.get F.stmLo_EN [n] = 0 ∧ bits x 0 1 = 1) → s'.tel = s.tel))) ∧
    ∀ i : Fin 4, may (.ringEnable t i v) → Completes (.ringEnable t i v) s (fun s' => s'.get F.hstRingCfg_EN [i] = bits x 0 1 ∧
      (s.get F.hstRingCfg_EN [i] = 1 → s'.get F.hstRingCfg_LOG2 [i] = s.get F.hstRingCfg_LOG2 [i]) ∧
      (s.get F.hstRingCfg_EN [i] = 0 → bits x 0 1 = 1 → s'.get F.hstRingProd_PROD [i] = 0 ∧ s'.get F.hstRingCons_CONS [i] = 0 ∧
        (i.val = 3 → s'.jrn.copied = s.get F.jrnOldest_SEQ [])))

/-- R379 to R384, Tables 16.6 to 16.9: compute resets: a request that nothing forbids is asserted at once, or waits for its drain;
what it clears, what it keeps, what it absorbs, and how it ends. R58, R385, R407, R408, Table 16.6: the fabric reset ends every
run and clears every tussock and SRAM, and ends; CRITICAL and SHUTDOWN end what runs; the frame sequencer stops, and writes that
waited for an edge take effect; the ACT line of a module that runs alone falls DUR_F frames after the cut. The model's own choices
in it: notes/assumptions/91, 92. -/
def Obligations.ComputeAndFabricResets : Prop :=
  (∀ (t : Sys2Proof.Tai) (h : Fin 32) (mask : BitVec 8) (drain : Bool) (s : Sys2Proof.Machine.State),
    let may (i : Instr) : Prop := ∃ w, hostWriteOf i s = some (t, w) ∧ (s.at t).writeMay w
    let half := { hum := 2 ^ h.val, tussocks := ((bitList mask.toNat 8).map (fun i => 8 * h.val + i)).filter (fun x => !s.retired x),
                  part := none, kind := 0, drain := drain, active := false : ObjReset }
    let asks (i : Instr) (o : ObjReset) : Prop := may i → Completes i s (fun s' => ∃ u, (s.at t).accepted u ∧
      s' = (u.wrote (wholeWrite .humCtrl [h] 0)).requestReset o)
    (half.tussocks ≠ [] → asks (.tussockReset t h mask drain) half) ∧
    (half.tussocks = [] → may (.tussockReset t h mask drain) → Completes (.tussockReset t h mask drain) s (fun s' => s'.fab = s.fab ∧ s'.rst = s.rst)) ∧
    asks (.hummockReset t h drain) (hummockObj h drain) ∧ asks (.partitionReset t h drain) (s.partitionObj h drain) ∧
    (∀ o : ObjReset, s.resetHolds o = true → (s.requestReset o).fab = s.fab ∧ (s.requestReset o).rst = s.rst) ∧
    (∀ o : ObjReset, s.resetHolds o = false → o.drain = true → s.get F.parDomStat_STATE [] < 2 →
      (s.requestReset o).rst = { s.rst with objs := s.rst.objs ++ [o] } ∧ (s.requestReset o).fab = s.fab) ∧
    (∀ o : ObjReset, s.resetHolds o = false → o.drain = false → s.requestReset o = s.assertReset o) ∧
    (∀ (o : ObjReset) (x : Nat), x ∈ o.tussocks → ((s.assertReset o).tus x).inReset = true ∧ ((s.assertReset o).tus x).stopped = true ∧
      ((s.assertReset o).tus x).sram = [] ∧ ((s.assertReset o).tus x).v = [] ∧ ((s.assertReset o).tus x).s = [] ∧
      ((s.assertReset o).tus x).track = (s.tus x).track ∧ ((s.assertReset o).tus x).cst = (s.tus x).cst) ∧
    (∀ (o : ObjReset) (x : Nat), x < 32 → bitAt o.hum x = true → o.kind ≠ 0 → (s.assertReset o).humSram x = []) ∧
    (∀ o : ObjReset, (∀ r ∈ (s.assertReset o).runs, r.plan.hummocks &&& o.hum = 0) ∧
      { o with active := true } ∈ (s.assertReset o).rst.objs) ∧
    Completes (.drainResetAssert t) s (fun s' => s' = (s.rst.objs.filter (fun o => !o.active)).foldl (fun (u : Sys2Proof.Machine.State) o =>
      if u.runs.any (fun r => decide (r.plan.hummocks &&& o.hum ≠ 0)) then u else u.assertReset o) (s.at t)) ∧
    (∀ slu : Option (Fin 8192), s.get F.humStat_IN_RESET [h] = 1 → Completes (.absorb t h slu) s (fun s' =>
      s'.get F.humStat_ABSORB_CNT [h] = min (s.get F.humStat_ABSORB_CNT [h] + 1) 65535 ∧
      (∀ i, slu = some i → s'.get F.slu_COUNT [i] = min (s.get F.slu_COUNT [i] + 1) (2 ^ F.slu_COUNT.width - 1) ∧
        (s.get F.slu_STATUS [i] = 1 ∨ s.get F.slu_STATUS [i] = 2 → s'.get F.slu_STATUS [i] = 4)) ∧
      (slu = none → s.regsKept s' [Reg.off .humStat [h]]) ∧ s' = { s.at t with regs := s'.regs })) ∧
    (∀ slu : Option (Fin 8192), s.get F.humStat_IN_RESET [h] = 0 → exec (.absorb t h slu) s = .next (s.at t)) ∧
    Completes (.computeResetComplete t h) s (fun s' =>
      s'.rst.objs = s.rst.objs.filter (fun o => !(o.active && bitAt o.hum h)) ∧
      (∀ o ∈ s.rst.objs, o.active = true → bitAt o.hum h = true → ∀ x ∈ o.tussocks,
        (∀ q ∈ s'.rst.objs, q.active = true → x ∉ q.tussocks) → (s'.tus x).inReset = false))) ∧
  (∀ (t : Sys2Proof.Tai) (s : Sys2Proof.Machine.State),
    (s.rst.fabric = true → exec (.fabricReset t) s = .next (s.at t)) ∧
    (s.rst.fabric = false → Completes (.fabricReset t) s (fun s' => s'.rst.fabric = true ∧ s'.rst.objs = [] ∧ s'.runs = [] ∧
      s'.fab.hum = [] ∧ s'.fab.msgs = [] ∧ s'.fab.relAt = [] ∧ s'.fab.sends = [] ∧ s'.fab.recv = [] ∧ s'.frm.can = [] ∧ s'.frm.sealed_ = none ∧ s'.rcd.secs = [] ∧
      ∀ x ∈ s.fab.tus.map Prod.fst, (s'.tus x).inReset = true ∧ (s'.tus x).sram = [] ∧ (s'.tus x).v = [])) ∧
    (s.rst.fabric = false → exec (.fabricResetComplete t) s = .next (s.at t)) ∧
    (s.rst.fabric = true → Completes (.fabricResetComplete t) s (fun s' => s'.rst = { s.rst with fabric := false } ∧ s'.runs = s.runs ∧
      s.regsKept s' noteOffs ∧ ∀ x ∈ s.fab.tus.map Prod.fst, s'.tus x = { s.tus x with inReset := false })) ∧
    Completes (.frameSequencerStop t) s (fun s' => s' = { (s.at t).frameWrites with rst := { (s.at t).frameWrites.rst with stopped := true } } ∧
      (s.acs.later = [] → (s.at t).frameWrites = s.at t)) ∧
    (s.get F.prtMcStat_STATE [] = 3 → s.rst.crit = false → Completes (.critical t) s (fun s' => s'.rst = { s.rst with crit := true } ∧
      s'.runs = s.runs.filter (fun r => !decide (r.plan.hummocks &&& (2 ^ 32 - 1) ≠ 0)) ∧ s'.hbm = s.hbm ∧ s'.lpe = s.lpe)) ∧
    (s.get F.prtMcStat_STATE [] ≠ 3 ∨ s.rst.crit = true → exec (.critical t) s = .next (s.at t)) ∧
    Completes (.shutdown t) s (fun s' => s'.get F.prtMcStat_STATE [] = 4 ∧
      (s.get F.prtMcStat_STATE [] ≠ 4 → s'.get F.prtStat_ANY [] = 1) ∧
      (s.prt.cut = none → s'.prt = { s.prt with cut := some t } ∧ s'.rst.stopped = true ∧ s'.runs = [] ∧ s'.frm.sealed_ = none) ∧
      (s.prt.cut.isSome = true → s'.prt = s.prt ∧ s'.runs = s.runs)) ∧
    (∀ a, s.get F.parStat_ROLE [] = 1 → s.prt.cut = some a → a + s.get F.parCfg_DUR_F [] * s.tF ≤ t →
      Completes (.standaloneShutdownActRelease t) s (fun s' => s' = (s.at t).actFall ∧ (∀ p : Fin 4, (s'.pump p).phase = 0) ∧
        ∀ f : Fin 8, (s'.fan f).phase = 0)) ∧
    (s.get F.parStat_ROLE [] ≠ 1 ∨ s.prt.cut = none ∨ (∃ a, s.prt.cut = some a ∧ t < a + s.get F.parCfg_DUR_F [] * s.tF) →
      exec (.standaloneShutdownActRelease t) s = .next (s.at t)))

/-- R368 to R376, R386, R389, R390, R408, R424, R460, Table 16.6: what resets of the whole module keep, and how start-up goes through
its phases: each phase's end shows what it found and opens the next, a late or failing phase is fatal. R246, R368, R369, R389,
R390, R453: straps are compared with their latched values, HB toggles while microcode runs, the bays' presence lines are followed,
and a save ends with a valid copy. The model's own choices in it: notes/assumptions/5, 89, 90, 108, 109, 111, 112. -/
def Obligations.ModuleResetStartUpAndStraps : Prop :=
  (∀ (t : Sys2Proof.Tai) (inp : PhaseInput) (s : Sys2Proof.Machine.State),
    let ph := s.get F.glbStat_PHASE []
    let runs := s.boot.began.isSome = true ∧ s.get F.glbStat_FATAL [] = 0
    let low := { s.at t with nv := { s.nv with svnMin := max s.nv.svnMin inp.svnMin } }
    let wait := ph = 1 ∧ s.get F.glbStat_RESET_CAUSE [] = 3 ∧ 90 ≤ inp.dieC
    (∀ c, (s.wholeReset c).nv = s.nv ∧ (s.wholeReset c).pending = s.pending ∧ (s.wholeReset c).hbm = [] ∧ (s.wholeReset c).runs = [] ∧
      (s.wholeReset c).fab = {} ∧ (s.wholeReset c).boot.began = (if c = 0 then none else some s.now) ∧ (s.wholeReset c).get F.glbStat_PHASE [] = b2n (c ≠ 0) ∧
      (s.wholeReset c).get F.glbStat_RESET_CAUSE [] = if s.get F.prtMcStat_STATE [] = 4 then 3 else c % 8) ∧
    (∀ low, (1050000 ≤ low → Completes (.rstN t low) s (fun s' => ∃ u : Sys2Proof.Machine.State, s' = u.wholeReset 1 ∧ u.nv = s.nv ∧ u.now = t ∧ u.regs = s.regs)) ∧
      (10500 ≤ low → low < 950000 → Completes (.rstN t low) s (fun s' => s'.get F.glbStat_RST_GLITCH [] = 1 ∧
        s'.get F.glbCnt_RST_GLITCH [] = min (s.get F.glbCnt_RST_GLITCH [] + 1) 65535 ∧ s.unitsKept { s' with free := s.free } ∧
        s.regsKept s' (Reg.off .glbStat [] :: Reg.off .glbCnt [] :: noteOffs))) ∧
      (low < 9500 → Completes (.rstN t low) s (fun s' => s' = { s.at t with free := s'.free }))) ∧
    (∀ mv ns, ((mv < 44000 ∨ 60000 < mv) ∧ 1000000 < ns → Completes (.powerLoss t mv ns) s (fun s' => s' = (s.at t).wholeReset 0 ∧ s'.nv = s.nv)) ∧
      (¬ ((mv < 44000 ∨ 60000 < mv) ∧ 1000000 < ns) → exec (.powerLoss t mv ns) s = .next (s.at t))) ∧
    ((s.boot.began = none → s.boot.inserted = true → Completes (.powerGood t) s (fun s' => s'.boot = { s.boot with began := some t } ∧
        s'.get F.glbStat_PHASE [] = 1 ∧ s'.get F.glbStat_ERR_N [] = 1)) ∧
      (s.boot.began.isSome = true ∨ s.boot.inserted = false → exec (.powerGood t) s = .next (s.at t))) ∧
    (¬ runs → exec (.startupPhaseComplete t inp) s = .next (s.at t)) ∧
    (runs → wait → Completes (.startupPhaseComplete t inp) s (fun s' => s' = { s.at t with boot := { s.boot with began := some t } })) ∧
    (runs → ¬ wait →
      ((s.at t).phaseLate = true → Completes (.startupPhaseComplete t inp) s (fun s' => s'.get F.glbStat_FATAL [] = 1 ∧
        s'.get F.glbStat_FATAL_CAUSE [] = 2 ∧ s'.get F.glbStat_PHASE [] = ph ∧ s'.boot = s.boot)) ∧
      ((s.at t).phaseLate = false →
        (ph = 1 → Completes (.startupPhaseComplete t inp) s (fun s' => s'.get F.glbStat_PHASE [] = 2 ∧
          s'.get F.glbId_MODID [] = inp.straps.modId.toNat ∧ s'.get F.glbSerial_SERIAL [] = inp.serial.toNat ∧
          s'.get F.glbStat_PAIR [] = b2n inp.straps.pair ∧ s'.get F.parCfg_MODE [] = b2n inp.straps.pair ∧
          s'.get F.glbStat_BOOT [] = inp.straps.boot.toNat ∧ s'.boot.straps = some inp.straps)) ∧
        (ph = 2 → Completes (.startupPhaseComplete t inp) s (fun s' => s'.nv.svnMin = low.nv.svnMin ∧
          (low.bootImage inp = none → s'.get F.glbStat_FATAL [] = 1 ∧ s'.get F.glbStat_FATAL_CAUSE [] = 1 ∧ s'.get F.glbStat_PHASE [] = 2) ∧
          ∀ k im, low.bootImage inp = some (k, im) → s'.boot = { s.boot with image := some im } ∧ s'.get F.glbStat_PHASE [] = 3)) ∧
        (ph = 3 → Completes (.startupPhaseComplete t inp) s (fun s' => s'.get F.glbStat_PHASE [] = 4 ∧
          (∀ im, s.boot.image = some im → s'.get F.glbSvn_SVN [] = im.svn % 2 ^ F.glbSvn_SVN.width) ∧ s'.nv = s.nv)) ∧
        (ph = 4 → inp.routerBad = false → inp.hbmBad = false → Completes (.startupPhaseComplete t inp) s (fun s' =>
          s'.get F.glbStat_PHASE [] = 5 ∧ s'.get F.glbStat_ERR_N [] = 0 ∧ s'.get F.parLease_EPOCH [] = s.nv.epoch % 2 ^ 32 ∧ s'.nv = s.nv ∧
          s'.jrn.next = 1 ∧ s'.jrn.held.length = 1)) ∧
        (ph = 4 → inp.routerBad = true ∨ inp.hbmBad = true → Completes (.startupPhaseComplete t inp) s (fun s' =>
          s'.get F.glbStat_FATAL [] = 1 ∧ s'.get F.glbStat_FATAL_CAUSE [] = if inp.routerBad then 3 else 4)))) ∧
    ((s.get F.glbStat_FATAL [] = 0 → (s.at t).phaseLate = true → Completes (.phaseOverrun t) s (fun s' => s'.get F.glbStat_FATAL [] = 1 ∧
        s'.get F.glbStat_FATAL_CAUSE [] = 2 ∧ s'.get F.glbStat_ERR_N [] = 1)) ∧
      (s.get F.glbStat_FATAL [] = 1 ∨ (s.at t).phaseLate = false → exec (.phaseOverrun t) s = .next (s.at t)))) ∧
  (∀ (t : Sys2Proof.Tai) (lines : Straps) (present : Bool) (s : Sys2Proof.Machine.State),
    (s.boot.straps = none → exec (.strapCheck t lines) s = .next (s.at t)) ∧
    (s.boot.straps = some lines → Completes (.strapCheck t lines) s (fun s' => s' = { s.at t with boot := { s.boot with strapDiff := false } })) ∧
    (∀ l, s.boot.straps = some l → l ≠ lines → Completes (.strapCheck t lines) s (fun s' => s'.get F.glbStat_STRAP_CHG [] = 1 ∧
      s'.boot = { s.boot with strapDiff := true } ∧
      s'.get F.glbCnt_STRAP_CHG [] = (if s.boot.strapDiff then s.get F.glbCnt_STRAP_CHG [] else min (s.get F.glbCnt_STRAP_CHG [] + 1) 65535) ∧
      s.regsKept s' (Reg.off .glbStat [] :: Reg.off .glbCnt [] :: noteOffs))) ∧
    (s.boot.image.isSome = true → Completes (.hbToggle t) s (fun s' => s' = { s.at t with boot := { s.boot with hb := !s.boot.hb } })) ∧
    (s.boot.image = none → exec (.hbToggle t) s = .next (s.at t)) ∧
    Completes (.prsntNChange t true present) s (fun s' => s'.boot = { s.boot with peer := present } ∧
      (s.boot.straps.isSome = true → s'.get F.parStat_PEER_PRSNT [] = b2n present) ∧ (s.boot.straps = none → s'.regs = s.regs) ∧
      s.regsKept s' [Reg.off .parStat []]) ∧
    Completes (.prsntNChange t false present) s (fun s' => s'.boot.inserted = present ∧ s'.nv = s.nv ∧ s'.pending = s.pending ∧
      (present = true → s' = { s.at t with boot := { s.boot with inserted := true } }) ∧
      (present = false → s'.boot.began = none ∧ s'.hbm = [] ∧ s'.get F.glbStat_PHASE [] = 0)) ∧
    (s.boot.saving = none → exec (.saveComplete t) s = .next (s.at t)) ∧
    (∀ c, s.boot.saving = some c → Completes (.saveComplete t) s (fun s' => s'.boot = { s.boot with saving := none } ∧
      s'.nv = { s.nv with lpe := Tbl.put s.nv.lpe s.nv.olderCopy c } ∧ s'.get F.lpeStat_SAVE_BUSY [] = 0 ∧ s.regsKept s' [Reg.off .lpeStat []])))

/-- R33, R346, R348, R349, R357, Table 15.2: lease pair words and P0 records of the partner are taken where they are sound and its
own; a stored epoch is kept in the boot flash; P0 going down drops the record. The model's own choices in it:
notes/assumptions/83, 85. -/
def Obligations.LeaseWordsAndPartnerRecords : Prop :=
  ∀ (t : Sys2Proof.Tai) (w : BitVec 80) (r : P0Record) (offset : Int) (up : Bool) (s : Sys2Proof.Machine.State),
    let x := w.toNat
    let partner := s.get F.parCfg_PARTNER_ID []
    let bad := crc16 (leBytes 8 (x % 2 ^ 64)) ≠ bits x 64 16 ∨ 2 ≤ bits x 46 2 ∨ (bits x 32 14 ≠ s.modId ∧ bits x 32 14 ≠ partner)
    let near := nearX s.frame (bits x 48 16)
    let seen (s' : Sys2Proof.Machine.State) (epoch endX : Nat) (release : Bool) : Prop :=
      s'.pair.partnerEpoch = max s.pair.partnerEpoch epoch ∧ s'.pair.seenEpoch = max s.pair.seenEpoch epoch ∧
      s'.pair.seenAt = some s.frame ∧ s'.pair.lost = false ∧
      s'.pair.xs = (if release then s.pair.xs else max s.pair.xs endX) ∧ s'.pair.releaseX = (if release then some endX else none) ∧
      s'.get F.parLease_END [] = (if s.holder then s.get F.parLease_END [] else endX % 2 ^ 32) ∧
      s'.get F.parLease_EPOCH [] = s.get F.parLease_EPOCH []
    (bad → Completes (.leasePairWord t w) s (fun s' => s' = { s.at t with regs := s'.regs } ∧ s.regsKept s' [Reg.off .parCnt []] ∧
      s'.get F.parCnt_CRC_ERR [] = min (s.get F.parCnt_CRC_ERR [] + 1) 65535)) ∧
    (¬ bad → bits x 32 14 = s.modId → Completes (.leasePairWord t w) s (fun s' => s' = { s.at t with regs := s'.regs } ∧
      s.regsKept s' [Reg.off .parStat []] ∧ s'.get F.parStat_LEASE_PAIR_OK [] = 1)) ∧
    (¬ bad → bits x 32 14 ≠ s.modId → Completes (.leasePairWord t w) s (fun s' => s' = { s.at t with regs := s'.regs, pair := s'.pair } ∧
      s.regsKept s' [Reg.off .parStat [], Reg.off .parLease []] ∧ s'.get F.parStat_LEASE_PAIR_OK [] = 1 ∧
      seen s' (x % 2 ^ 32) near (decide (bits x 46 2 = 1)))) ∧
    (s.get F.parStat_P0_UP [] = 0 → exec (.p0PartnerRecord t r) s = .next (s.at t)) ∧
    (s.get F.parStat_P0_UP [] = 1 → r.modId = partner → r.renewal = false → r.release = false → Completes (.p0PartnerRecord t r) s (fun s' =>
      s' = { s.at t with pair := { s.pair with rec_ := some r, seenEpoch := max s.pair.seenEpoch r.epoch } })) ∧
    (s.get F.parStat_P0_UP [] = 1 → r.modId = partner → r.renewal = true ∨ r.release = true → Completes (.p0PartnerRecord t r) s (fun s' =>
      s'.pair.rec_ = some r ∧ s' = { s.at t with regs := s'.regs, pair := s'.pair } ∧ s.regsKept s' [Reg.off .parLease []] ∧
      seen s' r.epoch r.endX r.release)) ∧
    (s.get F.parStat_P0_UP [] = 1 → r.modId ≠ partner → r.modId ≠ s.modId → Completes (.p0PartnerRecord t r) s (fun s' =>
      s' = { s.at t with regs := s'.regs } ∧ s'.get F.parCnt_CRC_ERR [] = min (s.get F.parCnt_CRC_ERR [] + 1) 65535)) ∧
    (s.pair.storing = true → Completes (.leaseEpochStored t) s (fun s' => s'.nv = { s.nv with epoch := s.get F.parLease_EPOCH [] } ∧
      s'.pair = { s.pair with storing := false } ∧ s'.regs = s.regs)) ∧
    (s.pair.storing = false → exec (.leaseEpochStored t) s = .next (s.at t)) ∧
    (s.get F.parStat_P0_UP [] = b2n up → exec (.p0LinkChange t up) s = .next (s.at t)) ∧
    (s.get F.parStat_P0_UP [] ≠ b2n up → Completes (.p0LinkChange t up) s (fun s' => s'.get F.parStat_P0_UP [] = b2n up ∧
      s.regsKept s' (Reg.off .parStat [] :: noteOffs) ∧ s.unitsKept { s' with pair := s.pair } ∧
      s'.pair = if up then s.pair else { s.pair with rec_ := none, snapNext := none, transfer := s.pair.conf.isSome })) ∧
    exec (.p0TimeExchange t offset) s = .next (s.at t)

/-- R346, R348 to R351, R353: ACT falls at the end of the validity; a module may claim only once the validity it has seen has run out
past the guard, and then holds a fresh epoch; a holder that meets a higher epoch is fenced; a stale device is met by a fresh
epoch. The model's own choices in it: notes/assumptions/116, 127. -/
def Obligations.LeaseExpiryClaimAndFencing : Prop :=
  ∀ (t : Sys2Proof.Tai) (actIn4 : Bool) (s : Sys2Proof.Machine.State),
    let expired := s.get F.parCfg_MODE [] = 1 ∧ s.get F.parStat_ACT [] = 1 ∧ s.fab.tai0 + (s.pair.compX - s.frame) * s.tF ≤ t
    let live := ∃ n, s.pair.seenAt = some n ∧ s.frame ≤ n + s.get F.parCfg_DUR_F []
    let stale := ∃ b < 4, s.get F.fbErr_FENCED_DEV [b] = 1
    let fences := s.holder = true ∧ (s.get F.parLease_EPOCH [] < s.pair.partnerEpoch ∨ (stale ∧ (s.get F.parStat_ACT_IN [] = 1 ∨ live)))
    let lost := s.standby = true ∧ s.get F.parStat_ACT_IN [] = 1 ∧ s.pair.lost = false ∧ s.pair.xs + s.get F.parCfg_GUARD_F [] ≤ s.frame
    (expired → Completes (.leaseExpiry t) s (fun s' => s' = (s.at t).actFall ∧ (∀ p : Fin 4, (s'.pump p).phase = 0) ∧
      (∀ f : Fin 8, (s'.fan f).phase = 0) ∧ s'.get F.parStat_ACT [] = 0)) ∧
    (¬ expired → exec (.leaseExpiry t) s = .next (s.at t)) ∧
    (s.claimMay = true → s.get F.frmStat_TIME_VALID [] = 1 ∧ (s.get F.parStat_ACT_IN [] = 0 ∨ s.get F.parStat_PEER_PRSNT [] = 0) ∧
      (s.get F.parStat_ROLE [] = 4 ∨ (s.get F.parStat_ROLE [] = 3 ∧ s.get F.parCfg_CLAIM_INELIG [] = 1)) ∧
      (s.pair.xs + s.get F.parCfg_GUARD_F [] ≤ s.frame ∨
        ∃ x i, s.pair.releaseX = some x ∧ s.pair.img = some i ∧ x ≤ s.frame ∧ x ≤ i.frame + 2)) ∧
    (s.claimMay = true → t = s.fab.tai0 → s.rst.stopped = false → Completes (.claim t actIn4) s (fun s' =>
      let base := (s.at t).exerAbort
      let x := s.frame + s.get F.parCfg_DUR_F []
      ∃ w : Sys2Proof.Machine.State, w.get F.parStat_ROLE [] = 2 ∧ w.get F.parLease_EPOCH [] = (base.epochFloor + 1) % 2 ^ 32 ∧
        w.get F.parLease_END [] = x % 2 ^ 32 ∧ w.pair.compX = x ∧ w.pair.stopped = false ∧
        (let u := (w.claimAct.at (t + 5000)).set F.parStat_ACT_IN [] (b2n actIn4)
         let v := if actIn4 = true ∧ u.get F.parCfg_PARTNER_ID [] < u.modId then u.becomeFenced else u.claimed_ (decide (s.get F.parStat_ROLE [] = 4))
         s' = { v with pair := { v.pair with img := none, snapNext := none, imgSeen := none, inbox := [], tol := [] } }))) ∧
    (s.claimMay = false ∨ t ≠ s.fab.tai0 ∨ s.rst.stopped = true → exec (.claim t actIn4) s = .next (s.at t)) ∧
    (lost → Completes (.pathsLost t) s (fun s' => s'.get F.parStat_PATHS_LOST [] = 1 ∧ s'.pair = { s.pair with lost := true } ∧
      s.regsKept s' (Reg.off .parStat [] :: noteOffs) ∧ s.unitsKept { s' with pair := s.pair })) ∧
    (¬ lost → exec (.pathsLost t) s = .next (s.at t)) ∧
    (fences → Completes (.fence t) s (fun s' => s' = (s.at t).becomeFenced ∧ s'.runs = [] ∧ s'.pair.stopped = true ∧ s'.pair.handover = none ∧
      (∀ p : Fin 4, (s'.pump p).phase = 0) ∧ (∀ f : Fin 8, (s'.fan f).phase = 0) ∧ ∀ x ∈ s.fab.tus.map Prod.fst, (s'.tus x).stopped = true)) ∧
    (¬ fences → exec (.fence t) s = .next (s.at t)) ∧
    (s.holder = true → stale → s.get F.parStat_ACT_IN [] = 0 → ¬ live → Completes (.reepoch t) s (fun s' =>
      s' = { s.at t with pair := { s.pair with reepoch := true } })) ∧
    (s.holder = false ∨ ¬ stale ∨ s.get F.parStat_ACT_IN [] = 1 ∨ live → exec (.reepoch t) s = .next (s.at t))

/-- R354, R360, R361, R391, Table 15.10: a handover releases the lease in its frame and ACT in the next; the in-place exercise ends
with its result; a standby's configuration transfer is asked for and taken as one change. The model's own choices in it:
notes/assumptions/84, 115, 127. -/
def Obligations.HandoverExerciseAndTransfer : Prop :=
  ∀ (t : Sys2Proof.Tai) (failed : Fin 7) (c : ConfigTransfer) (s : Sys2Proof.Machine.State),
    let ripe := s.get F.parStat_ROLE [] = 2 ∧ ∃ e, s.pair.handover = some e ∧ e < s.frame
    let auto := s.handoverMay = true ∧ s.get F.parCfg_AUTO_HANDOVER [] = 1 ∧ ∃ q, s.rolePlan .control = some q ∧ s.get F.plnPart_NO_PLACE [q.partition] ≠ 0
    let asks := s.get F.parStat_ROLE [] = 3 ∧ s.get F.parStat_P0_UP [] = 1 ∧ s.pair.transfer = false
    let takes := s.pair.transfer = true ∧ s.pair.conf = none ∧ s.standby = true
    let old := ∀ a, s.pair.passAt = some a → a + s.get F.parCfg_EXER_DAYS [] * 86400000000000 < t
    (s.pair.handover = some s.frame → s.get F.parStat_ROLE [] = 2 → Completes (.handoverFrame t) s (fun s' => s'.runs = [] ∧
      s'.pair.stopped = true ∧ (∃ e, s'.pair.word = some (s.frame + 1, e)) ∧ s'.get F.parLease_END [] = (s.frame + 1) % 2 ^ 32 ∧
      (∃ e, Output.leaseWord (s.frame + 1) e ∈ s'.out) ∧ s'.hbm = s.hbm ∧ s'.pair.handover = s.pair.handover)) ∧
    (s.pair.handover ≠ some s.frame ∨ s.get F.parStat_ROLE [] ≠ 2 → exec (.handoverFrame t) s = .next (s.at t)) ∧
    (ripe → Completes (.handoverActFall t) s (fun s' => s'.get F.parStat_ROLE [] = 3 ∧ s'.get F.parStat_HANDOVER_PEND [] = 0 ∧
      s'.get F.parStat_CLEAN_F [] = 0 ∧ s'.pair.handover = none ∧ s'.pair.seenAt.isSome = true ∧ (∀ p : Fin 4, (s'.pump p).phase = 0) ∧
      (∀ f : Fin 8, (s'.fan f).phase = 0) ∧
      s'.get F.parStat_ACT [] = 0 ∧ s'.pair.xs = s.get F.parLease_END [])) ∧
    (¬ ripe → exec (.handoverActFall t) s = .next (s.at t)) ∧
    (auto → Completes (.autoHandoverRequest t) s (fun s' => s'.pair = { s.pair with handover := some (s.frame + 2) } ∧
      s'.get F.parStat_HANDOVER_PEND [] = 1 ∧ s.unitsKept { s' with pair := s.pair } ∧ s.regsKept s' (Reg.off .parStat [] :: noteOffs))) ∧
    (¬ auto → exec (.autoHandoverRequest t) s = .next (s.at t)) ∧
    (s.get F.parExer_BUSY [] = 0 → exec (.exerciseAbort t) s = .next (s.at t) ∧ exec (.exerciseComplete t failed) s = .next (s.at t)) ∧
    (s.get F.parExer_BUSY [] = 1 →
      Completes (.exerciseAbort t) s (fun s' => s'.get F.parExer_BUSY [] = 0 ∧ s'.get F.parExer_FAIL [] = 1 ∧ s'.pair.exerEff = [] ∧
        s'.pair.passAt = s.pair.passAt ∧ ∀ b : Fin 4, (s'.bus b).test = none) ∧
      Completes (.exerciseComplete t failed) s (fun s' => s'.get F.parExer_BUSY [] = 0 ∧ s'.get F.parExer_STEP [] = failed.val ∧
        s'.pair.exerEff = [] ∧ (∀ b : Fin 4, (s'.bus b).test = none) ∧
        (failed.val = 0 → s'.get F.parExer_PASS [] = 1 ∧ s'.get F.parExer_AGE_H [] = 0 ∧ s'.get F.parStat_EXER_DUE [] = 0 ∧ s'.pair.passAt = some t) ∧
        (failed.val ≠ 0 → s'.get F.parExer_FAIL [] = 1 ∧ s'.pair.passAt = s.pair.passAt))) ∧
    Completes (.exerDue t) s (fun s' => s' = { s.at t with regs := s'.regs } ∧ s.regsKept s' [Reg.off .parExer [], Reg.off .parStat []] ∧
      (old → s'.get F.parStat_EXER_DUE [] = 1) ∧ (¬ old → s'.get F.parStat_EXER_DUE [] = s.get F.parStat_EXER_DUE []) ∧
      ∀ a, s.pair.passAt = some a → s'.get F.parExer_AGE_H [] = min 0xFFFFFFFF ((t - a) / 3600000000000)) ∧
    (asks → Completes (.configTransferRequest t) s (fun s' =>
      s' = { s.at t with pair := { s.pair with transfer := true }, out := [.p0Request 1] })) ∧
    (¬ asks → exec (.configTransferRequest t) s = .next (s.at t)) ∧
    (takes → Completes (.configTransferComplete t c) s (fun s' => ∃ u : Sys2Proof.Machine.State,
      (∃ q, u = (c.writes.foldl (Sys2Proof.Machine.State.confWrite q) (s.at t)).saveStart ∧ q.rank = 3 ∧ q.requester = s.get F.parCfg_PARTNER_ID []) ∧
      (c.set = none → s' = u.confDone) ∧
      (∀ img, c.set = some img → u.pln.inForce.any (fun o => decide (o.setId = img.setId ∧ o.digest = img.digest)) = true → s' = u.confForce c) ∧
      (∀ img, c.set = some img → u.pln.inForce.any (fun o => decide (o.setId = img.setId ∧ o.digest = img.digest)) = false → s' = u.confStage c img))) ∧
    (¬ takes → exec (.configTransferComplete t c) s = .next (s.at t)) ∧
    s.confDone = { s with pair := { s.pair with transfer := false, conf := none } }

/-- R394, R396, R397, R399 to R402, Table 17.6: a comparator becomes active once its condition has held for QUAL_MS and inactive at
the second clear instant; its response decides, holds, and is released with every action, once nothing keeps it. The model's own
choices in it: notes/assumptions/66, 97. -/
def Obligations.ComparatorsAndResponses : Prop :=
  ∀ (t : Sys2Proof.Tai) (c : Fin 32) (j : Fin 8) (s : Sys2Proof.Machine.State),
    let r := s.get F.prtTripCfg_RESP [c]
    let ripe := s.get F.prtTripCfg_EN [c] = 1 ∧ s.get F.prtTripStat_ACTIVE [c] = 0 ∧
      ∃ a, Tbl.find s.prt.since c = some a ∧ a + 1000000 * s.get F.prtTripCfg_QUAL_MS [c] ≤ t
    let clears := s.get F.prtTripStat_ACTIVE [c] = 1 ∧ bitAt s.prt.clear c = true
    let due := bitAt (s.get F.prtStat_HOLD []) j = true ∧ s.namedBy j = false ∧ bitAt s.prt.latch j = false ∧ Tbl.at s.prt.holdEnd j 0 ≤ t
    (ripe → Completes (.comparatorActivation t c) s (fun s' => s'.get F.prtTripStat_ACTIVE [c] = 1 ∧
      bitAt (s'.get F.prtStat_ACTIVE []) c = true ∧ s'.get F.prtTripStat_TRIPS [c] = min (s.get F.prtTripStat_TRIPS [c] + 1) 65535 ∧
      s'.get F.prtTripStat_LAST [c] = s.frame % 2 ^ 32 ∧
      (∀ q < 32, q ≠ c.val → bitAt (s'.get F.prtStat_ACTIVE []) q = bitAt (s.get F.prtStat_ACTIVE []) q) ∧
      (s.get F.prtRespCfg_EN [r] = 1 → bitAt (s'.get F.prtStat_HOLD []) r = true ∧ s'.get F.prtStat_ANY [] = 1 ∧
        (s.get F.prtRespCfg_LATCH [r] = 1 → bitAt s'.prt.latch r = true)) ∧
      (s.get F.prtRespCfg_EN [r] = 0 → s'.get F.prtStat_HOLD [] = s.get F.prtStat_HOLD [] ∧ s.unitsKept s'))) ∧
    (¬ ripe → exec (.comparatorActivation t c) s = .next (s.at t)) ∧
    (clears → Completes (.comparatorClear t c) s (fun s' => s'.get F.prtTripStat_ACTIVE [c] = 0 ∧
      (∀ q < 32, bitAt (s'.get F.prtStat_ACTIVE []) q = (bitAt (s.get F.prtStat_ACTIVE []) q && decide (q ≠ c.val))) ∧
      s'.get F.prtStat_HOLD [] = s.get F.prtStat_HOLD [] ∧
      (s'.namedBy r = false → Tbl.find s'.prt.holdEnd r = some (t + 1000000 * s.get F.prtRespCfg_HOLD_MS [r])) ∧
      s.unitsKept { s' with prt := s.prt } ∧ s.regsKept s' (Reg.off .prtTripStat [c] :: Reg.off .prtStat [] :: noteOffs))) ∧
    (¬ clears → exec (.comparatorClear t c) s = .next (s.at t)) ∧
    (due → Completes (.responseRelease t j) s (fun s' => bitAt (s'.get F.prtStat_HOLD []) j = false ∧ bitAt s'.prt.latch j = false ∧
      (∀ q < 8, q ≠ j.val → bitAt (s'.get F.prtStat_HOLD []) q = bitAt (s.get F.prtStat_HOLD []) q) ∧
      ∀ e ∈ s'.prt.caps, e.1 / 1024 ≠ j.val)) ∧
    (¬ due → Completes (.responseRelease t j) s (fun s' => s' = (s.at t).prtFlags ∧ s.regsKept s' [Reg.off .prtStat []] ∧
      s'.get F.prtStat_HOLD [] = s.get F.prtStat_HOLD [])) ∧
    Completes (.comparatorEval t) s (fun s' => s' = (List.range 8).foldl (fun (u : Sys2Proof.Machine.State) k => if u.releaseDue k then u.endResponse k else u)
      ((List.range 32).foldl (Sys2Proof.Machine.State.tripEval s.drawn) (s.at t).draw).rearmEval.prtFlags) ∧
    (∀ raw, (s.get F.prtTripCfg_EN [c] = 0 ∨ s.get F.prtTripCfg_KIND [c] = 0 → s.tripEval raw c = s) ∧
      (s.get F.prtTripCfg_EN [c] = 1 → s.get F.prtTripCfg_KIND [c] ≠ 0 →
        let x := s.tripSource (s.get F.prtTripCfg_KIND [c]) (s.get F.prtTripCfg_IDX [c]) raw
        let lo := s.getI F.prtTripLim_LO [c]
        let hi := s.getI F.prtTripLim_HI [c]
        let cond := tripCond (s.on F.prtTripCfg_MODE [c]) (s.on F.prtTripCfg_FLT_ACT [c]) lo hi x.1 x.2
        (s.tripEval raw c).get F.prtTripStat_COND [c] = b2n cond ∧ (s.tripEval raw c).get F.prtTripStat_SRC_FLT [c] = b2n x.2 ∧
        (x.2 = true → cond = s.on F.prtTripCfg_FLT_ACT [c]) ∧
        (x.2 = false → s.get F.prtTripCfg_MODE [c] = 0 → (cond = true ↔ x.1 < lo ∨ hi < x.1)) ∧
        (x.2 = false → s.get F.prtTripCfg_MODE [c] = 1 → (cond = true ↔ lo ≤ x.1 ∧ x.1 ≤ hi)) ∧
        (s.get F.prtTripStat_ACTIVE [c] = 1 → bitAt s.prt.clear c = false ∨ x.2 = true → (s.tripEval raw c).get F.prtTripStat_ACTIVE [c] = 1) ∧
        (s.get F.prtTripStat_ACTIVE [c] = 0 → cond = false → (s.tripEval raw c).get F.prtTripStat_ACTIVE [c] = 0)))

/-- R72, R82, R171, R376, R402, R405, Table 17.4: the module-cooling state follows the readings, up as soon as a condition has held
its time, down by one state at a time; memory errors are counted, retire tussocks and are logged. The model's own choices in it:
notes/assumptions/67, 93, 144. -/
def Obligations.CoolingStatesAndErrors : Prop :=
  ∀ (t : Sys2Proof.Tai) (die inlet : Nat) (i : Fin 256) (h : Fin 32) (p : Fin 8) (off : Nat) (s : Sys2Proof.Machine.State),
    (∀ r ∈ s.runs, r.part < 8) →
    let st := s.get F.prtMcStat_STATE []
    let pos := bits (s.get F.humMap_LOG [hummockOf i]) (4 * (i.val % 8)) 4
    let site := 9 * hummockOf i + pos
    let counted (s' : Sys2Proof.Machine.State) : Prop := s'.get F.obsUe_COUNT [] = min (s.get F.obsUe_COUNT [] + 1) 65535
    let retires (s' : Sys2Proof.Machine.State) : Prop := s'.retired i = true ∧ (s.retired i = false → (s'.tus i).stopped = true ∧
      s'.get F.glbStat_USABLE [] = s.get F.glbStat_USABLE [] - 1 ∧
      ∀ q, s.plans.find? (fun q => bitAt q.hummocks (hummockOf i)) = some q → Tbl.find s'.pln.holds q.partition = some t ∧
        ∀ r ∈ s'.runs, r.part ≠ q.partition)
    Completes (.moduleCoolingState t die inlet) s (fun s' =>
      s'.get F.prtMcStat_DIE_C [] = min die 255 ∧ s'.get F.prtMcStat_INLET [] = min inlet 255 ∧
      (4 ≤ st → s'.get F.prtMcStat_STATE [] = st) ∧ st - 1 ≤ s'.get F.prtMcStat_STATE [] ∧
      (∀ k a, st < 4 → 1 ≤ k → k ≤ 3 → s.mcCond k 0 die inlet = true → Tbl.find s.prt.mcSince k = some a → a + mcTime k ≤ t →
        k ≤ max st (s'.get F.prtMcStat_STATE [])) ∧
      (Tbl.wf s.prt.mcSince = true → st < s'.get F.prtMcStat_STATE [] → s.mcCond (s'.get F.prtMcStat_STATE []) 0 die inlet = true)) ∧
    Completes (.uncorrectableError t (.localSram i off)) s (fun s' => counted s' ∧ retires s' ∧ s'.get F.obsUe_KIND [] = 1 ∧
      s'.get F.obsUe_ADDR [] = off % 2 ^ 21 + 2 ^ 21 * i.val) ∧
    Completes (.uncorrectableError t (.store i)) s (fun s' => counted s' ∧ retires s' ∧ s'.get F.obsUe_KIND [] = s.get F.obsUe_KIND [] ∧
      s'.get F.obsUe_ADDR [] = s.get F.obsUe_ADDR []) ∧
    Completes (.uncorrectableError t (.hummockSram h off p)) s (fun s' => counted s' ∧ s'.get F.obsUe_KIND [] = 2 ∧
      s'.get F.obsUe_ADDR [] = off % 2 ^ 22 + 2 ^ 22 * h.val ∧ s'.runs = s.runs.filter (fun r => !decide (r.part = p.val))) ∧
    Completes (.uncorrectableError t (.hbm off p)) s (fun s' => counted s' ∧ s'.get F.obsUe_KIND [] = 3 ∧
      s'.get F.obsUe_ADDR [] = off % 2 ^ 38 / 4096 * 4096 ∧ s'.runs = s.runs.filter (fun r => !decide (r.part = p.val))) ∧
    (s.retired i = true → pos ≤ 8 → site ∉ s.nv.log → Completes (.retirementLogWrite t i) s (fun s' =>
      s' = { s.at t with nv := { s.nv with log := s.nv.log ++ [site] } })) ∧
    (s.retired i = false ∨ 8 < pos ∨ site ∈ s.nv.log → exec (.retirementLogWrite t i) s = .next (s.at t)) ∧
    Completes (.correctedError t (some i)) s (fun s' => s'.get F.obsMem_SRAM_CE [] = min (s.get F.obsMem_SRAM_CE [] + 1) (2 ^ 32 - 1) ∧
      s'.tus i = { s.tus i with corrected := (s.tus i).corrected + 1 } ∧ s.regsKept s' [Reg.off .obsMem []]) ∧
    Completes (.correctedError t none) s (fun s' => s'.get F.obsMem_SRAM_CE [] = min (s.get F.obsMem_SRAM_CE [] + 1) (2 ^ 32 - 1) ∧
      s' = { s.at t with regs := s'.regs } ∧ s.regsKept s' [Reg.off .obsMem []]) ∧
    Completes (.hbmReread t) s (fun s' => s'.get F.obsMem_HBM_RR [] = min (s.get F.obsMem_HBM_RR [] + 1) (2 ^ 32 - 1) ∧
      s' = { s.at t with regs := s'.regs } ∧ s.regsKept s' [Reg.off .obsMem []])

/-- R61, R62, R149, R363 to R366, Table 15.6: the module follows the domain time, is admitted or refused and admits others, hears and
delivers boundary records, and loses and regains links and positions. The model's own choices in it: notes/assumptions/45, 85, 86,
87, 88, 145. -/
def Obligations.DomainMembershipAndRecords : Prop :=
  ∀ (t : Sys2Proof.Tai) (x : DomainTime) (port : Fin 4) (pos : Fin 16) (d : List Byte) (s : Sys2Proof.Machine.State),
    let st := s.get F.parDomStat_STATE []
    let was := (s.getI F.parDomStat_OFFSET []).natAbs
    let loses := s.get F.parDomMemb_PRESENT [pos] = 1 ∧ s.get F.parDomMemb_LOST [pos] = 0 ∧ pos.val ≠ s.get F.parDomCfg_POS []
    let alone := st = 1 ∧ s.dom.join = none ∧ s.dom.links = 0 ∧ ∃ a, s.dom.askAt = some a ∧ a + 1000000000 ≤ t
    (st ≠ 2 → exec (.domainTimeExchange t x) s = .next (s.at t) ∧ exec (.boundaryRecordArrival t port d) s = .next (s.at t)) ∧
    (st = 2 → Completes (.domainTimeExchange t x) s (fun s' =>
      s'.getI F.parDomStat_OFFSET [] = satI 16 x.offset ∧ s'.get F.parDomStat_STATE [] = 2 ∧
      s'.get F.parDomStat_ALIGN_ERR [] = (if 50 < x.offset.natAbs then 1 else s.get F.parDomStat_ALIGN_ERR []) ∧
      s'.get F.parDomStat_ALIGN_CNT [] = (if 50 < x.offset.natAbs ∧ was ≤ 50 then min (s.get F.parDomStat_ALIGN_CNT [] + 1) 65535
        else s.get F.parDomStat_ALIGN_CNT []) ∧
      s'.dom = { s.dom with heard := some x, leaveAt := if 1000 < x.offset.natAbs then some (s.dom.leaveAt.getD t) else s.dom.leaveAt } ∧
      s.regsKept s' (Reg.off .parDomStat [] :: noteOffs) ∧ s.unitsKept { s' with dom := s.dom })) ∧
    (∀ code count epoch,
      (st ≠ 1 ∨ s.dom.join.isSome = true → exec (.domainAdmission t (.answer code count epoch)) s = .next (s.at t)) ∧
      (st = 1 → s.dom.join = none → code ≠ 0 → Completes (.domainAdmission t (.answer code count epoch)) s (fun s' =>
        s'.get F.parDomStat_STATE [] = 3 ∧ s'.get F.parDomStat_REFUSE [] = code % 16 ∧ s'.dom = { s.dom with askAt := none, join := none })) ∧
      (st = 1 → s.dom.join = none → code = 0 → Completes (.domainAdmission t (.answer code count epoch)) s (fun s' =>
        s' = { s.at t with dom := { s.dom with join := some (t, count, epoch), askAt := none } }))) ∧
    (∀ m p q k e l,
      let code := s.admission m p q k e l
      (st ≠ 2 ∨ s.get F.parDomStat_REFERENCE [] = 0 ∨ 16 ≤ q → exec (.domainAdmission t (.request m p q k e l)) s = .next (s.at t)) ∧
      (st = 2 → s.get F.parDomStat_REFERENCE [] = 1 → q < 16 → Completes (.domainAdmission t (.request m p q k e l)) s (fun s' =>
        s'.out = [.domain (.answer code s.frame (s.get F.frmEpoch_EPOCH []))] ∧ s'.regs = s.regs ∧
        s'.dom = if code = 0 then { s.dom with admits := s.dom.admits ++ [(q, m, p, t)] } else s.dom)) ∧
      (code = 3 → k ≠ s.get F.frmStat_PERIOD_K [] ∨ e ≠ s.get F.frmStat_EPOCH_M []) ∧ (code = 5 → l ≠ s.get F.parDomCfg_REC_LEN []) ∧
      (s.heldByPair p m q = true → code ≠ 1) ∧
      (code = 0 → k = s.get F.frmStat_PERIOD_K [] ∧ e = s.get F.frmStat_EPOCH_M [] ∧ l = s.get F.parDomCfg_REC_LEN [])) ∧
    (st = 2 → Completes (.boundaryRecordArrival t port d) s (fun s' => s' = (((s.at t).hear d).relayOn port d).deliver port d ∧ s'.hbm = s.hbm ∧
      (s.farPos (d.getD 2 0).toNat = true → (s.at t).hear d = s.at t))) ∧
    (∀ b, s.fab.recv.find? (fun r => decide (r.port = port.val)) = some b → (s.tus b.tus).inReset = false →
      (s.deliver port d).fab.recv = s.fab.recv.erase b ∧
      ((s.deliver port d).tus b.tus).sram = (if b.write then Mem.setBytes (s.tus b.tus).sram b.addr ((s.fresh d).take b.len) else (s.tus b.tus).sram) ∧
      (s.deliver port d).fab.msgs = s.fab.msgs ++ [⟨s.reaches (s.clockAt s.now) (hummockOf b.tus) b.slu, b.slu, .signal⟩] ∧
      (s.deliver port d).get F.obsSlu_TRUNC [] = (if b.len < d.length then min (s.get F.obsSlu_TRUNC [] + 1) (2 ^ F.obsSlu_TRUNC.width - 1)
        else s.get F.obsSlu_TRUNC [])) ∧
    (s.fab.recv.find? (fun r => decide (r.port = port.val)) = none → s.deliver port d = s) ∧
    s.fresh d = (if s.farPos (d.getD 2 0).toNat then d.set 3 (d.getD 3 0 ||| 1) else d) ∧
    (s.domDiffers = true ↔ st = 2 ∧ s.get F.parDomStat_REFERENCE [] = 0 ∧
      ∃ y, s.dom.heard = some y ∧ (y.periodK ≠ s.get F.frmStat_PERIOD_K [] ∨ y.epochM ≠ s.get F.frmStat_EPOCH_M [])) ∧
    (bitAt s.dom.links port = false → exec (.domainLinkDown t port) s = .next (s.at t)) ∧
    (bitAt s.dom.links port = true → Completes (.domainLinkDown t port) s (fun s' =>
      (∀ p < 4, bitAt s'.dom.links p = (bitAt s.dom.links p && decide (p ≠ port.val))) ∧ s.regsKept s' noteOffs ∧ s.unitsKept { s' with dom := s.dom })) ∧
    (bitAt s.dom.links port = true → exec (.domainLinkUp t port) s = .next (s.at t)) ∧
    (bitAt s.dom.links port = false → Completes (.domainLinkUp t port) s (fun s' =>
      (∀ p < 4, bitAt s'.dom.links p = (bitAt s.dom.links p || decide (p = port.val))) ∧ s.regsKept s' noteOffs ∧ s.unitsKept { s' with dom := s.dom })) ∧
    (loses → Completes (.positionLost t pos) s (fun s' => s'.get F.parDomMemb_LOST [pos] = 1 ∧ s'.get F.parDomMemb_PRESENT [pos] = 1 ∧
      s'.dom = { s.dom with back := Tbl.del s.dom.back pos } ∧ s.regsKept s' (Reg.off .parDomMemb [pos] :: noteOffs))) ∧
    (¬ loses → exec (.positionLost t pos) s = .next (s.at t)) ∧
    (alone → Completes (.domainJoinNoLink t) s (fun s' => s'.get F.parDomStat_STATE [] = 3 ∧ s'.get F.parDomStat_REFUSE [] = 6 ∧
      s'.dom = { s.dom with askAt := none, join := none } ∧ s.regsKept s' (Reg.off .parDomStat [] :: noteOffs))) ∧
    (¬ alone → exec (.domainJoinNoLink t) s = .next (s.at t))

/-- R327, R328, R440, Tables 14.6 and 19.3: the command ring's entries are taken while it runs, wrong ones answered with their code; a
trace record goes to ring 2, waits behind journal entries that are due, or is capped or lost. R321, R322, R327, R328, R333 to
R335, R337: the rings, the events lost, the journal's copy, moderated vectors, the heartbeat and the PCIe function. The model's
own choices in it: notes/assumptions/32, 34, 102, 121, 151. -/
def Obligations.HostRingsVectorsAndTrace : Prop :=
  (∀ (t : Sys2Proof.Tai) (prod : Nat) (l : List Unit64) (r : TraceRec) (s : Sys2Proof.Machine.State),
    let cons := s.get F.hstRingCons_CONS [0]
    let n := (prod + 2 ^ 32 - cons) % 2 ^ 32
    (bitAt (s.get F.jrnGrant_PCIE []) 0 = false → Completes (.commandRingProd t prod l) s (fun s' => s.unitsKept s' ∧
      s'.get F.hstStat_BAD_WR [] = min (s.get F.hstStat_BAD_WR [] + 1) (2 ^ F.hstStat_BAD_WR.width - 1) ∧
      s.regsKept s' (Reg.off .hstStat [] :: noteOffs))) ∧
    (bitAt (s.get F.jrnGrant_PCIE []) 0 = true → s.ringSize 0 < n → Completes (.commandRingProd t prod l) s (fun s' =>
      s' = { s.at t with regs := s'.regs } ∧ s.regsKept s' [Reg.off .hstStat []] ∧
      s'.get F.hstStat_BAD_WR [] = min (s.get F.hstStat_BAD_WR [] + 1) (2 ^ F.hstStat_BAD_WR.width - 1))) ∧
    (bitAt (s.get F.jrnGrant_PCIE []) 0 = true → n ≤ s.ringSize 0 → s.get F.hstRingCfg_EN [0] = 0 → Completes (.commandRingProd t prod l) s (fun s' =>
      s' = { s.at t with regs := s'.regs } ∧ s.regsKept s' [Reg.off .hstRingProd [0]] ∧ s'.get F.hstRingProd_PROD [0] = prod % 2 ^ 32)) ∧
    (bitAt (s.get F.jrnGrant_PCIE []) 0 = true → n ≤ s.ringSize 0 → s.get F.hstRingCfg_EN [0] = 1 → Completes (.commandRingProd t prod l) s (fun s' =>
      s.unitsKept s' ∧ s'.get F.hstRingProd_PROD [0] = prod % 2 ^ 32 ∧ s'.get F.hstRingCons_CONS [0] = (cons + min n l.length) % 2 ^ 32 ∧
      s.regsKept s' (Reg.off .hstRingProd [0] :: Reg.off .hstRingCons [0] :: noteOffs) ∧
      (min n l.length ≠ 0 → s'.out.head? = some (.writeBack 0 ((cons + min n l.length) % 2 ^ 32))))) ∧
    (∀ e : Unit64, opKnown (bits e.toNat 0 8) = false → entryFault e = some cUnknown) ∧
    (∀ e : Unit64, entryFault e = none → opKnown (bits e.toNat 0 8) = true ∧ bits e.toNat 64 64 % 64 = 0 ∧
      (bits e.toNat 0 8 ≠ 2 → bits e.toNat 8 8 = 0) ∧ (bits e.toNat 0 8 = 2 → 1 ≤ bits e.toNat 8 8 ∧ bits e.toNat 8 8 ≤ 3)) ∧
    (s.traceWanted r = false → exec (.traceRecord t r) s = .next (s.at t)) ∧
    (s.traceWanted r = true → s.get F.obsCfg_TRACE_MAX [] ≤ s.rcd.traced → Completes (.traceRecord t r) s (fun s' =>
      s' = { s.at t with regs := s'.regs } ∧ s'.get F.obsTrace_CAPPED [] = min (s.get F.obsTrace_CAPPED [] + 1) (2 ^ F.obsTrace_CAPPED.width - 1))) ∧
    (s.traceWanted r = true → s.rcd.traced < s.get F.obsCfg_TRACE_MAX [] → Completes (.traceRecord t r) s (fun s' =>
      s'.rcd = { s.rcd with traced := s.rcd.traced + 1 } ∧
      s'.get F.obsTrace_GENERATED [] = min (s.get F.obsTrace_GENERATED [] + 1) (2 ^ F.obsTrace_GENERATED.width - 1) ∧
      (s.get F.hstRingCfg_EN [2] = 0 → s'.out = [] ∧ s'.hst = s.hst) ∧
      (s.get F.hstRingCfg_EN [2] = 1 → s.ringFree 2 = 0 ∨ 4096 ≤ s.hst.traces.length → s'.out = [] ∧ s'.hst = s.hst ∧
        s'.get F.hstRingCnt_LOST [2] = min (s.get F.hstRingCnt_LOST [2] + 1) (2 ^ F.hstRingCnt_LOST.width - 1)) ∧
      (s.get F.hstRingCfg_EN [2] = 1 → s.ringFree 2 ≠ 0 → s.hst.traces.length < 4096 →
        (s.journalDue = true → s'.out = [] ∧ s'.hst = { s.hst with traces := s.hst.traces ++ [s.traceBytes r] }) ∧
        (s.journalDue = false → s'.hst.traces = [] ∧ (s.hst.traces = [] →
          s'.get F.hstRingProd_PROD [2] = (s.get F.hstRingProd_PROD [2] + 1) % 2 ^ 32 ∧
          s'.out.head? = some (.ringWrite 2 (s.get F.hstRingProd_PROD [2] % s.ringSize 2) (s.traceBytes r)))))))) ∧
  (∀ (t : Sys2Proof.Tai) (i : Fin 4) (vec : Fin 8) (n : Nat) (tag : BitVec 16) (v : BitVec 32) (s : Sys2Proof.Machine.State),
    let prod := s.get F.hstRingProd_PROD [i]
    let old := s.get F.hstRingCons_CONS [i]
    let moved := (n + 2 ^ 32 - old) % 2 ^ 32
    let badCons := 2 ^ 32 ≤ n ∨ (prod + 2 ^ 32 - old) % 2 ^ 32 < moved
    let due := Tbl.at s.hst.lastVec vec 0 + 1000 * s.get F.hstVecMod_MIN_US [vec] ≤ t
    let cut := s.get F.hstStat_LINK [] = 0 ∨ s.hst.nonD0 = true
    let batch := (s.jrn.held.filter (fun e => decide (s.jrn.copied ≤ e.seq ∧ e.seq < s.jrn.released))).take (s.ringFree 3)
    (i.val = 0 → exec (.ringCons t i n) s = .next (s.at t)) ∧
    (i.val ≠ 0 → badCons → Completes (.ringCons t i n) s (fun s' => s' = { s.at t with regs := s'.regs } ∧ s.regsKept s' [Reg.off .hstStat []] ∧
      s'.get F.hstStat_BAD_WR [] = min (s.get F.hstStat_BAD_WR [] + 1) (2 ^ F.hstStat_BAD_WR.width - 1))) ∧
    (i.val ≠ 0 → ¬ badCons → Completes (.ringCons t i n) s (fun s' => s'.get F.hstRingCons_CONS [i] = n ∧
      (i.val ≠ 3 → s' = { s.at t with regs := s'.regs } ∧ s.regsKept s' [Reg.off .hstRingCons [i]]) ∧
      (i.val = 3 → s'.jrn = { s.jrn with held := s.jrn.held.drop moved } ∧
        s'.get F.jrnOldest_SEQ [] = (((s.jrn.held.drop moved).head?.map JEntry.seq).getD s.jrn.next) % 2 ^ F.jrnOldest_SEQ.width))) ∧
    (s.get F.hstRingCfg_EN [i] = 0 → exec (.ringDmaFail t i) s = .next (s.at t)) ∧
    (s.get F.hstRingCfg_EN [i] = 1 → Completes (.ringDmaFail t i) s (fun s' => s'.get F.hstRingCfg_EN [i] = 0 ∧
      (i.val ≠ 1 → s'.get F.hstRingCnt_DMA_ERR [i] = min (s.get F.hstRingCnt_DMA_ERR [i] + 1) (2 ^ F.hstRingCnt_DMA_ERR.width - 1)) ∧
      s.regsKept s' (Reg.off .hstRingCfg [i] :: Reg.off .hstRingCnt [i] :: noteOffs) ∧ s.unitsKept s')) ∧
    Completes (.eventLostReport t) s (fun s' => s.regsKept s' noteOffs ∧ s.unitsKept s' ∧
      (s.hst.lostSince ≠ 0 → s.get F.hstRingCfg_EN [1] = 1 → s.ringFree 1 ≠ 0 → s'.hst.lostSince = 0 ∧
        s'.out.head? = some (.ringWrite 1 (s.get F.hstRingProd_PROD [1] % s.ringSize 1) ((s.at t).eventBytes 4 1 8 0xA700 s.hst.lostSince))) ∧
      (s.hst.lostSince = 0 ∨ s.get F.hstRingCfg_EN [1] = 0 ∨ s.ringFree 1 = 0 → s' = s.at t)) ∧
    (s.get F.hstRingCfg_EN [3] = 0 ∨ batch = [] → exec (.journalCopy t) s = .next (s.at t)) ∧
    (s.get F.hstRingCfg_EN [3] = 1 → batch ≠ [] → Completes (.journalCopy t) s (fun s' =>
      s'.jrn = { s.jrn with copied := s.jrn.copied + batch.length } ∧
      s'.get F.hstRingProd_PROD [3] = (s.get F.hstRingProd_PROD [3] + batch.length) % 2 ^ 32 ∧
      (∀ k, k < batch.length → s'.out[k]? = (batch[k]?).map (fun e =>
        Output.ringWrite 3 ((s.get F.hstRingProd_PROD [3] + k) % 2 ^ 32 % s.ringSize 3) e.bytes)))) ∧
    (s.hst.deferred.contains vec.val = true → due → Completes (.vectorModerationExpiry t vec) s (fun s' =>
      vec.val ∉ s'.hst.deferred ∧ Tbl.find s'.hst.lastVec vec = some t ∧
      (s.get F.hstMsixData_MASK [vec] = 0 → s'.out = [.msix vec] ∧ s'.regs = s.regs) ∧
      (s.get F.hstMsixData_MASK [vec] = 1 → s'.out = [] ∧ bitAt (s'.get F.hstMsixPba_PENDING []) vec = true))) ∧
    (s.hst.deferred.contains vec.val = false ∨ ¬ due → exec (.vectorModerationExpiry t vec) s = .next (s.at t)) ∧
    Completes (.nop t tag) s (fun s' => s.unitsKept s' ∧ s.regsKept s' noteOffs ∧ s' = (s.at t).hostEvent 1 0 tag.toNat 0 0) ∧
    Completes (.hstHb t v) s (fun s' => s'.get F.hstHb_LAST [] = v.toNat ∧ s'.hst = { s.hst with lastHb := some s.frame } ∧
      s.regsKept s' [Reg.off .hstHb []] ∧ s'.jrn = s.jrn ∧ s'.out = []) ∧
    (cut ∨ s.heartbeatLost = true → s.get F.hstStat_HOST_SILENT [] = 0 → Completes (.hostSilence t) s (fun s' =>
      s'.get F.hstStat_HOST_SILENT [] = 1 ∧ s'.hst.lastHb = none ∧ s.unitsKept s' ∧
      s'.get F.hstHb_SILENT_CNT [] = min (s.get F.hstHb_SILENT_CNT [] + 1) (2 ^ F.hstHb_SILENT_CNT.width - 1) ∧
      s.regsKept s' (Reg.off .hstStat [] :: Reg.off .hstHb [] :: noteOffs))) ∧
    (s.get F.hstStat_HOST_SILENT [] = 1 ∨ (¬ cut ∧ s.heartbeatLost = false) → exec (.hostSilence t) s = .next (s.at t)) ∧
    Completes (.pcieFunctionReset t) s (fun s' => s'.get F.hstStat_LINK [] = 0 ∧ s'.get F.hstRingCfg_EN [i] = 0 ∧
      s'.get F.hstRingProd_PROD [i] = 0 ∧ s'.get F.hstRingCons_CONS [i] = 0 ∧ s'.get F.hstMsixPba_PENDING [] = 0 ∧ s'.jrn = s.jrn ∧
      s'.rd .hstMsixData [vec] = Reg.resetWord .hstMsixData [vec] ∧
      s'.hst = { s.hst with deferred := [], lastVec := [], lostSince := 0, completions := [], traces := [] }) ∧
    ∀ (w : BitVec 2) (sp : BitVec 3) (fl : Bool), Completes (.pcieLinkUp t w sp fl) s (fun s' => s'.get F.hstStat_LINK [] = 1 ∧
      s'.get F.hstStat_WIDTH [] = w.toNat ∧ s'.get F.hstStat_SPEED [] = sp.toNat ∧ s'.get F.hstStat_FLIT [] = b2n fl ∧
      s' = { s.at t with regs := s'.regs } ∧ s.regsKept s' [Reg.off .hstStat []]))

/-- R218, R328, R329, R426, R431, Table 14.5: a set of writes takes effect as one change or not at all, a calibration candidate is
built from its records, and an attestation report is written with its signatures. The model's own choices in it:
notes/assumptions/31, 43, 44, 94. -/
def Obligations.RegisterSetsCalibrationAndAttestation : Prop :=
  ∀ (t : Sys2Proof.Tai) (tag : BitVec 16) (s : Sys2Proof.Machine.State),
    let u := s.at t
    let n := tag.toNat
    let q := u.hostReq n
    let gate (i : Instr) (op bit : Nat) : Prop :=
      (bitAt (s.get F.jrnGrant_PCIE []) bit = false → exec i s = .next ((u.cmdEntry q kRefused 3 op bit 0 false).complete n cPrivilege 0)) ∧
      (bitAt (s.get F.jrnGrant_PCIE []) bit = true → s.get F.jrnStat_JOURNAL_FULL [] = 1 → exec i s = .next (u.fullRefused.complete n cJournalFull 0))
    let set (i : Instr) (most : Nat) (l : List (Nat × Sys2Proof.Word)) : Prop :=
      (l.length = 0 ∨ most < l.length → exec i s = .next (u.complete n cFormat 0)) ∧
      (1 ≤ l.length → l.length ≤ most →
        (∀ ws, u.setVerdict q l = .ok ws → Completes i s (fun s' =>
          s' = (ws.foldl (fun (v : Sys2Proof.Machine.State) w => v.takeWrite q w) u).completeAtEdge n cOk 0)) ∧
        (∀ b, u.setVerdict q l = .lack b → Completes i s (fun s' => s.unitsKept s' ∧ s.regsKept s' noteOffs)) ∧
        (u.setVerdict q l = .full → exec i s = .next (u.fullRefused.complete n cJournalFull 0)) ∧
        (∀ k, u.setVerdict q l = .refused k → Completes i s (fun s' => s.unitsKept s' ∧
          s.regsKept s' (Reg.off .plnStageStatus [] :: noteOffs) ∧ s' = (u.setRefused q l k).complete n cRefused k)) ∧
        (∀ k, u.setVerdict q l = .collide k → Completes i s (fun s' => s.unitsKept s' ∧ s.regsKept s' (Reg.off .hstStat [] :: noteOffs))))
    (∀ l, set (.regSet t tag l) 3 l ∧ set (.regSetBuf t tag l) 1024 l) ∧
    (∀ recs : List CalRecord,
      let wrong := recs.length = 0 ∨ 1024 < recs.length ∨ recs.any (fun r => decide (r.entry.length ≠ 32) ||
        (decide (r.table ≠ 0) && (r.entry.drop 16).any (fun b => decide (b ≠ 0)))) = true
      let st := s.get F.plnPromoStat_STATE [1]
      (wrong → exec (.calSubmit t tag recs) s = .next (u.complete n cFormat 0)) ∧ (¬ wrong → gate (.calSubmit t tag recs) 0x10 1) ∧
      (¬ wrong → bitAt (s.get F.jrnGrant_PCIE []) 1 = true → s.get F.jrnStat_JOURNAL_FULL [] = 0 → (∀ r ∈ recs, (calPlace r).isSome = true) →
        ∀ e, s.promoEntry 1 = some e → s.standby = false →
          (st = 0 ∨ st = 4 → Completes (.calSubmit t tag recs) s (fun s' => s'.get F.plnPromoStat_STATE [1] = 1 ∧ (s'.promoAt 1).source = 1 ∧
            (s'.promoAt 1).digest = s'.candidateDigest 1 e ∧ s'.get F.plnPromoStat_STATE [0] = s.get F.plnPromoStat_STATE [0] ∧ s'.runs = s.runs)) ∧
          (st ≠ 0 → st ≠ 4 → exec (.calSubmit t tag recs) s = .next (u.complete n cBusy 0)))) ∧
    (∀ (nonce : BitVec 256) (flags : BitVec 8) (len : Nat),
      let d := Sys2Proof.Config.sha512 (u.report nonce.toNat)
      let out := u.report nonce.toNat ++ fit 512 (Sys2Proof.Config.deviceRsa d) ++
        (if flags.getLsbD 0 then fit 4627 (Sys2Proof.Config.deviceMldsa d) else []) ++
        (if flags.getLsbD 1 then Sys2Proof.Config.deviceCerts.take 8192 else [])
      (4 ≤ flags.toNat ∨ len < out.length → exec (.attest t tag nonce flags len) s = .next (u.complete n cFormat 0)) ∧
      (flags.toNat < 4 → out.length ≤ len → gate (.attest t tag nonce flags len) 0x20 0) ∧
      (flags.toNat < 4 → out.length ≤ len → bitAt (s.get F.jrnGrant_PCIE []) 0 = true → s.get F.jrnStat_JOURNAL_FULL [] = 0 →
        Completes (.attest t tag nonce flags len) s (fun s' => Output.bufferWrite n 0 out ∈ s'.out ∧ s.unitsKept s' ∧ s.regsKept s' noteOffs)))

/-- R371, R373, R378, R424, R427 to R430, Tables 18.7 and 18.8: a signed object is refused at its first failing check, else its
operation takes effect with its counter; a signed reset waits for the drain; firmware is staged chunk by chunk. The model's own
choices in it: notes/assumptions/104, 105, 106. -/
def Obligations.SignedCommandsAndFirmware : Prop :=
  ∀ (t : Sys2Proof.Tai) (tag : BitVec 16) (o : SignedObj) (s : Sys2Proof.Machine.State),
    let u := s.at t
    let n := tag.toNat
    let full := s.get F.jrnStat_JOURNAL_FULL []
    (∀ c, u.objectFault o = some c → exec (.signed t tag o) s = .next (u.cmdRefused n 0x21 c)) ∧
    (∀ k, u.signer o = some k → (u.objectFault o = none →
        Sys2Proof.Config.rsaVerify k.modulus (objDigest o) o.signature = true ∧ k.ctr < o.ctr ∧ t ≤ o.notAfter ∧ o.modId = s.get F.glbId_MODID [])) ∧
    (u.signer o = none → u.objectFault o = some 1) ∧
    (∀ k, u.objectFault o = none → u.signer o = some k →
      let q : Req := { u.hostReq n with classes := k.classes, keyId := o.keyId }
      (∀ ws, o.op = .regSet ws → exec (.signed t tag o) s = .next (u.signedSet n o q ws)) ∧
      ((∀ ws, o.op ≠ .regSet ws) →
        (bitAt k.classes 4 = false → Completes (.signed t tag o) s (fun s' => s.unitsKept s' ∧ s.regsKept s' noteOffs)) ∧
        (bitAt k.classes 4 = true → full = 1 → exec (.signed t tag o) s = .next (u.fullRefused.complete n cJournalFull 0)) ∧
        (bitAt k.classes 4 = true → full = 0 → u.innerRefused o.op = true → Completes (.signed t tag o) s (fun s' =>
          s.unitsKept s' ∧ s.regsKept s' noteOffs)) ∧
        (bitAt k.classes 4 = true → full = 0 → u.innerRefused o.op = false →
          (o.op = .resetModule true → Completes (.signed t tag o) s (fun s' => ∃ v : Sys2Proof.Machine.State, s' = v.wholeReset 2 ∧ s'.pending = s.pending)) ∧
          (o.op = .resetModule false → Completes (.signed t tag o) s (fun s' => s'.rst = { s.rst with wait := some (n, t) } ∧
            s'.get F.jrnStat_RESET_WAIT [] = 1 ∧ s'.hbm = s.hbm)) ∧
          (o.op = .resetFabric → Completes (.signed t tag o) s (fun s' => s'.rst.fabric = true)) ∧
          (∀ m, o.op = .grantSet m → Completes (.signed t tag o) s (fun s' => s'.nv.grant = m % 32 ∧ s'.get F.jrnGrant_PCIE [] = m % 32)) ∧
          (∀ m, o.op = .svnRaise m → Completes (.signed t tag o) s (fun s' => s'.nv.svnMin = max s.nv.svnMin m)) ∧
          (∀ l, o.op = .retireClear l → Completes (.signed t tag o) s (fun s' =>
            s'.nv.log = s.nv.log.filter (fun x => !l.any (fun (e : Nat × Nat) => decide (9 * e.1 + e.2 = x))))) ∧
          (∀ slot classes req m d, o.op = .keyInstall slot classes req m d → Completes (.signed t tag o) s (fun s' => ∃ e, Tbl.find s'.nv.keys slot = some e ∧
            e.keyId = keyIdOf m ∧ e.classes = classes ∧ e.req = req ∧ e.modulus = m ∧ e.mldsa = d)) ∧
          (∀ slot, o.op = .keyRemove slot → Tbl.wf s.nv.keys = true → Completes (.signed t tag o) s (fun s' => Tbl.find s'.nv.keys slot = none))))) ∧
    (s.rst.wait = none → exec (.resetWaitDrained t) s = .next u ∧ exec (.resetWaitTimeout t) s = .next u) ∧
    (∀ g since, s.rst.wait = some (g, since) →
      (s.jrn.held = [] → Completes (.resetWaitDrained t) s (fun s' => s' = (u.complete g cOk 0).wholeReset 2)) ∧
      (s.jrn.held ≠ [] → exec (.resetWaitDrained t) s = .next u) ∧
      (since + 60000000000 ≤ t → s.jrn.held ≠ [] → Completes (.resetWaitTimeout t) s (fun s' => s'.rst = { s.rst with wait := none } ∧
        s'.get F.jrnStat_RESET_WAIT [] = 0 ∧ s.regsKept s' (Reg.off .jrnStat [] :: noteOffs))) ∧
      (t < since + 60000000000 ∨ s.jrn.held = [] → exec (.resetWaitTimeout t) s = .next u)) ∧
    (∀ (off : Nat) (flags : BitVec 8) (chunk : List Byte) (img : Option FwImage),
      let badForm := chunkOk flags.toNat chunk.length = false ∨ off % 4096 ≠ 0
      let c := u.stageChunk off flags.toNat chunk img
      let d := u.stageChunk off (flags.toNat - 2 * (flags.toNat / 2 % 2)) chunk img
      (badForm → exec (.fwStage t tag off flags chunk img) s = .next (u.complete n cFormat 0) ∧
        exec (.p0FirmwareChunkReceived t off flags chunk img) s = .next u) ∧
      (¬ badForm → bitAt (s.get F.jrnGrant_PCIE []) 0 = true → full = 0 → Completes (.fwStage t tag off flags chunk img) s (fun s' =>
        s'.nv = c.1.nv ∧ s'.boot = c.1.boot ∧ s'.hbm = s.hbm ∧ s.regsKept s' noteOffs)) ∧
      (¬ badForm → Completes (.p0FirmwareChunkReceived t off flags chunk img) s (fun s' => s'.nv = d.1.nv ∧ s'.boot = d.1.boot ∧ s'.hbm = s.hbm ∧
        s.regsKept s' noteOffs)) ∧
      (off ≠ 0 → off ≠ s.boot.stagedLen → c = (u, 1)) ∧
      (off = 0 ∨ off = s.boot.stagedLen → off + chunk.length ≤ 2 ^ 27 → bitAt flags.toNat 0 = false →
        c.2 = 0 ∧ c.1.boot.stagedLen = off + chunk.length ∧ c.1.nv.pref = s.nv.pref))

/-- R156 to R161, R356, Table 20.9: a check ends PASSED or REJECTED with its first finding, loading ends ARMED, a superseded bank is
released once no run of the old set is in flight, and a standby checks and arms the set it is sent. The model's own choices in it:
notes/assumptions/40, 72, 76, 131, 134, 135. -/
def Obligations.PlanStagingChecksArmsAndReleases : Prop :=
  ∀ (t : Sys2Proof.Tai) (img : SetContents) (clean : Bool) (data : List Byte) (target : BitVec 32) (s : Sys2Proof.Machine.State),
    let u := s.at t
    let b := 1 - s.pln.force
    let read := u.imageRead b img clean
    let m := Mem.setBytes s.hbm (stageBase b) (data.take imageMax)
    let got := ({ u with hbm := m } : Sys2Proof.Machine.State).imageRead b img true
    let st := s.get F.plnStageStatus_STATE []
    let inFlight := ∃ r ∈ s.runs, r.old = true
    (st ≠ 1 → exec (.checkComplete t img clean) s = .next u) ∧
    (st = 1 → Completes (.checkComplete t img clean) s (fun s' => s'.hbm = s.hbm ∧ s'.fab = s.fab ∧ s'.pln.inForce = s.pln.inForce ∧
      s.regsKept s' (Reg.off .plnStageStatus [] :: Reg.off .plnSetStaged [] :: noteOffs) ∧
      (u.checkSet read = none → s'.get F.plnStageStatus_STATE [] = 2 ∧ s'.get F.plnStageStatus_CODE [] = 0 ∧ s'.pln = { s.pln with staged := some read }) ∧
      (∀ f, u.checkSet read = some f → s'.get F.plnStageStatus_STATE [] = 3 ∧ s'.get F.plnStageStatus_CODE [] = f.code % 256 ∧
        s'.get F.plnStageStatus_PLAN [] = f.plan % 16 ∧ s'.get F.plnStageStatus_TUSSOCK [] = f.tussock % 2 ^ 16 ∧
        s'.get F.plnStageStatus_POS [] = f.pos % 2 ^ 14 ∧ s'.pln = s.pln))) ∧
    (s.pln.staged = none ∨ st ≠ 4 ∨ inFlight → exec (.armingComplete t) s = .next u) ∧
    (∀ g, s.pln.staged = some g → st = 4 → ¬ inFlight → Completes (.armingComplete t) s (fun s' => s'.get F.plnStageStatus_STATE [] = 5 ∧
      s'.pln = { s.pln with armedAt := t } ∧ s'.runs = s.runs ∧
      s'.hbm = ((u.loadStores g).loadInit g (fun a => !u.inUse a)).hbm ∧
      (∀ x, (s'.tus x).track = (s.tus x).track ∧ (s'.tus x).cst = (s.tus x).cst) ∧
      (∀ q ∈ g.plans, ∀ x ∈ tussocksOf q.hummocks, (s'.tus x).trackAlt = tracksOf g x ∧ (s'.tus x).cstAlt = storeOf g x) ∧
      s.regsKept s' (Reg.off .plnStageStatus [] :: noteOffs) ∧
      (s.get F.parStat_ROLE [] = 2 → s.get F.parStat_P0_UP [] = 1 →
        s'.out.getLast? = some (.p0Forward 0 g.setId (leBytes 4 (s.get F.plnArm_TARGET [])))))) ∧
    (st ≠ 6 ∨ inFlight → exec (.supersededBankRelease t) s = .next u) ∧
    (st = 6 → ¬ inFlight → Completes (.supersededBankRelease t) s (fun s' => s'.get F.plnStageStatus_STATE [] = 0 ∧
      s'.pln = { s.pln with old := none, staged := none } ∧ s'.regions = s.regions.filter (fun g => !g.old) ∧ s'.hbm = s.hbm ∧ s'.runs = s.runs)) ∧
    (s.standby = false ∨ 3 < st → exec (.p0PlanSetReceived t img data target) s = .next u) ∧
    (s.standby = true → st ≤ 3 → Completes (.p0PlanSetReceived t img data target) s (fun s' => s'.hbm = m ∧ s'.pln.inForce = s.pln.inForce ∧
      (s'.get F.plnStageStatus_STATE [] = 3 ∨ s'.get F.plnStageStatus_STATE [] = 2 ∨
        (s'.get F.plnStageStatus_STATE [] = 4 ∧ s'.get F.plnArm_TARGET [] = target.toNat ∧ s'.pln.staged = some got))))

/-- R415, R421 to R423, Table 18.5: the journal's stages are entered and left at their thresholds, with SUMMARY entries on leaving; a
checkpoint's signature is appended; safety entries are folded while their area is nearly full. The model's own choices in it:
notes/assumptions/38. -/
def Obligations.JournalStagesAndCheckpoints : Prop :=
  ∀ (t : Sys2Proof.Tai) (s : Sys2Proof.Machine.State),
    let free := mainCapacity - s.get F.jrnFill_MAIN []
    let safe := safeCapacity - s.get F.jrnFill_SAFE []
    let in_ (old : Nat) (enter leave : Nat) : Nat := if old = 1 then b2n (decide (free < leave)) else b2n (decide (free < enter))
    Completes (.journalStageChange t) s (fun s' =>
      s'.get F.jrnStat_JOURNAL_FULL [] = in_ (s.get F.jrnStat_JOURNAL_FULL []) 1048576 2097152 ∧
      s'.get F.jrnStat_COALESCE [] = in_ (s.get F.jrnStat_COALESCE []) 262144 524288 ∧
      s'.get F.jrnStat_HOLD [] = in_ (s.get F.jrnStat_HOLD []) 1 65536 ∧
      s.unitsKept s' ∧ s'.hst = s.hst ∧ s'.out = [] ∧ s.regsKept s' (Reg.off .jrnStat [] :: noteOffs) ∧
      (s.get F.jrnStat_JOURNAL_FULL [] = 1 → 2097152 ≤ free → s'.jrn.refused = 0) ∧
      (s.get F.jrnStat_JOURNAL_FULL [] = 0 → s'.jrn.refused = s.jrn.refused) ∧
      (s.get F.jrnStat_COALESCE [] = 1 → 524288 ≤ free → s'.jrn.folds = [] ∧ s'.jrn.digests = []) ∧
      (∀ e ∈ s.jrn.held, e ∈ s'.jrn.held)) ∧
    (s.jrn.signing = none → exec (.checkpointSigned t) s = .next (s.at t)) ∧
    (∀ n, s.jrn.signing = some n → Completes (.checkpointSigned t) s (fun s' => s.unitsKept s' ∧ s.regsKept s' noteOffs ∧
      (∀ e ∈ s.jrn.held, e ∈ s'.jrn.held) ∧ s.jrn.next + (if s.get F.jrnCfg_MLDSA_CKPT [] = 1 then 65 else 7) ≤ s'.jrn.next ∧
      ∃ e ∈ s'.jrn.held, e.kind = kSigpart ∧ e.seq = s.jrn.next)) ∧
    Completes (.safetyAreaFold t) s (fun s' => s.unitsKept s' ∧ s'.get F.jrnStat_SAFE_COALESCE [] = b2n (decide (safe < 4096)) ∧
      s'.get F.jrnStat_SAFE_HOLD [] = b2n (decide (safe = 0)) ∧ s.regsKept s' (Reg.off .jrnStat [] :: noteOffs) ∧
      (s.get F.jrnStat_SAFE_HOLD [] = 1 → safe ≠ 0 → s'.jrn.safeFolds = [] ∧ s'.jrn.next = s.jrn.next + s.jrn.safeFolds.length ∧
        s'.jrn.held.length = s.jrn.held.length + s.jrn.safeFolds.length) ∧
      (s.get F.jrnStat_SAFE_HOLD [] = 0 ∨ safe = 0 → s'.jrn = s.jrn))

/-- R339 to R341, R387, Table 14.10: the management port sets and reads rack limits, refreshes and reads sensors, takes addresses, and
counts as lost after 10 s without a message. The model's own choices in it: notes/assumptions/46, 107. -/
def Obligations.ManagementPort : Prop :=
  ∀ (t : Sys2Proof.Tai) (id : Nat) (k : Fin 32) (v : BitVec 32) (s : Sys2Proof.Machine.State),
    let u := (s.at t).mctp
    let w : Wr := { reg := .capRack, idx := [k.val], mask := rmMask, val := v.toNat * 2 ^ 32 }
    let heard (s' : Sys2Proof.Machine.State) : Prop := s'.boot.mctpAt = t ∧ s'.boot.mgmtLost = false
    (s.boot.mgmtLost = false → u = { s.at t with boot := { s.boot with mctpAt := t } }) ∧
    (s.boot.mgmtLost = true → s.unitsKept { u with boot := s.boot } ∧ s.regsKept u noteOffs ∧ heard u) ∧
    (id < 0x100 ∨ 0x11F < id → Completes (.setNumericEffecterValue t id v) s (fun s' => s' = u.emit (.mgmt pldmNoId [])) ∧
      Completes (.getNumericEffecterValue t id) s (fun s' => s' = u.emit (.mgmt pldmNoId []))) ∧
    (s.standby = false → (s.get F.jrnStat_JOURNAL_FULL [] = 0 ∨ u.passesFull w = true) → u.loses u.mgmtReq w = false →
      Completes (.setNumericEffecterValue t (0x100 + k.val) v) s (fun s' => s'.get F.capRack_RM_LIMIT [k] = v.toNat ∧
        s'.get F.capRack_HOST_LIMIT [k] = s.get F.capRack_HOST_LIMIT [k] ∧ s'.out.getLast? = some (.mgmt pldmOk []) ∧ heard s' ∧
        s.regsKept s' (Reg.off .capRack [k] :: Reg.off .hstStat [] :: noteOffs))) ∧
    (s.standby = true ∨ (s.get F.jrnStat_JOURNAL_FULL [] = 1 ∧ u.passesFull w = false) ∨ u.loses u.mgmtReq w = true →
      Completes (.setNumericEffecterValue t (0x100 + k.val) v) s (fun s' => s'.get F.capRack_RM_LIMIT [k] = s.get F.capRack_RM_LIMIT [k] ∧
        s'.out.getLast? = some (.mgmt pldmError []) ∧ heard s' ∧ s.regsKept s' (Reg.off .hstStat [] :: noteOffs))) ∧
    Completes (.getNumericEffecterValue t (0x100 + k.val)) s (fun s' =>
      s' = u.emit (.mgmt pldmOk (leBytes 4 (s.get F.capRack_RM_LIMIT [k])))) ∧
    (∀ r : PldmReadings, Completes (.pldmSensorRefresh t r) s (fun s' => s' = { s.at t with boot := { s.boot with pldm := (s.at t).sensorValues r } } ∧
      Tbl.find s'.boot.pldm 1 = some r.dieC ∧ Tbl.find s'.boot.pldm 3 = some r.power54 ∧
      Tbl.find s'.boot.pldm 5 = some (s.get F.plnLadderStat_RUNG []) ∧ Tbl.find s'.boot.pldm 6 = some (s.get F.capStat_ROW_SUM []) ∧
      Tbl.find s'.boot.pldm 0x100 = some (s.get F.parStat_ROLE []) ∧ Tbl.find s'.boot.pldm 0x101 = some (s.get F.parStat_ACT []) ∧
      Tbl.find s'.boot.pldm 0x102 = some (s.get F.hstStat_HOST_SILENT []))) ∧
    (isSensor id = false → Completes (.getSensorReading t id) s (fun s' => s' = u.emit (.mgmt pldmNoId []))) ∧
    (isSensor id = true → Completes (.getSensorReading t id) s (fun s' => heard s' ∧
      (∀ x, Tbl.find s.boot.pldm id = some x → s' = u.emit (.mgmt pldmOk (leBytes 4 x))) ∧
      (Tbl.find s.boot.pldm id = none → ∃ x, s' = u.draw.emit (.mgmt pldmOk (leBytes 4 x))))) ∧
    (∀ a : BitVec 7, Completes (.entdaa t a) s (fun s' => s'.boot = { s.boot with dyn := a.toNat } ∧ s'.regs = s.regs ∧
      s'.out = [.mgmt pldmOk (leBytes 8 (Sys2Proof.Config.provisionalId (s.get F.glbSerial_SERIAL [])).toNat)])) ∧
    (∀ e : BitVec 8, Completes (.setEndpointId t e) s (fun s' => s' = { u with boot := { u.boot with eid := e.toNat } })) ∧
    (s.boot.mgmtLost = true ∨ t < s.boot.mctpAt + 10000000000 → exec (.mgmtLost t) s = .next (s.at t)) ∧
    (s.boot.mgmtLost = false → s.boot.mctpAt + 10000000000 ≤ t → Completes (.mgmtLost t) s (fun s' =>
      s'.boot = { s.boot with mgmtLost := true } ∧ s.regsKept s' noteOffs ∧ s.unitsKept { s' with boot := s.boot }))

/-- R445: a read of an offset that no table lists returns 0; a write there is discarded, counted and journalled as refused. The reserved
regions of Table 20.1 list nothing. -/
def Obligations.UnlistedAddressesReadZeroAndDiscardWrites : Prop :=
  (∀ (t : Sys2Proof.Tai) (off : Nat) (v : Sys2Proof.Word) (s : Sys2Proof.Machine.State), Reg.lookup off = none →
    s.readBar0 off = 0 ∧
    (s.prt.cut = none → Completes (.registerWrite t off 8 v) s (fun s' => s.unitsKept s' ∧
      s.regsKept s' (Reg.off .hstStat [] :: noteOffs) ∧
      s'.get F.hstStat_BAD_WR [] = min (s.get F.hstStat_BAD_WR [] + 1) (2 ^ F.hstStat_BAD_WR.width - 1) ∧
      ∃ e : JEntry, e.kind = kRefused ∧ e.reason / 4096 = 0 ∧ e.reason / 256 % 16 = 2 ∧ e.object = off ∧ e.new = v.toNat ∧
        s'.jrn = (((s.at t).bump F.hstStat_BAD_WR [] 1).journal e).jrn))) ∧
  ∀ off, (0x1C0000 ≤ off ∧ off < 0x200000) ∨ (0x220000 ≤ off ∧ off < 0x400000) ∨ (0x500000 ≤ off ∧ off < 0x800000) ∨
    (0x810000 ≤ off ∧ off < 0x1000000) ∨ 0x1100000 ≤ off → Reg.lookup off = none

/-- R386: what the measured length of a low of RST_N does: from 1,050 µs on a whole-module reset, held until RST_N rises at `t`; below
950 µs never; a low of 10 µs or more, measured to ±5 %, that does not reset is counted and journalled as RST_GLITCH. -/
def Obligations.RstNLowsResetOrAreCounted : Prop :=
  ∀ (t : Sys2Proof.Tai) (low : Nat) (s : Sys2Proof.Machine.State),
    let resets (s' : Sys2Proof.Machine.State) : Prop := s'.boot.began = some t ∧ s'.get F.glbStat_PHASE [] = 1 ∧ s'.hbm = [] ∧ s'.runs = [] ∧
      s'.fab = {} ∧ s'.nv = s.nv ∧ s'.get F.glbStat_RESET_CAUSE [] = (if s.get F.prtMcStat_STATE [] = 4 then 3 else 1)
    let kept (s' : Sys2Proof.Machine.State) : Prop := s.unitsKept { s' with free := s.free } ∧
      s.regsKept s' (Reg.off .glbStat [] :: Reg.off .glbCnt [] :: noteOffs) ∧ s'.get F.glbStat_PHASE [] = s.get F.glbStat_PHASE []
    let counted (s' : Sys2Proof.Machine.State) : Prop := s'.get F.glbStat_RST_GLITCH [] = 1 ∧
      s'.get F.glbCnt_RST_GLITCH [] = min (s.get F.glbCnt_RST_GLITCH [] + 1) 65535 ∧
      ∃ (u : Sys2Proof.Machine.State) (e : JEntry), u.jrn = s.jrn ∧ u.now = t ∧ e.kind = kEvent ∧ e.object = Reg.off .glbStat [] ∧
        s'.jrn = (u.journalC e).jrn
    (1050000 ≤ low → Completes (.rstN t low) s resets) ∧ (low < 950000 → Completes (.rstN t low) s kept) ∧
    (10500 ≤ low → low < 950000 → Completes (.rstN t low) s counted) ∧
    (low < 9500 → Completes (.rstN t low) s (fun s' => s'.regs = s.regs ∧ s'.jrn = s.jrn)) ∧
    Completes (.rstN t low) s (fun s' => resets s' ∨ (kept s' ∧ (counted s' ∨ (low < 10500 ∧ s'.regs = s.regs ∧ s'.jrn = s.jrn))))

/-- R300: datagrams that are none of the port's own kinds, and those with a bad UDP checksum, are dropped and counted per port; a port
with EN = 0 or without link receives and counts nothing and runs no PTP. -/
def Obligations.PortsDropAndCountOtherDatagrams : Prop :=
  ∀ (t : Sys2Proof.Tai) (j : Fin 2) (d : Datagram) (s : Sys2Proof.Machine.State),
    let live := s.get F.telPortCfg_EN [j] ≠ 0 ∧ s.get F.telPortStat_LINK [j] ≠ 0
    let counted (s' : Sys2Proof.Machine.State) : Prop := s.unitsKept s' ∧ s.regsKept s' [Reg.off .obsIng0 [j]] ∧ s'.out = [] ∧ s'.jrn = s.jrn ∧
      s'.hst = s.hst ∧ s'.get F.obsIng0_OTHER [j] = min (s.get F.obsIng0_OTHER [j] + 1) (2 ^ F.obsIng0_OTHER.width - 1)
    (live → Completes (.otherDatagram t j d) s counted) ∧
    (live → d.dstOk = false ∨ d.udpPort ≠ s.get F.telIngCfg_UDP_PORT [] ∨ d.checksumOk = false → Completes (.ingestDatagram t j d) s counted) ∧
    (¬ live → exec (.otherDatagram t j d) s = .next (s.at t) ∧ exec (.ingestDatagram t j d) s = .next (s.at t) ∧
      (∀ p, exec (.icmpv6Echo t j p) s = .next (s.at t)) ∧ (∀ b, exec (.neighbourDiscovery t j b) s = .next (s.at t)) ∧
      (∀ m, exec (.ptpSync t j m) s = .next (s.at t)) ∧ (∀ a, exec (.ptpAnnounce t j a) s = .next (s.at t)) ∧
      ∀ x, exec (.ptpDelayResp t j x) s = .next (s.at t))

/-- R200: the weight version (k = 0) and the calibration version (k = 1) are 32-bit counters that a read of `PLN_PROMO_STAT[k]` shows:
one more at each promotion and demotion of their kind, kept by a swap that carries the bank over, 1 after a swap that loads INIT.
The model's own choices in it: notes/assumptions/77. -/
def Obligations.PromotionVersionsCount : Prop :=
  ∀ (k : Fin 2) (s : Sys2Proof.Machine.State) (img : PlanSet),
    let ver (u : Sys2Proof.Machine.State) : Nat := u.get F.plnPromoStat_VERSION [k]
    let old := promoOf s.plans k
    F.plnPromoStat_VERSION.width = 32 ∧ bits (s.readBar0 (0x20088 + 8 * k.val)).toNat 16 32 = ver s ∧
    (∀ prev, ver (s.promoFlip k prev) = (ver s + 1) % 2 ^ 32 ∧ ∀ q : Fin 2, q ≠ k →
      (s.promoFlip k prev).get F.plnPromoStat_VERSION [q] = s.get F.plnPromoStat_VERSION [q]) ∧
    (∀ e, s.promoEntry k = some e → ∀ swapped, ver (s.promoApply k e swapped) = ver s ∨
      (ver (s.promoApply k e swapped) = (ver s + 1) % 2 ^ 32 ∧ ((s.promoApply k e swapped).promoAt k).bankB = !(s.promoAt k).bankB)) ∧
    ∀ e, promoOf img.plans k = some e →
      (∀ o, old = some o → o.layout = e.layout → o.len = e.len → ver (s.swapPromo img k) = ver s) ∧
      (old = none ∨ (∃ o, old = some o ∧ (o.layout ≠ e.layout ∨ o.len ≠ e.len)) → ver (s.swapPromo img k) = 1)
end

