-- ==== Sys2Proof/Laws/Tables.lean ====
section
/-!
SUPPORT. Sparse tables and memory: a read after a write, and the canonical form.
-/
namespace Sys2Proof.Machine

variable {α : Type}

theorem Tbl.find_put_self (t : Tbl α) (k : Nat) (a : α) : Tbl.find (Tbl.put t k a) k = some a := by
  induction t with
  | nil => simp [Tbl.put, Tbl.find]
  | cons e r ih =>
    obtain ⟨j, b⟩ := e
    simp only [Tbl.put]
    split
    · simp [Tbl.find]
    · split
      · simp [Tbl.find]
      · next h1 h2 => simp [Tbl.find, Ne.symm h2, ih]

theorem Tbl.find_put_ne (t : Tbl α) (k k' : Nat) (a : α) (h : k' ≠ k) : Tbl.find (Tbl.put t k a) k' = Tbl.find t k' := by
  induction t with
  | nil => simp [Tbl.put, Tbl.find, Ne.symm h]
  | cons e r ih =>
    obtain ⟨j, b⟩ := e
    simp only [Tbl.put]
    split
    · simp [Tbl.find, Ne.symm h]
    · split
      · next h2 => subst h2; simp [Tbl.find, Ne.symm h]
      · by_cases hj : j = k' <;> simp [Tbl.find, hj, ih]

theorem Tbl.at_put_self (t : Tbl α) (k : Nat) (a d : α) : Tbl.at (Tbl.put t k a) k d = a := by
  simp [Tbl.at, Tbl.find_put_self]

theorem Tbl.at_put_ne (t : Tbl α) (k k' : Nat) (a d : α) (h : k' ≠ k) : Tbl.at (Tbl.put t k a) k' d = Tbl.at t k' d := by
  simp [Tbl.at, Tbl.find_put_ne _ _ _ _ h]

theorem Tbl.risingFrom_mono {lo lo' : Nat} {t : Tbl α} (h : lo ≤ lo') (w : Tbl.risingFrom lo' t = true) :
    Tbl.risingFrom lo t = true := by
  cases t with
  | nil => rfl
  | cons e r =>
    simp only [Tbl.risingFrom, Bool.and_eq_true, decide_eq_true_eq] at w ⊢
    exact ⟨by omega, w.2⟩

theorem Tbl.risingFrom_put (t : Tbl α) (lo k : Nat) (a : α) (h : lo ≤ k) (w : Tbl.risingFrom lo t = true) :
    Tbl.risingFrom lo (Tbl.put t k a) = true := by
  induction t generalizing lo with
  | nil => simp [Tbl.put, Tbl.risingFrom, h]
  | cons e r ih =>
    obtain ⟨j, b⟩ := e
    simp only [Tbl.risingFrom, Bool.and_eq_true, decide_eq_true_eq] at w
    simp only [Tbl.put]
    split
    · next hk => simp only [Tbl.risingFrom, Bool.and_eq_true, decide_eq_true_eq]; exact ⟨h, by omega, w.2⟩
    · split
      · next h2 => subst h2; simp [Tbl.risingFrom, h, w.2]
      · next h1 h2 => simp only [Tbl.risingFrom, Bool.and_eq_true, decide_eq_true_eq]; exact ⟨w.1, ih (j + 1) (by omega) w.2⟩

theorem Tbl.wf_put (t : Tbl α) (k : Nat) (a : α) (w : Tbl.wf t = true) : Tbl.wf (Tbl.put t k a) = true :=
  Tbl.risingFrom_put t 0 k a (Nat.zero_le _) w

theorem Tbl.risingFrom_del (t : Tbl α) (lo k : Nat) (w : Tbl.risingFrom lo t = true) :
    Tbl.risingFrom lo (Tbl.del t k) = true := by
  induction t generalizing lo with
  | nil => rfl
  | cons e r ih =>
    obtain ⟨j, b⟩ := e
    simp only [Tbl.risingFrom, Bool.and_eq_true, decide_eq_true_eq] at w
    simp only [Tbl.del]
    split
    · exact Tbl.risingFrom_mono (by omega) w.2
    · simp only [Tbl.risingFrom, Bool.and_eq_true, decide_eq_true_eq]; exact ⟨w.1, ih _ w.2⟩

theorem Tbl.wf_del (t : Tbl α) (k : Nat) (w : Tbl.wf t = true) : Tbl.wf (Tbl.del t k) = true := Tbl.risingFrom_del t 0 k w

theorem Tbl.find_below (t : Tbl α) (lo k : Nat) (h : k < lo) (w : Tbl.risingFrom lo t = true) : Tbl.find t k = none := by
  induction t generalizing lo with
  | nil => rfl
  | cons e r ih =>
    obtain ⟨j, b⟩ := e
    simp only [Tbl.risingFrom, Bool.and_eq_true, decide_eq_true_eq] at w
    have hj : j ≠ k := by omega
    simp only [Tbl.find, if_neg hj]
    exact ih (j + 1) (by omega) w.2

theorem Tbl.find_del_ne (t : Tbl α) (k k' : Nat) (h : k' ≠ k) : Tbl.find (Tbl.del t k) k' = Tbl.find t k' := by
  induction t with
  | nil => rfl
  | cons e r ih =>
    obtain ⟨j, b⟩ := e
    simp only [Tbl.del]
    split
    · next h2 => subst h2; simp [Tbl.find, Ne.symm h]
    · by_cases hj : j = k' <;> simp [Tbl.find, hj, ih]

theorem Tbl.find_del_self (t : Tbl α) (lo k : Nat) (w : Tbl.risingFrom lo t = true) : Tbl.find (Tbl.del t k) k = none := by
  induction t generalizing lo with
  | nil => rfl
  | cons e r ih =>
    obtain ⟨j, b⟩ := e
    simp only [Tbl.risingFrom, Bool.and_eq_true, decide_eq_true_eq] at w
    simp only [Tbl.del]
    split
    · next h2 => subst h2; exact Tbl.find_below r (k + 1) k (by omega) w.2
    · next h2 => simp only [Tbl.find, if_neg (Ne.symm h2)]; exact ih (j + 1) w.2

/-- Entries of a table after a put are old ones or the new one. -/
theorem Tbl.mem_put {t : Tbl α} {k : Nat} {a : α} {e : Nat × α} (h : e ∈ Tbl.put t k a) : e = (k, a) ∨ e ∈ t := by
  induction t with
  | nil => simpa [Tbl.put] using h
  | cons x r ih =>
    obtain ⟨j, b⟩ := x
    simp only [Tbl.put] at h
    split at h
    · simpa using h
    · split at h
      · rcases List.mem_cons.mp h with h | h
        · exact Or.inl h
        · exact Or.inr (List.mem_cons_of_mem _ h)
      · rcases List.mem_cons.mp h with h | h
        · exact Or.inr (h ▸ List.mem_cons_self)
        · exact (ih h).imp id (List.mem_cons_of_mem _)

theorem Tbl.mem_del {t : Tbl α} {k : Nat} {e : Nat × α} (h : e ∈ Tbl.del t k) : e ∈ t := by
  induction t with
  | nil => exact h
  | cons x r ih =>
    obtain ⟨j, b⟩ := x
    simp only [Tbl.del] at h
    split at h
    · exact List.mem_cons_of_mem _ h
    · rcases List.mem_cons.mp h with h | h
      · exact h ▸ List.mem_cons_self
      · exact List.mem_cons_of_mem _ (ih h)

theorem Mem.wf_iff (m : Mem) : Mem.wf m = true ↔ Tbl.wf m = true ∧ ∀ c ∈ m, c.2 ≠ Mem.unlisted := by
  simp [Mem.wf, List.all_eq_true]

theorem Mem.wf_setByte (m : Mem) (a : Nat) (b : Byte) (w : Mem.wf m = true) : Mem.wf (Mem.setByte m a b) = true := by
  rw [Mem.wf_iff] at w ⊢
  unfold Mem.setByte
  split
  · exact ⟨Tbl.wf_del m a w.1, fun c h => w.2 c (Tbl.mem_del h)⟩
  · next hb =>
    refine ⟨Tbl.wf_put m a b w.1, fun c h => ?_⟩
    rcases Tbl.mem_put h with h | h
    · exact h ▸ hb
    · exact w.2 c h

theorem Mem.wf_setBytes (m : Mem) (a : Nat) (l : List Byte) (w : Mem.wf m = true) : Mem.wf (Mem.setBytes m a l) = true := by
  induction l generalizing m a with
  | nil => exact w
  | cons b r ih => exact ih _ _ (Mem.wf_setByte m a b w)

theorem Mem.byte_setByte_ne (m : Mem) (a a' : Nat) (b : Byte) (h : a' ≠ a) : Mem.byte (Mem.setByte m a b) a' = Mem.byte m a' := by
  unfold Mem.byte Mem.setByte Tbl.at
  split
  · rw [Tbl.find_del_ne _ _ _ h]
  · rw [Tbl.find_put_ne _ _ _ _ h]

theorem Mem.byte_setByte_self (m : Mem) (a : Nat) (b : Byte) (w : Mem.wf m = true) : Mem.byte (Mem.setByte m a b) a = b := by
  unfold Mem.byte Mem.setByte Tbl.at
  split
  · next h => rw [Tbl.find_del_self m 0 a ((Mem.wf_iff m).mp w).1]; exact h.symm
  · rw [Tbl.find_put_self]; rfl

theorem Mem.byte_setBytes_outside (m : Mem) (a a' : Nat) (l : List Byte) (h : a' < a ∨ a + l.length ≤ a') :
    Mem.byte (Mem.setBytes m a l) a' = Mem.byte m a' := by
  induction l generalizing m a with
  | nil => rfl
  | cons b r ih =>
    simp only [List.length_cons] at h
    rw [Mem.setBytes, ih _ _ (by omega), Mem.byte_setByte_ne _ _ _ _ (by omega)]

theorem Mem.byte_setBytes_inside (m : Mem) (a i : Nat) (l : List Byte) (h : i < l.length) (w : Mem.wf m = true) :
    Mem.byte (Mem.setBytes m a l) (a + i) = l[i] := by
  induction l generalizing m a i with
  | nil => simp at h
  | cons b r ih =>
    rw [Mem.setBytes]
    cases i with
    | zero => rw [Mem.byte_setBytes_outside _ _ _ _ (by omega)]; simpa using Mem.byte_setByte_self m a b w
    | succ i =>
      have h' : i < r.length := by simpa using h
      have e : a + (i + 1) = (a + 1) + i := by omega
      rw [e, ih _ _ _ h' (Mem.wf_setByte m a b w)]; rfl

theorem Mem.wf_foldl_setBytes {β : Type} (l : List β) (f : β → Nat × List Byte) (m : Mem) (w : Mem.wf m = true) :
    Mem.wf (l.foldl (fun (m : Mem) d => Mem.setBytes m (f d).1 (f d).2) m) = true := by
  induction l generalizing m with
  | nil => exact w
  | cons d r ih => exact ih _ (Mem.wf_setBytes _ _ _ w)

/-- Changing the listed values and keeping their keys keeps the keys rising. -/
theorem Tbl.risingFrom_map {β : Type} (f : Nat × α → β) (t : Tbl α) (lo : Nat) (w : Tbl.risingFrom lo t = true) :
    Tbl.risingFrom lo (t.map (fun e => (e.1, f e)) : Tbl β) = true := by
  induction t generalizing lo with
  | nil => rfl
  | cons e r ih =>
    obtain ⟨j, b⟩ := e
    simp only [Tbl.risingFrom, Bool.and_eq_true, decide_eq_true_eq] at w
    simp only [List.map_cons, Tbl.risingFrom, Bool.and_eq_true, decide_eq_true_eq]
    exact ⟨w.1, ih _ w.2⟩

theorem Tbl.find_map {β : Type} (f : Nat × α → β) (t : Tbl α) (k : Nat) :
    Tbl.find (t.map (fun e => (e.1, f e)) : Tbl β) k = (Tbl.find t k).map (fun a => f (k, a)) := by
  induction t with
  | nil => rfl
  | cons e r ih =>
    obtain ⟨j, b⟩ := e
    by_cases hj : j = k
    · subst hj; simp [Tbl.find]
    · simp [Tbl.find, hj, ih]

end Sys2Proof.Machine
end

