-- ==== Sys2Proof/Laws/Registers.lean ====
section
/-!
SUPPORT. Registers: what a field reads after a field was set. `rget` and `rset` are `State.get` and `State.set` over the register
table alone, so that a read does not see a change of another part of the state.
-/
namespace Sys2Proof.Machine

/-- A register of a register table. -/
def rrd (t : Tbl Word) (r : Reg) (idx : List Nat) : Nat :=
  match Tbl.find t (r.off idx) with
  | some w => w.toNat
  | none => r.resetWord idx

/-- A field of a register table. -/
def rget (t : Tbl Word) (f : Fld) (idx : List Nat) : Nat := bits (rrd t f.reg idx) f.lo f.width

/-- A register table after a register was written. -/
def rwr (t : Tbl Word) (r : Reg) (idx : List Nat) (x : Nat) : Tbl Word := Tbl.put t (r.off idx) (BitVec.ofNat 64 x)

/-- A register table after a field was set. -/
def rset (t : Tbl Word) (f : Fld) (idx : List Nat) (v : Nat) : Tbl Word :=
  rwr t f.reg idx (setBits (rrd t f.reg idx) f.lo f.width v)

theorem State.rd_eq (s : State) (r : Reg) (idx : List Nat) : s.rd r idx = rrd s.regs r idx := rfl
theorem State.get_eq (s : State) (f : Fld) (idx : List Nat) : s.get f idx = rget s.regs f idx := rfl
@[simp] theorem State.regs_wr (s : State) (r : Reg) (idx : List Nat) (x : Nat) : (s.wr r idx x).regs = rwr s.regs r idx x := rfl
@[simp] theorem State.regs_set (s : State) (f : Fld) (idx : List Nat) (v : Nat) : (s.set f idx v).regs = rset s.regs f idx v := rfl

theorem bits_lt (x lo w : Nat) : bits x lo w < 2 ^ w := Nat.mod_lt _ (Nat.two_pow_pos w)

theorem testBit_bits (x lo w i : Nat) : (bits x lo w).testBit i = (decide (i < w) && x.testBit (lo + i)) := by
  simp [bits, Nat.testBit_mod_two_pow, Nat.testBit_shiftRight]

theorem bits_mul_le (x lo w : Nat) : bits x lo w * 2 ^ lo ≤ x := by
  unfold bits
  rw [Nat.shiftRight_eq_div_pow]
  calc (x / 2 ^ lo) % 2 ^ w * 2 ^ lo ≤ x / 2 ^ lo * 2 ^ lo := Nat.mul_le_mul_right _ (Nat.mod_le _ _)
    _ ≤ x := Nat.div_mul_le_self _ _

theorem setBits_eq (x lo w v : Nat) :
    setBits x lo w v = 2 ^ lo * (2 ^ w * (x >>> lo / 2 ^ w) + v % 2 ^ w) + x % 2 ^ lo := by
  have h1 := bits_mul_le x lo w
  have e : x = 2 ^ lo * (x >>> lo) + x % 2 ^ lo := by rw [Nat.shiftRight_eq_div_pow]; exact (Nat.div_add_mod x (2 ^ lo)).symm
  have e2 : x >>> lo = 2 ^ w * (x >>> lo / 2 ^ w) + bits x lo w := (Nat.div_add_mod (x >>> lo) (2 ^ w)).symm
  have e3 : 2 ^ lo * (x >>> lo) = 2 ^ lo * (2 ^ w * (x >>> lo / 2 ^ w)) + bits x lo w * 2 ^ lo := by
    conv => lhs; rw [e2]
    rw [Nat.mul_add, Nat.mul_comm (2 ^ lo) (bits x lo w)]
  unfold setBits
  rw [Nat.mul_add, Nat.mul_comm (2 ^ lo) (v % 2 ^ w)]
  omega

theorem testBit_setBits (x lo w v i : Nat) :
    (setBits x lo w v).testBit i = if lo ≤ i ∧ i < lo + w then v.testBit (i - lo) else x.testBit i := by
  rw [setBits_eq, Nat.testBit_two_pow_mul_add _ (Nat.mod_lt _ (Nat.two_pow_pos lo))]
  by_cases h : i < lo
  · rw [if_pos h, if_neg (by omega), Nat.testBit_mod_two_pow]
    simp [h]
  · rw [if_neg h, Nat.testBit_two_pow_mul_add _ (Nat.mod_lt _ (Nat.two_pow_pos w))]
    by_cases h2 : i - lo < w
    · rw [if_pos h2, if_pos (by omega), Nat.testBit_mod_two_pow]; simp [h2]
    · rw [if_neg h2, if_neg (by omega), Nat.testBit_div_two_pow, Nat.testBit_shiftRight]
      congr 1; omega

theorem bits_setBits_self (x lo w v : Nat) : bits (setBits x lo w v) lo w = v % 2 ^ w := by
  apply Nat.eq_of_testBit_eq
  intro i
  rw [testBit_bits, testBit_setBits, Nat.testBit_mod_two_pow]
  by_cases h : i < w
  · simp [h]
  · simp [h]

theorem bits_setBits_disjoint (x lo w v lo' w' : Nat) (h : lo' + w' ≤ lo ∨ lo + w ≤ lo') :
    bits (setBits x lo w v) lo' w' = bits x lo' w' := by
  apply Nat.eq_of_testBit_eq
  intro i
  rw [testBit_bits, testBit_bits, testBit_setBits]
  by_cases h2 : i < w'
  · rw [if_neg (by omega)]
  · simp [h2]

theorem bits_mod (x lo w n : Nat) (h : lo + w ≤ n) : bits (x % 2 ^ n) lo w = bits x lo w := by
  apply Nat.eq_of_testBit_eq
  intro i
  rw [testBit_bits, testBit_bits, Nat.testBit_mod_two_pow]
  by_cases h2 : i < w
  · have : lo + i < n := by omega
    simp [this]
  · simp [h2]

theorem rrd_rwr_self (t : Tbl Word) (r : Reg) (idx : List Nat) (x : Nat) : rrd (rwr t r idx x) r idx = x % 2 ^ 64 := by
  simp [rrd, rwr, Tbl.find_put_self]

theorem rrd_rwr_ne (t : Tbl Word) (r r' : Reg) (idx idx' : List Nat) (x : Nat) (h : r'.off idx' ≠ r.off idx) :
    rrd (rwr t r idx x) r' idx' = rrd t r' idx' := by
  simp [rrd, rwr, Tbl.find_put_ne _ _ _ _ h]

/-- A field of at most 64 bits reads what it was set to, to its width. -/
theorem rget_rset_self (t : Tbl Word) (f : Fld) (idx : List Nat) (v : Nat) (h : f.lo + f.width ≤ 64) :
    rget (rset t f idx v) f idx = v % 2 ^ f.width := by
  rw [rget, rset, rrd_rwr_self, bits_mod _ _ _ _ h, bits_setBits_self]

/-- A field of another register is unchanged. -/
theorem rget_rset_ne (t : Tbl Word) (f g : Fld) (idx idx' : List Nat) (v : Nat) (h : g.reg.off idx' ≠ f.reg.off idx) :
    rget (rset t f idx v) g idx' = rget t g idx' := by
  rw [rget, rset, rrd_rwr_ne _ _ _ _ _ _ h, rget]

/-- Another field of the same register is unchanged. -/
theorem rget_rset_disjoint (t : Tbl Word) (f g : Fld) (idx : List Nat) (v : Nat) (hr : g.reg = f.reg) (hw : g.lo + g.width ≤ 64)
    (h : g.lo + g.width ≤ f.lo ∨ f.lo + f.width ≤ g.lo) : rget (rset t f idx v) g idx = rget t g idx := by
  rw [rget, rset, hr, rrd_rwr_self, bits_mod _ _ _ _ hw, bits_setBits_disjoint _ _ _ _ _ _ h, ← hr, rget]

/-- Registers at other offsets are unchanged. -/
theorem find_rset_ne (t : Tbl Word) (f : Fld) (idx : List Nat) (v a : Nat) (h : a ≠ f.reg.off idx) :
    Tbl.find (rset t f idx v) a = Tbl.find t a := Tbl.find_put_ne _ _ _ _ h

/-- Setting a field changes no register outside a list that holds its offset. -/
theorem find_rset_of_notMem {t : Tbl Word} {f : Fld} {idx : List Nat} {v a : Nat} {l : List Nat} (ha : a ∉ l)
    (hl : f.reg.off idx ∈ l := by simp) : Tbl.find (rset t f idx v) a = Tbl.find t a :=
  find_rset_ne _ _ _ _ _ (fun e => ha (e ▸ hl))

theorem rget_congr {t t' : Tbl Word} (f : Fld) (idx : List Nat) (h : Tbl.find t' (f.reg.off idx) = Tbl.find t (f.reg.off idx)) :
    rget t' f idx = rget t f idx := by
  rw [rget, rget, rrd, rrd, h]

/-- A field never exceeds its width. -/
theorem State.get_lt (s : State) (f : Fld) (idx : List Nat) : s.get f idx < 2 ^ f.width := bits_lt _ _ _

theorem State.get_set_self (s : State) (f : Fld) (idx : List Nat) (v : Nat) (h : f.lo + f.width ≤ 64 := by decide) :
    (s.set f idx v).get f idx = v % 2 ^ f.width := rget_rset_self _ _ _ _ h

theorem State.get_set_ne (s : State) (f g : Fld) (idx idx' : List Nat) (v : Nat) (h : g.reg.off idx' ≠ f.reg.off idx) :
    (s.set f idx v).get g idx' = s.get g idx' := rget_rset_ne _ _ _ _ _ _ h

theorem State.get_set_disjoint (s : State) (f g : Fld) (idx : List Nat) (v : Nat) (hr : g.reg = f.reg := by rfl)
    (hw : g.lo + g.width ≤ 64 := by decide) (h : g.lo + g.width ≤ f.lo ∨ f.lo + f.width ≤ g.lo := by decide) : (s.set f idx v).get g idx = s.get g idx :=
  rget_rset_disjoint _ _ _ _ _ hr hw h

/-- A saturating counter after it counted. -/
theorem State.get_bump_self (s : State) (f : Fld) (idx : List Nat) (n : Nat) (h : f.lo + f.width ≤ 64 := by decide) :
    (s.bump f idx n).get f idx = min (s.get f idx + n) (2 ^ f.width - 1) := by
  refine (State.get_set_self s f idx _ h).trans ?_
  have := Nat.two_pow_pos f.width
  exact Nat.mod_eq_of_lt (by omega)

end Sys2Proof.Machine
end

