-- ==== Sys2Proof/Laws/State.lean ====
section
/-!
SUPPORT. What each shared update of the state leaves of every field, one lemma per field and update.
-/
namespace Sys2Proof.Machine

variable (s : State)

@[simp] theorem State.wr_pending (r : Reg) (idx : List Nat) (x : Nat) : (s.wr r idx x).pending = s.pending := rfl
@[simp] theorem State.wr_now (r : Reg) (idx : List Nat) (x : Nat) : (s.wr r idx x).now = s.now := rfl
@[simp] theorem State.wr_free (r : Reg) (idx : List Nat) (x : Nat) : (s.wr r idx x).free = s.free := rfl
@[simp] theorem State.wr_out (r : Reg) (idx : List Nat) (x : Nat) : (s.wr r idx x).out = s.out := rfl
@[simp] theorem State.wr_hbm (r : Reg) (idx : List Nat) (x : Nat) : (s.wr r idx x).hbm = s.hbm := rfl
@[simp] theorem State.wr_fab (r : Reg) (idx : List Nat) (x : Nat) : (s.wr r idx x).fab = s.fab := rfl
@[simp] theorem State.wr_runs (r : Reg) (idx : List Nat) (x : Nat) : (s.wr r idx x).runs = s.runs := rfl
@[simp] theorem State.wr_regions (r : Reg) (idx : List Nat) (x : Nat) : (s.wr r idx x).regions = s.regions := rfl
@[simp] theorem State.wr_snap (r : Reg) (idx : List Nat) (x : Nat) : (s.wr r idx x).snap = s.snap := rfl
@[simp] theorem State.wr_pln (r : Reg) (idx : List Nat) (x : Nat) : (s.wr r idx x).pln = s.pln := rfl
@[simp] theorem State.wr_jrn (r : Reg) (idx : List Nat) (x : Nat) : (s.wr r idx x).jrn = s.jrn := rfl
@[simp] theorem State.wr_hst (r : Reg) (idx : List Nat) (x : Nat) : (s.wr r idx x).hst = s.hst := rfl
@[simp] theorem State.wr_pio (r : Reg) (idx : List Nat) (x : Nat) : (s.wr r idx x).pio = s.pio := rfl
@[simp] theorem State.wr_tel (r : Reg) (idx : List Nat) (x : Nat) : (s.wr r idx x).tel = s.tel := rfl
@[simp] theorem State.wr_can (r : Reg) (idx : List Nat) (x : Nat) : (s.wr r idx x).can = s.can := rfl
@[simp] theorem State.wr_lpe (r : Reg) (idx : List Nat) (x : Nat) : (s.wr r idx x).lpe = s.lpe := rfl
@[simp] theorem State.wr_drv (r : Reg) (idx : List Nat) (x : Nat) : (s.wr r idx x).drv = s.drv := rfl
@[simp] theorem State.wr_prt (r : Reg) (idx : List Nat) (x : Nat) : (s.wr r idx x).prt = s.prt := rfl
@[simp] theorem State.wr_frm (r : Reg) (idx : List Nat) (x : Nat) : (s.wr r idx x).frm = s.frm := rfl
@[simp] theorem State.wr_cap (r : Reg) (idx : List Nat) (x : Nat) : (s.wr r idx x).cap = s.cap := rfl
@[simp] theorem State.wr_lad (r : Reg) (idx : List Nat) (x : Nat) : (s.wr r idx x).lad = s.lad := rfl
@[simp] theorem State.wr_rcd (r : Reg) (idx : List Nat) (x : Nat) : (s.wr r idx x).rcd = s.rcd := rfl
@[simp] theorem State.wr_pair (r : Reg) (idx : List Nat) (x : Nat) : (s.wr r idx x).pair = s.pair := rfl
@[simp] theorem State.wr_dom (r : Reg) (idx : List Nat) (x : Nat) : (s.wr r idx x).dom = s.dom := rfl
@[simp] theorem State.wr_rst (r : Reg) (idx : List Nat) (x : Nat) : (s.wr r idx x).rst = s.rst := rfl
@[simp] theorem State.wr_nv (r : Reg) (idx : List Nat) (x : Nat) : (s.wr r idx x).nv = s.nv := rfl
@[simp] theorem State.wr_boot (r : Reg) (idx : List Nat) (x : Nat) : (s.wr r idx x).boot = s.boot := rfl
@[simp] theorem State.wr_acs (r : Reg) (idx : List Nat) (x : Nat) : (s.wr r idx x).acs = s.acs := rfl

@[simp] theorem State.set_pending (f : Fld) (idx : List Nat) (v : Nat) : (s.set f idx v).pending = s.pending := rfl
@[simp] theorem State.set_now (f : Fld) (idx : List Nat) (v : Nat) : (s.set f idx v).now = s.now := rfl
@[simp] theorem State.set_free (f : Fld) (idx : List Nat) (v : Nat) : (s.set f idx v).free = s.free := rfl
@[simp] theorem State.set_out (f : Fld) (idx : List Nat) (v : Nat) : (s.set f idx v).out = s.out := rfl
@[simp] theorem State.set_hbm (f : Fld) (idx : List Nat) (v : Nat) : (s.set f idx v).hbm = s.hbm := rfl
@[simp] theorem State.set_fab (f : Fld) (idx : List Nat) (v : Nat) : (s.set f idx v).fab = s.fab := rfl
@[simp] theorem State.set_runs (f : Fld) (idx : List Nat) (v : Nat) : (s.set f idx v).runs = s.runs := rfl
@[simp] theorem State.set_regions (f : Fld) (idx : List Nat) (v : Nat) : (s.set f idx v).regions = s.regions := rfl
@[simp] theorem State.set_snap (f : Fld) (idx : List Nat) (v : Nat) : (s.set f idx v).snap = s.snap := rfl
@[simp] theorem State.set_pln (f : Fld) (idx : List Nat) (v : Nat) : (s.set f idx v).pln = s.pln := rfl
@[simp] theorem State.set_jrn (f : Fld) (idx : List Nat) (v : Nat) : (s.set f idx v).jrn = s.jrn := rfl
@[simp] theorem State.set_hst (f : Fld) (idx : List Nat) (v : Nat) : (s.set f idx v).hst = s.hst := rfl
@[simp] theorem State.set_pio (f : Fld) (idx : List Nat) (v : Nat) : (s.set f idx v).pio = s.pio := rfl
@[simp] theorem State.set_tel (f : Fld) (idx : List Nat) (v : Nat) : (s.set f idx v).tel = s.tel := rfl
@[simp] theorem State.set_can (f : Fld) (idx : List Nat) (v : Nat) : (s.set f idx v).can = s.can := rfl
@[simp] theorem State.set_lpe (f : Fld) (idx : List Nat) (v : Nat) : (s.set f idx v).lpe = s.lpe := rfl
@[simp] theorem State.set_drv (f : Fld) (idx : List Nat) (v : Nat) : (s.set f idx v).drv = s.drv := rfl
@[simp] theorem State.set_prt (f : Fld) (idx : List Nat) (v : Nat) : (s.set f idx v).prt = s.prt := rfl
@[simp] theorem State.set_frm (f : Fld) (idx : List Nat) (v : Nat) : (s.set f idx v).frm = s.frm := rfl
@[simp] theorem State.set_cap (f : Fld) (idx : List Nat) (v : Nat) : (s.set f idx v).cap = s.cap := rfl
@[simp] theorem State.set_lad (f : Fld) (idx : List Nat) (v : Nat) : (s.set f idx v).lad = s.lad := rfl
@[simp] theorem State.set_rcd (f : Fld) (idx : List Nat) (v : Nat) : (s.set f idx v).rcd = s.rcd := rfl
@[simp] theorem State.set_pair (f : Fld) (idx : List Nat) (v : Nat) : (s.set f idx v).pair = s.pair := rfl
@[simp] theorem State.set_dom (f : Fld) (idx : List Nat) (v : Nat) : (s.set f idx v).dom = s.dom := rfl
@[simp] theorem State.set_rst (f : Fld) (idx : List Nat) (v : Nat) : (s.set f idx v).rst = s.rst := rfl
@[simp] theorem State.set_nv (f : Fld) (idx : List Nat) (v : Nat) : (s.set f idx v).nv = s.nv := rfl
@[simp] theorem State.set_boot (f : Fld) (idx : List Nat) (v : Nat) : (s.set f idx v).boot = s.boot := rfl
@[simp] theorem State.set_acs (f : Fld) (idx : List Nat) (v : Nat) : (s.set f idx v).acs = s.acs := rfl

@[simp] theorem State.setI_pending (f : Fld) (idx : List Nat) (v : Int) : (s.setI f idx v).pending = s.pending := rfl
@[simp] theorem State.setI_now (f : Fld) (idx : List Nat) (v : Int) : (s.setI f idx v).now = s.now := rfl
@[simp] theorem State.setI_free (f : Fld) (idx : List Nat) (v : Int) : (s.setI f idx v).free = s.free := rfl
@[simp] theorem State.setI_out (f : Fld) (idx : List Nat) (v : Int) : (s.setI f idx v).out = s.out := rfl
@[simp] theorem State.setI_regs (f : Fld) (idx : List Nat) (v : Int) : (s.setI f idx v).regs = rset s.regs f idx (unsigned f.width v) := rfl
@[simp] theorem State.setI_hbm (f : Fld) (idx : List Nat) (v : Int) : (s.setI f idx v).hbm = s.hbm := rfl
@[simp] theorem State.setI_fab (f : Fld) (idx : List Nat) (v : Int) : (s.setI f idx v).fab = s.fab := rfl
@[simp] theorem State.setI_runs (f : Fld) (idx : List Nat) (v : Int) : (s.setI f idx v).runs = s.runs := rfl
@[simp] theorem State.setI_regions (f : Fld) (idx : List Nat) (v : Int) : (s.setI f idx v).regions = s.regions := rfl
@[simp] theorem State.setI_snap (f : Fld) (idx : List Nat) (v : Int) : (s.setI f idx v).snap = s.snap := rfl
@[simp] theorem State.setI_pln (f : Fld) (idx : List Nat) (v : Int) : (s.setI f idx v).pln = s.pln := rfl
@[simp] theorem State.setI_jrn (f : Fld) (idx : List Nat) (v : Int) : (s.setI f idx v).jrn = s.jrn := rfl
@[simp] theorem State.setI_hst (f : Fld) (idx : List Nat) (v : Int) : (s.setI f idx v).hst = s.hst := rfl
@[simp] theorem State.setI_pio (f : Fld) (idx : List Nat) (v : Int) : (s.setI f idx v).pio = s.pio := rfl
@[simp] theorem State.setI_tel (f : Fld) (idx : List Nat) (v : Int) : (s.setI f idx v).tel = s.tel := rfl
@[simp] theorem State.setI_can (f : Fld) (idx : List Nat) (v : Int) : (s.setI f idx v).can = s.can := rfl
@[simp] theorem State.setI_lpe (f : Fld) (idx : List Nat) (v : Int) : (s.setI f idx v).lpe = s.lpe := rfl
@[simp] theorem State.setI_drv (f : Fld) (idx : List Nat) (v : Int) : (s.setI f idx v).drv = s.drv := rfl
@[simp] theorem State.setI_prt (f : Fld) (idx : List Nat) (v : Int) : (s.setI f idx v).prt = s.prt := rfl
@[simp] theorem State.setI_frm (f : Fld) (idx : List Nat) (v : Int) : (s.setI f idx v).frm = s.frm := rfl
@[simp] theorem State.setI_cap (f : Fld) (idx : List Nat) (v : Int) : (s.setI f idx v).cap = s.cap := rfl
@[simp] theorem State.setI_lad (f : Fld) (idx : List Nat) (v : Int) : (s.setI f idx v).lad = s.lad := rfl
@[simp] theorem State.setI_rcd (f : Fld) (idx : List Nat) (v : Int) : (s.setI f idx v).rcd = s.rcd := rfl
@[simp] theorem State.setI_pair (f : Fld) (idx : List Nat) (v : Int) : (s.setI f idx v).pair = s.pair := rfl
@[simp] theorem State.setI_dom (f : Fld) (idx : List Nat) (v : Int) : (s.setI f idx v).dom = s.dom := rfl
@[simp] theorem State.setI_rst (f : Fld) (idx : List Nat) (v : Int) : (s.setI f idx v).rst = s.rst := rfl
@[simp] theorem State.setI_nv (f : Fld) (idx : List Nat) (v : Int) : (s.setI f idx v).nv = s.nv := rfl
@[simp] theorem State.setI_boot (f : Fld) (idx : List Nat) (v : Int) : (s.setI f idx v).boot = s.boot := rfl
@[simp] theorem State.setI_acs (f : Fld) (idx : List Nat) (v : Int) : (s.setI f idx v).acs = s.acs := rfl

@[simp] theorem State.bump_pending (f : Fld) (idx : List Nat) (n : Nat) : (s.bump f idx n).pending = s.pending := rfl
@[simp] theorem State.bump_now (f : Fld) (idx : List Nat) (n : Nat) : (s.bump f idx n).now = s.now := rfl
@[simp] theorem State.bump_free (f : Fld) (idx : List Nat) (n : Nat) : (s.bump f idx n).free = s.free := rfl
@[simp] theorem State.bump_out (f : Fld) (idx : List Nat) (n : Nat) : (s.bump f idx n).out = s.out := rfl
@[simp] theorem State.bump_regs (f : Fld) (idx : List Nat) (n : Nat) : (s.bump f idx n).regs = rset s.regs f idx (min (rget s.regs f idx + n) (2 ^ f.width - 1)) := rfl
@[simp] theorem State.bump_hbm (f : Fld) (idx : List Nat) (n : Nat) : (s.bump f idx n).hbm = s.hbm := rfl
@[simp] theorem State.bump_fab (f : Fld) (idx : List Nat) (n : Nat) : (s.bump f idx n).fab = s.fab := rfl
@[simp] theorem State.bump_runs (f : Fld) (idx : List Nat) (n : Nat) : (s.bump f idx n).runs = s.runs := rfl
@[simp] theorem State.bump_regions (f : Fld) (idx : List Nat) (n : Nat) : (s.bump f idx n).regions = s.regions := rfl
@[simp] theorem State.bump_snap (f : Fld) (idx : List Nat) (n : Nat) : (s.bump f idx n).snap = s.snap := rfl
@[simp] theorem State.bump_pln (f : Fld) (idx : List Nat) (n : Nat) : (s.bump f idx n).pln = s.pln := rfl
@[simp] theorem State.bump_jrn (f : Fld) (idx : List Nat) (n : Nat) : (s.bump f idx n).jrn = s.jrn := rfl
@[simp] theorem State.bump_hst (f : Fld) (idx : List Nat) (n : Nat) : (s.bump f idx n).hst = s.hst := rfl
@[simp] theorem State.bump_pio (f : Fld) (idx : List Nat) (n : Nat) : (s.bump f idx n).pio = s.pio := rfl
@[simp] theorem State.bump_tel (f : Fld) (idx : List Nat) (n : Nat) : (s.bump f idx n).tel = s.tel := rfl
@[simp] theorem State.bump_can (f : Fld) (idx : List Nat) (n : Nat) : (s.bump f idx n).can = s.can := rfl
@[simp] theorem State.bump_lpe (f : Fld) (idx : List Nat) (n : Nat) : (s.bump f idx n).lpe = s.lpe := rfl
@[simp] theorem State.bump_drv (f : Fld) (idx : List Nat) (n : Nat) : (s.bump f idx n).drv = s.drv := rfl
@[simp] theorem State.bump_prt (f : Fld) (idx : List Nat) (n : Nat) : (s.bump f idx n).prt = s.prt := rfl
@[simp] theorem State.bump_frm (f : Fld) (idx : List Nat) (n : Nat) : (s.bump f idx n).frm = s.frm := rfl
@[simp] theorem State.bump_cap (f : Fld) (idx : List Nat) (n : Nat) : (s.bump f idx n).cap = s.cap := rfl
@[simp] theorem State.bump_lad (f : Fld) (idx : List Nat) (n : Nat) : (s.bump f idx n).lad = s.lad := rfl
@[simp] theorem State.bump_rcd (f : Fld) (idx : List Nat) (n : Nat) : (s.bump f idx n).rcd = s.rcd := rfl
@[simp] theorem State.bump_pair (f : Fld) (idx : List Nat) (n : Nat) : (s.bump f idx n).pair = s.pair := rfl
@[simp] theorem State.bump_dom (f : Fld) (idx : List Nat) (n : Nat) : (s.bump f idx n).dom = s.dom := rfl
@[simp] theorem State.bump_rst (f : Fld) (idx : List Nat) (n : Nat) : (s.bump f idx n).rst = s.rst := rfl
@[simp] theorem State.bump_nv (f : Fld) (idx : List Nat) (n : Nat) : (s.bump f idx n).nv = s.nv := rfl
@[simp] theorem State.bump_boot (f : Fld) (idx : List Nat) (n : Nat) : (s.bump f idx n).boot = s.boot := rfl
@[simp] theorem State.bump_acs (f : Fld) (idx : List Nat) (n : Nat) : (s.bump f idx n).acs = s.acs := rfl

@[simp] theorem State.bumpWrap_pending (f : Fld) (idx : List Nat) (n : Nat) : (s.bumpWrap f idx n).pending = s.pending := rfl
@[simp] theorem State.bumpWrap_now (f : Fld) (idx : List Nat) (n : Nat) : (s.bumpWrap f idx n).now = s.now := rfl
@[simp] theorem State.bumpWrap_free (f : Fld) (idx : List Nat) (n : Nat) : (s.bumpWrap f idx n).free = s.free := rfl
@[simp] theorem State.bumpWrap_out (f : Fld) (idx : List Nat) (n : Nat) : (s.bumpWrap f idx n).out = s.out := rfl
@[simp] theorem State.bumpWrap_regs (f : Fld) (idx : List Nat) (n : Nat) : (s.bumpWrap f idx n).regs = rset s.regs f idx (rget s.regs f idx + n) := rfl
@[simp] theorem State.bumpWrap_hbm (f : Fld) (idx : List Nat) (n : Nat) : (s.bumpWrap f idx n).hbm = s.hbm := rfl
@[simp] theorem State.bumpWrap_fab (f : Fld) (idx : List Nat) (n : Nat) : (s.bumpWrap f idx n).fab = s.fab := rfl
@[simp] theorem State.bumpWrap_runs (f : Fld) (idx : List Nat) (n : Nat) : (s.bumpWrap f idx n).runs = s.runs := rfl
@[simp] theorem State.bumpWrap_regions (f : Fld) (idx : List Nat) (n : Nat) : (s.bumpWrap f idx n).regions = s.regions := rfl
@[simp] theorem State.bumpWrap_snap (f : Fld) (idx : List Nat) (n : Nat) : (s.bumpWrap f idx n).snap = s.snap := rfl
@[simp] theorem State.bumpWrap_pln (f : Fld) (idx : List Nat) (n : Nat) : (s.bumpWrap f idx n).pln = s.pln := rfl
@[simp] theorem State.bumpWrap_jrn (f : Fld) (idx : List Nat) (n : Nat) : (s.bumpWrap f idx n).jrn = s.jrn := rfl
@[simp] theorem State.bumpWrap_hst (f : Fld) (idx : List Nat) (n : Nat) : (s.bumpWrap f idx n).hst = s.hst := rfl
@[simp] theorem State.bumpWrap_pio (f : Fld) (idx : List Nat) (n : Nat) : (s.bumpWrap f idx n).pio = s.pio := rfl
@[simp] theorem State.bumpWrap_tel (f : Fld) (idx : List Nat) (n : Nat) : (s.bumpWrap f idx n).tel = s.tel := rfl
@[simp] theorem State.bumpWrap_can (f : Fld) (idx : List Nat) (n : Nat) : (s.bumpWrap f idx n).can = s.can := rfl
@[simp] theorem State.bumpWrap_lpe (f : Fld) (idx : List Nat) (n : Nat) : (s.bumpWrap f idx n).lpe = s.lpe := rfl
@[simp] theorem State.bumpWrap_drv (f : Fld) (idx : List Nat) (n : Nat) : (s.bumpWrap f idx n).drv = s.drv := rfl
@[simp] theorem State.bumpWrap_prt (f : Fld) (idx : List Nat) (n : Nat) : (s.bumpWrap f idx n).prt = s.prt := rfl
@[simp] theorem State.bumpWrap_frm (f : Fld) (idx : List Nat) (n : Nat) : (s.bumpWrap f idx n).frm = s.frm := rfl
@[simp] theorem State.bumpWrap_cap (f : Fld) (idx : List Nat) (n : Nat) : (s.bumpWrap f idx n).cap = s.cap := rfl
@[simp] theorem State.bumpWrap_lad (f : Fld) (idx : List Nat) (n : Nat) : (s.bumpWrap f idx n).lad = s.lad := rfl
@[simp] theorem State.bumpWrap_rcd (f : Fld) (idx : List Nat) (n : Nat) : (s.bumpWrap f idx n).rcd = s.rcd := rfl
@[simp] theorem State.bumpWrap_pair (f : Fld) (idx : List Nat) (n : Nat) : (s.bumpWrap f idx n).pair = s.pair := rfl
@[simp] theorem State.bumpWrap_dom (f : Fld) (idx : List Nat) (n : Nat) : (s.bumpWrap f idx n).dom = s.dom := rfl
@[simp] theorem State.bumpWrap_rst (f : Fld) (idx : List Nat) (n : Nat) : (s.bumpWrap f idx n).rst = s.rst := rfl
@[simp] theorem State.bumpWrap_nv (f : Fld) (idx : List Nat) (n : Nat) : (s.bumpWrap f idx n).nv = s.nv := rfl
@[simp] theorem State.bumpWrap_boot (f : Fld) (idx : List Nat) (n : Nat) : (s.bumpWrap f idx n).boot = s.boot := rfl
@[simp] theorem State.bumpWrap_acs (f : Fld) (idx : List Nat) (n : Nat) : (s.bumpWrap f idx n).acs = s.acs := rfl

@[simp] theorem State.at_pending (t : Tai) : (s.at t).pending = s.pending := rfl
@[simp] theorem State.at_now (t : Tai) : (s.at t).now = t := rfl
@[simp] theorem State.at_free (t : Tai) : (s.at t).free = s.free := rfl
@[simp] theorem State.at_out (t : Tai) : (s.at t).out = [] := rfl
@[simp] theorem State.at_regs (t : Tai) : (s.at t).regs = s.regs := rfl
@[simp] theorem State.at_hbm (t : Tai) : (s.at t).hbm = s.hbm := rfl
@[simp] theorem State.at_fab (t : Tai) : (s.at t).fab = s.fab := rfl
@[simp] theorem State.at_runs (t : Tai) : (s.at t).runs = s.runs := rfl
@[simp] theorem State.at_regions (t : Tai) : (s.at t).regions = s.regions := rfl
@[simp] theorem State.at_snap (t : Tai) : (s.at t).snap = s.snap := rfl
@[simp] theorem State.at_pln (t : Tai) : (s.at t).pln = s.pln := rfl
@[simp] theorem State.at_jrn (t : Tai) : (s.at t).jrn = s.jrn := rfl
@[simp] theorem State.at_hst (t : Tai) : (s.at t).hst = s.hst := rfl
@[simp] theorem State.at_pio (t : Tai) : (s.at t).pio = s.pio := rfl
@[simp] theorem State.at_tel (t : Tai) : (s.at t).tel = s.tel := rfl
@[simp] theorem State.at_can (t : Tai) : (s.at t).can = s.can := rfl
@[simp] theorem State.at_lpe (t : Tai) : (s.at t).lpe = s.lpe := rfl
@[simp] theorem State.at_drv (t : Tai) : (s.at t).drv = s.drv := rfl
@[simp] theorem State.at_prt (t : Tai) : (s.at t).prt = s.prt := rfl
@[simp] theorem State.at_frm (t : Tai) : (s.at t).frm = s.frm := rfl
@[simp] theorem State.at_cap (t : Tai) : (s.at t).cap = s.cap := rfl
@[simp] theorem State.at_lad (t : Tai) : (s.at t).lad = s.lad := rfl
@[simp] theorem State.at_rcd (t : Tai) : (s.at t).rcd = s.rcd := rfl
@[simp] theorem State.at_pair (t : Tai) : (s.at t).pair = s.pair := rfl
@[simp] theorem State.at_dom (t : Tai) : (s.at t).dom = s.dom := rfl
@[simp] theorem State.at_rst (t : Tai) : (s.at t).rst = s.rst := rfl
@[simp] theorem State.at_nv (t : Tai) : (s.at t).nv = s.nv := rfl
@[simp] theorem State.at_boot (t : Tai) : (s.at t).boot = s.boot := rfl
@[simp] theorem State.at_acs (t : Tai) : (s.at t).acs = s.acs := rfl

@[simp] theorem State.quiet_pending : (s.quiet).pending = s.pending := rfl
@[simp] theorem State.quiet_now : (s.quiet).now = s.now := rfl
@[simp] theorem State.quiet_free : (s.quiet).free = s.free := rfl
@[simp] theorem State.quiet_out : (s.quiet).out = [] := rfl
@[simp] theorem State.quiet_regs : (s.quiet).regs = s.regs := rfl
@[simp] theorem State.quiet_hbm : (s.quiet).hbm = s.hbm := rfl
@[simp] theorem State.quiet_fab : (s.quiet).fab = s.fab := rfl
@[simp] theorem State.quiet_runs : (s.quiet).runs = s.runs := rfl
@[simp] theorem State.quiet_regions : (s.quiet).regions = s.regions := rfl
@[simp] theorem State.quiet_snap : (s.quiet).snap = s.snap := rfl
@[simp] theorem State.quiet_pln : (s.quiet).pln = s.pln := rfl
@[simp] theorem State.quiet_jrn : (s.quiet).jrn = s.jrn := rfl
@[simp] theorem State.quiet_hst : (s.quiet).hst = s.hst := rfl
@[simp] theorem State.quiet_pio : (s.quiet).pio = s.pio := rfl
@[simp] theorem State.quiet_tel : (s.quiet).tel = s.tel := rfl
@[simp] theorem State.quiet_can : (s.quiet).can = s.can := rfl
@[simp] theorem State.quiet_lpe : (s.quiet).lpe = s.lpe := rfl
@[simp] theorem State.quiet_drv : (s.quiet).drv = s.drv := rfl
@[simp] theorem State.quiet_prt : (s.quiet).prt = s.prt := rfl
@[simp] theorem State.quiet_frm : (s.quiet).frm = s.frm := rfl
@[simp] theorem State.quiet_cap : (s.quiet).cap = s.cap := rfl
@[simp] theorem State.quiet_lad : (s.quiet).lad = s.lad := rfl
@[simp] theorem State.quiet_rcd : (s.quiet).rcd = s.rcd := rfl
@[simp] theorem State.quiet_pair : (s.quiet).pair = s.pair := rfl
@[simp] theorem State.quiet_dom : (s.quiet).dom = s.dom := rfl
@[simp] theorem State.quiet_rst : (s.quiet).rst = s.rst := rfl
@[simp] theorem State.quiet_nv : (s.quiet).nv = s.nv := rfl
@[simp] theorem State.quiet_boot : (s.quiet).boot = s.boot := rfl
@[simp] theorem State.quiet_acs : (s.quiet).acs = s.acs := rfl

@[simp] theorem State.emit_pending (o : Output) : (s.emit o).pending = s.pending := rfl
@[simp] theorem State.emit_now (o : Output) : (s.emit o).now = s.now := rfl
@[simp] theorem State.emit_free (o : Output) : (s.emit o).free = s.free := rfl
@[simp] theorem State.emit_out (o : Output) : (s.emit o).out = s.out ++ [o] := rfl
@[simp] theorem State.emit_regs (o : Output) : (s.emit o).regs = s.regs := rfl
@[simp] theorem State.emit_hbm (o : Output) : (s.emit o).hbm = s.hbm := rfl
@[simp] theorem State.emit_fab (o : Output) : (s.emit o).fab = s.fab := rfl
@[simp] theorem State.emit_runs (o : Output) : (s.emit o).runs = s.runs := rfl
@[simp] theorem State.emit_regions (o : Output) : (s.emit o).regions = s.regions := rfl
@[simp] theorem State.emit_snap (o : Output) : (s.emit o).snap = s.snap := rfl
@[simp] theorem State.emit_pln (o : Output) : (s.emit o).pln = s.pln := rfl
@[simp] theorem State.emit_jrn (o : Output) : (s.emit o).jrn = s.jrn := rfl
@[simp] theorem State.emit_hst (o : Output) : (s.emit o).hst = s.hst := rfl
@[simp] theorem State.emit_pio (o : Output) : (s.emit o).pio = s.pio := rfl
@[simp] theorem State.emit_tel (o : Output) : (s.emit o).tel = s.tel := rfl
@[simp] theorem State.emit_can (o : Output) : (s.emit o).can = s.can := rfl
@[simp] theorem State.emit_lpe (o : Output) : (s.emit o).lpe = s.lpe := rfl
@[simp] theorem State.emit_drv (o : Output) : (s.emit o).drv = s.drv := rfl
@[simp] theorem State.emit_prt (o : Output) : (s.emit o).prt = s.prt := rfl
@[simp] theorem State.emit_frm (o : Output) : (s.emit o).frm = s.frm := rfl
@[simp] theorem State.emit_cap (o : Output) : (s.emit o).cap = s.cap := rfl
@[simp] theorem State.emit_lad (o : Output) : (s.emit o).lad = s.lad := rfl
@[simp] theorem State.emit_rcd (o : Output) : (s.emit o).rcd = s.rcd := rfl
@[simp] theorem State.emit_pair (o : Output) : (s.emit o).pair = s.pair := rfl
@[simp] theorem State.emit_dom (o : Output) : (s.emit o).dom = s.dom := rfl
@[simp] theorem State.emit_rst (o : Output) : (s.emit o).rst = s.rst := rfl
@[simp] theorem State.emit_nv (o : Output) : (s.emit o).nv = s.nv := rfl
@[simp] theorem State.emit_boot (o : Output) : (s.emit o).boot = s.boot := rfl
@[simp] theorem State.emit_acs (o : Output) : (s.emit o).acs = s.acs := rfl

@[simp] theorem State.draw_pending : (s.draw).pending = s.pending := rfl
@[simp] theorem State.draw_now : (s.draw).now = s.now := rfl
@[simp] theorem State.draw_free : (s.draw).free = s.free + 1 := rfl
@[simp] theorem State.draw_out : (s.draw).out = s.out := rfl
@[simp] theorem State.draw_regs : (s.draw).regs = s.regs := rfl
@[simp] theorem State.draw_hbm : (s.draw).hbm = s.hbm := rfl
@[simp] theorem State.draw_fab : (s.draw).fab = s.fab := rfl
@[simp] theorem State.draw_runs : (s.draw).runs = s.runs := rfl
@[simp] theorem State.draw_regions : (s.draw).regions = s.regions := rfl
@[simp] theorem State.draw_snap : (s.draw).snap = s.snap := rfl
@[simp] theorem State.draw_pln : (s.draw).pln = s.pln := rfl
@[simp] theorem State.draw_jrn : (s.draw).jrn = s.jrn := rfl
@[simp] theorem State.draw_hst : (s.draw).hst = s.hst := rfl
@[simp] theorem State.draw_pio : (s.draw).pio = s.pio := rfl
@[simp] theorem State.draw_tel : (s.draw).tel = s.tel := rfl
@[simp] theorem State.draw_can : (s.draw).can = s.can := rfl
@[simp] theorem State.draw_lpe : (s.draw).lpe = s.lpe := rfl
@[simp] theorem State.draw_drv : (s.draw).drv = s.drv := rfl
@[simp] theorem State.draw_prt : (s.draw).prt = s.prt := rfl
@[simp] theorem State.draw_frm : (s.draw).frm = s.frm := rfl
@[simp] theorem State.draw_cap : (s.draw).cap = s.cap := rfl
@[simp] theorem State.draw_lad : (s.draw).lad = s.lad := rfl
@[simp] theorem State.draw_rcd : (s.draw).rcd = s.rcd := rfl
@[simp] theorem State.draw_pair : (s.draw).pair = s.pair := rfl
@[simp] theorem State.draw_dom : (s.draw).dom = s.dom := rfl
@[simp] theorem State.draw_rst : (s.draw).rst = s.rst := rfl
@[simp] theorem State.draw_nv : (s.draw).nv = s.nv := rfl
@[simp] theorem State.draw_boot : (s.draw).boot = s.boot := rfl
@[simp] theorem State.draw_acs : (s.draw).acs = s.acs := rfl

@[simp] theorem State.setTus_pending (k : Nat) (x : Tus) : (s.setTus k x).pending = s.pending := rfl
@[simp] theorem State.setTus_now (k : Nat) (x : Tus) : (s.setTus k x).now = s.now := rfl
@[simp] theorem State.setTus_free (k : Nat) (x : Tus) : (s.setTus k x).free = s.free := rfl
@[simp] theorem State.setTus_out (k : Nat) (x : Tus) : (s.setTus k x).out = s.out := rfl
@[simp] theorem State.setTus_regs (k : Nat) (x : Tus) : (s.setTus k x).regs = s.regs := rfl
@[simp] theorem State.setTus_hbm (k : Nat) (x : Tus) : (s.setTus k x).hbm = s.hbm := rfl
@[simp] theorem State.setTus_fab (k : Nat) (x : Tus) : (s.setTus k x).fab = { s.fab with tus := Tbl.put s.fab.tus k x } := rfl
@[simp] theorem State.setTus_runs (k : Nat) (x : Tus) : (s.setTus k x).runs = s.runs := rfl
@[simp] theorem State.setTus_regions (k : Nat) (x : Tus) : (s.setTus k x).regions = s.regions := rfl
@[simp] theorem State.setTus_snap (k : Nat) (x : Tus) : (s.setTus k x).snap = s.snap := rfl
@[simp] theorem State.setTus_pln (k : Nat) (x : Tus) : (s.setTus k x).pln = s.pln := rfl
@[simp] theorem State.setTus_jrn (k : Nat) (x : Tus) : (s.setTus k x).jrn = s.jrn := rfl
@[simp] theorem State.setTus_hst (k : Nat) (x : Tus) : (s.setTus k x).hst = s.hst := rfl
@[simp] theorem State.setTus_pio (k : Nat) (x : Tus) : (s.setTus k x).pio = s.pio := rfl
@[simp] theorem State.setTus_tel (k : Nat) (x : Tus) : (s.setTus k x).tel = s.tel := rfl
@[simp] theorem State.setTus_can (k : Nat) (x : Tus) : (s.setTus k x).can = s.can := rfl
@[simp] theorem State.setTus_lpe (k : Nat) (x : Tus) : (s.setTus k x).lpe = s.lpe := rfl
@[simp] theorem State.setTus_drv (k : Nat) (x : Tus) : (s.setTus k x).drv = s.drv := rfl
@[simp] theorem State.setTus_prt (k : Nat) (x : Tus) : (s.setTus k x).prt = s.prt := rfl
@[simp] theorem State.setTus_frm (k : Nat) (x : Tus) : (s.setTus k x).frm = s.frm := rfl
@[simp] theorem State.setTus_cap (k : Nat) (x : Tus) : (s.setTus k x).cap = s.cap := rfl
@[simp] theorem State.setTus_lad (k : Nat) (x : Tus) : (s.setTus k x).lad = s.lad := rfl
@[simp] theorem State.setTus_rcd (k : Nat) (x : Tus) : (s.setTus k x).rcd = s.rcd := rfl
@[simp] theorem State.setTus_pair (k : Nat) (x : Tus) : (s.setTus k x).pair = s.pair := rfl
@[simp] theorem State.setTus_dom (k : Nat) (x : Tus) : (s.setTus k x).dom = s.dom := rfl
@[simp] theorem State.setTus_rst (k : Nat) (x : Tus) : (s.setTus k x).rst = s.rst := rfl
@[simp] theorem State.setTus_nv (k : Nat) (x : Tus) : (s.setTus k x).nv = s.nv := rfl
@[simp] theorem State.setTus_boot (k : Nat) (x : Tus) : (s.setTus k x).boot = s.boot := rfl
@[simp] theorem State.setTus_acs (k : Nat) (x : Tus) : (s.setTus k x).acs = s.acs := rfl

@[simp] theorem State.setHumSram_pending (h : Nat) (m : Mem) : (s.setHumSram h m).pending = s.pending := rfl
@[simp] theorem State.setHumSram_now (h : Nat) (m : Mem) : (s.setHumSram h m).now = s.now := rfl
@[simp] theorem State.setHumSram_free (h : Nat) (m : Mem) : (s.setHumSram h m).free = s.free := rfl
@[simp] theorem State.setHumSram_out (h : Nat) (m : Mem) : (s.setHumSram h m).out = s.out := rfl
@[simp] theorem State.setHumSram_regs (h : Nat) (m : Mem) : (s.setHumSram h m).regs = s.regs := rfl
@[simp] theorem State.setHumSram_hbm (h : Nat) (m : Mem) : (s.setHumSram h m).hbm = s.hbm := rfl
@[simp] theorem State.setHumSram_fab (h : Nat) (m : Mem) : (s.setHumSram h m).fab = { s.fab with hum := Tbl.put s.fab.hum h m } := rfl
@[simp] theorem State.setHumSram_runs (h : Nat) (m : Mem) : (s.setHumSram h m).runs = s.runs := rfl
@[simp] theorem State.setHumSram_regions (h : Nat) (m : Mem) : (s.setHumSram h m).regions = s.regions := rfl
@[simp] theorem State.setHumSram_snap (h : Nat) (m : Mem) : (s.setHumSram h m).snap = s.snap := rfl
@[simp] theorem State.setHumSram_pln (h : Nat) (m : Mem) : (s.setHumSram h m).pln = s.pln := rfl
@[simp] theorem State.setHumSram_jrn (h : Nat) (m : Mem) : (s.setHumSram h m).jrn = s.jrn := rfl
@[simp] theorem State.setHumSram_hst (h : Nat) (m : Mem) : (s.setHumSram h m).hst = s.hst := rfl
@[simp] theorem State.setHumSram_pio (h : Nat) (m : Mem) : (s.setHumSram h m).pio = s.pio := rfl
@[simp] theorem State.setHumSram_tel (h : Nat) (m : Mem) : (s.setHumSram h m).tel = s.tel := rfl
@[simp] theorem State.setHumSram_can (h : Nat) (m : Mem) : (s.setHumSram h m).can = s.can := rfl
@[simp] theorem State.setHumSram_lpe (h : Nat) (m : Mem) : (s.setHumSram h m).lpe = s.lpe := rfl
@[simp] theorem State.setHumSram_drv (h : Nat) (m : Mem) : (s.setHumSram h m).drv = s.drv := rfl
@[simp] theorem State.setHumSram_prt (h : Nat) (m : Mem) : (s.setHumSram h m).prt = s.prt := rfl
@[simp] theorem State.setHumSram_frm (h : Nat) (m : Mem) : (s.setHumSram h m).frm = s.frm := rfl
@[simp] theorem State.setHumSram_cap (h : Nat) (m : Mem) : (s.setHumSram h m).cap = s.cap := rfl
@[simp] theorem State.setHumSram_lad (h : Nat) (m : Mem) : (s.setHumSram h m).lad = s.lad := rfl
@[simp] theorem State.setHumSram_rcd (h : Nat) (m : Mem) : (s.setHumSram h m).rcd = s.rcd := rfl
@[simp] theorem State.setHumSram_pair (h : Nat) (m : Mem) : (s.setHumSram h m).pair = s.pair := rfl
@[simp] theorem State.setHumSram_dom (h : Nat) (m : Mem) : (s.setHumSram h m).dom = s.dom := rfl
@[simp] theorem State.setHumSram_rst (h : Nat) (m : Mem) : (s.setHumSram h m).rst = s.rst := rfl
@[simp] theorem State.setHumSram_nv (h : Nat) (m : Mem) : (s.setHumSram h m).nv = s.nv := rfl
@[simp] theorem State.setHumSram_boot (h : Nat) (m : Mem) : (s.setHumSram h m).boot = s.boot := rfl
@[simp] theorem State.setHumSram_acs (h : Nat) (m : Mem) : (s.setHumSram h m).acs = s.acs := rfl

end Sys2Proof.Machine
end

