-- ==== Sys2Proof/Laws/Journal.lean ====
section
/-!
SUPPORT. What journalling an entry and raising an event can do: change the journal, the host interface, the output and the
registers of `noteOffs`.
-/
namespace Sys2Proof.Machine

/-- `s'` differs from `s` at most by journal entries and events. -/
structure State.Journals (s s' : State) : Prop where
  same : s' = { s with out := s'.out, regs := s'.regs, jrn := s'.jrn, hst := s'.hst }
  regs : ∀ a, a ∉ noteOffs → Tbl.find s'.regs a = Tbl.find s.regs a
  wf : Tbl.wf s.regs = true → Tbl.wf s'.regs = true

theorem State.Journals.rfl' (s : State) : s.Journals s := ⟨rfl, fun _ _ => rfl, id⟩

theorem State.Journals.trans {a b c : State} (h : a.Journals b) (k : b.Journals c) : a.Journals c := by
  refine ⟨?_, fun x hx => (k.regs x hx).trans (h.regs x hx), fun w => k.wf (h.wf w)⟩
  have e := k.same
  rw [h.same] at e
  exact e

theorem State.Journals.set (s : State) (f : Fld) (idx : List Nat) (v : Nat) (h : f.reg.off idx ∈ noteOffs) : s.Journals (s.set f idx v) :=
  ⟨rfl, fun _ ha => find_rset_ne _ _ _ _ _ (fun e => ha (e ▸ h)), fun w => Tbl.wf_put _ _ _ w⟩

theorem State.Journals.emit (s : State) (o : Output) : s.Journals (s.emit o) := ⟨rfl, fun _ _ => rfl, id⟩
theorem State.Journals.jrn (s : State) (j : Jrn) : s.Journals { s with jrn := j } := ⟨rfl, fun _ _ => rfl, id⟩
theorem State.Journals.hst (s : State) (j : Hst) : s.Journals { s with hst := j } := ⟨rfl, fun _ _ => rfl, id⟩

theorem State.Journals.foldl {β : Type} (f : State → β → State) (hf : ∀ s b, State.Journals s (f s b)) (l : List β) (s : State) :
    s.Journals (l.foldl f s) := by
  induction l generalizing s with
  | nil => exact .rfl' s
  | cons b r ih => exact (hf s b).trans (ih _)

theorem State.journals_link (s : State) (e : JEntry) : s.Journals (s.link e) := by
  unfold State.link
  dsimp only
  split
  · exact (State.Journals.jrn s _).trans (.set _ _ _ _ (by decide))
  · exact (State.Journals.jrn s _).trans (.set _ _ _ _ (by decide))

theorem State.journals_coalesced (s : State) (n : Nat) : s.Journals (s.coalesced n) := .set _ _ _ _ (by decide)

theorem State.journals_checkpoint (s : State) : s.Journals s.checkpoint := by
  unfold State.checkpoint
  dsimp only
  split
  · exact .jrn _ _
  · exact (s.journals_link _).trans (.jrn _ _)

theorem State.journals_chain (s : State) (e : JEntry) : s.Journals (s.chain e) := by
  have h : ∀ x : State, s.Journals x → s.Journals (if 65536 ≤ x.jrn.sinceCkpt then x.checkpoint else x) := by
    intro x hx
    split
    · exact hx.trans x.journals_checkpoint
    · exact hx
  unfold State.chain
  apply h
  split
  · split
    · exact (State.Journals.jrn s _).trans (State.journals_coalesced _ _)
    · split
      · exact (State.Journals.jrn s _).trans (State.journals_coalesced _ _)
      · exact s.journals_link e
  · split
    · exact s.journals_link e
    · split
      · exact (State.Journals.jrn s _).trans (State.journals_coalesced _ _)
      · exact s.journals_link e

theorem State.journals_journal (s : State) (e : JEntry) : s.Journals (s.journal e) := by
  unfold State.journal
  split
  · exact .jrn _ _
  · exact s.journals_chain e

theorem State.journals_journalC (s : State) (e : JEntry) : s.Journals (s.journalC e) := by
  unfold State.journalC
  dsimp only
  generalize (if s.fabricTakes = true then e else { e with flags := e.flags ||| jDeferred }) = e
  split
  · split
    · exact (State.Journals.jrn s _).trans (State.journals_coalesced _ _)
    · split
      · exact .jrn _ _
      · exact s.journals_coalesced _
  · exact .jrn _ _

theorem State.journals_message (s : State) (v : Nat) : s.Journals (s.message v) := by
  unfold State.message
  split
  · exact .set _ _ _ _ (by simp [noteOffs, F.hstMsixPba_PENDING])
  · exact .emit _ _

theorem State.journals_signalVec (s : State) (v : Nat) : s.Journals (s.signalVec v) := by
  unfold State.signalVec
  dsimp only
  split
  · exact .hst _ _
  · exact (State.Journals.hst s _).trans (State.journals_message _ v)

theorem State.journals_push (s : State) (b : List Byte) : s.Journals (s.push 1 b) := by
  unfold State.push
  exact (State.Journals.emit s _).trans (.set _ _ _ _ (by decide))

theorem State.journals_publish (s : State) (i vec : Nat) : s.Journals (s.publish i vec) := by
  unfold State.publish
  dsimp only
  split
  · exact (State.Journals.emit s _).trans (State.journals_signalVec _ _)
  · exact .emit _ _

theorem State.journals_lostReport (s : State) : s.Journals s.lostReport := by
  unfold State.lostReport
  split
  · exact ((State.Journals.hst s _).trans (State.journals_push _ _)).trans (State.journals_publish _ _ _)
  · exact .rfl' s

theorem State.journals_hostEvent (s : State) (type sev tag code data : Nat) : s.Journals (s.hostEvent type sev tag code data) := by
  unfold State.hostEvent
  dsimp only
  split
  · exact .rfl' s
  · refine s.journals_lostReport.trans ?_
    split
    · exact (State.Journals.hst _ _).trans (.set _ _ _ _ (by decide))
    · exact (State.journals_push _ _).trans (State.journals_publish _ _ _)

/-- What a note can do. -/
theorem State.journals_note (s : State) (e : Note) : s.Journals (s.note e) := by
  unfold State.note
  dsimp only
  have h : ∀ j, s.Journals (if e.who < 9 then s.journal j else s.journalC j) := by
    intro j
    split
    · exact s.journals_journal _
    · exact s.journals_journalC _
  split
  · exact (h _).trans (State.journals_hostEvent _ _ _ _ _ _)
  · exact h _

theorem State.journals_complete (s : State) (tag code data : Nat) : s.Journals (s.complete tag code data) :=
  s.journals_hostEvent _ _ _ _ _

theorem State.journals_completeAtEdge (s : State) (tag code data : Nat) : s.Journals (s.completeAtEdge tag code data) := by
  unfold State.completeAtEdge
  split
  · exact .hst _ _
  · exact s.journals_complete _ _ _

/-- A field outside the journal's registers reads as before. -/
theorem State.Journals.get {s s' : State} (h : s.Journals s') (f : Fld) (idx : List Nat) (hf : f.reg.off idx ∉ noteOffs) :
    s'.get f idx = s.get f idx := rget_congr f idx (h.regs _ hf)

theorem State.get_note (s : State) (e : Note) (f : Fld) (idx : List Nat) (hf : f.reg.off idx ∉ noteOffs) :
    (s.note e).get f idx = s.get f idx := (s.journals_note e).get f idx hf

/-- A note changes no register outside a list that holds `noteOffs`. -/
theorem State.find_note_of_notMem {s : State} {e : Note} {a : Nat} {l : List Nat} (ha : a ∉ l) (hl : noteOffs ⊆ l) :
    Tbl.find (s.note e).regs a = Tbl.find s.regs a := (s.journals_note e).regs a (fun h => ha (hl h))

@[simp] theorem State.note_pending (s : State) (e : Note) : (s.note e).pending = s.pending := by have h := congrArg State.pending (s.journals_note e).same; exact h
@[simp] theorem State.note_now (s : State) (e : Note) : (s.note e).now = s.now := by have h := congrArg State.now (s.journals_note e).same; exact h
@[simp] theorem State.note_free (s : State) (e : Note) : (s.note e).free = s.free := by have h := congrArg State.free (s.journals_note e).same; exact h
@[simp] theorem State.note_hbm (s : State) (e : Note) : (s.note e).hbm = s.hbm := by have h := congrArg State.hbm (s.journals_note e).same; exact h
@[simp] theorem State.note_fab (s : State) (e : Note) : (s.note e).fab = s.fab := by have h := congrArg State.fab (s.journals_note e).same; exact h
@[simp] theorem State.note_runs (s : State) (e : Note) : (s.note e).runs = s.runs := by have h := congrArg State.runs (s.journals_note e).same; exact h
@[simp] theorem State.note_regions (s : State) (e : Note) : (s.note e).regions = s.regions := by have h := congrArg State.regions (s.journals_note e).same; exact h
@[simp] theorem State.note_snap (s : State) (e : Note) : (s.note e).snap = s.snap := by have h := congrArg State.snap (s.journals_note e).same; exact h
@[simp] theorem State.note_pln (s : State) (e : Note) : (s.note e).pln = s.pln := by have h := congrArg State.pln (s.journals_note e).same; exact h
@[simp] theorem State.note_pio (s : State) (e : Note) : (s.note e).pio = s.pio := by have h := congrArg State.pio (s.journals_note e).same; exact h
@[simp] theorem State.note_tel (s : State) (e : Note) : (s.note e).tel = s.tel := by have h := congrArg State.tel (s.journals_note e).same; exact h
@[simp] theorem State.note_can (s : State) (e : Note) : (s.note e).can = s.can := by have h := congrArg State.can (s.journals_note e).same; exact h
@[simp] theorem State.note_lpe (s : State) (e : Note) : (s.note e).lpe = s.lpe := by have h := congrArg State.lpe (s.journals_note e).same; exact h
@[simp] theorem State.note_drv (s : State) (e : Note) : (s.note e).drv = s.drv := by have h := congrArg State.drv (s.journals_note e).same; exact h
@[simp] theorem State.note_prt (s : State) (e : Note) : (s.note e).prt = s.prt := by have h := congrArg State.prt (s.journals_note e).same; exact h
@[simp] theorem State.note_frm (s : State) (e : Note) : (s.note e).frm = s.frm := by have h := congrArg State.frm (s.journals_note e).same; exact h
@[simp] theorem State.note_cap (s : State) (e : Note) : (s.note e).cap = s.cap := by have h := congrArg State.cap (s.journals_note e).same; exact h
@[simp] theorem State.note_lad (s : State) (e : Note) : (s.note e).lad = s.lad := by have h := congrArg State.lad (s.journals_note e).same; exact h
@[simp] theorem State.note_rcd (s : State) (e : Note) : (s.note e).rcd = s.rcd := by have h := congrArg State.rcd (s.journals_note e).same; exact h
@[simp] theorem State.note_pair (s : State) (e : Note) : (s.note e).pair = s.pair := by have h := congrArg State.pair (s.journals_note e).same; exact h
@[simp] theorem State.note_dom (s : State) (e : Note) : (s.note e).dom = s.dom := by have h := congrArg State.dom (s.journals_note e).same; exact h
@[simp] theorem State.note_rst (s : State) (e : Note) : (s.note e).rst = s.rst := by have h := congrArg State.rst (s.journals_note e).same; exact h
@[simp] theorem State.note_nv (s : State) (e : Note) : (s.note e).nv = s.nv := by have h := congrArg State.nv (s.journals_note e).same; exact h
@[simp] theorem State.note_boot (s : State) (e : Note) : (s.note e).boot = s.boot := by have h := congrArg State.boot (s.journals_note e).same; exact h
@[simp] theorem State.note_acs (s : State) (e : Note) : (s.note e).acs = s.acs := by have h := congrArg State.acs (s.journals_note e).same; exact h

end Sys2Proof.Machine
end

