-- ==== Sys2Proof/Laws/Drives.lean ====
section
/-!
SUPPORT. What the shared operations of the drives do: replacing one drive, a start, a fault, a failed attempt.
-/
namespace Sys2Proof.Machine

theorem State.pump_setPump_self (s : State) (p : Nat) (x : Pump) : (s.setPump p x).pump p = x := by
  simp [State.pump, State.setPump, Tbl.at_put_self]
theorem State.pump_setPump_ne (s : State) (p q : Nat) (x : Pump) (h : q ≠ p) : (s.setPump p x).pump q = s.pump q := by
  simp [State.pump, State.setPump, Tbl.at_put_ne _ _ _ _ _ h]
theorem State.pump_set (s : State) (f : Fld) (i : List Nat) (v q : Nat) : (s.set f i v).pump q = s.pump q := rfl
theorem State.pump_note (s : State) (e : Note) (q : Nat) : (s.note e).pump q = s.pump q := by simp [State.pump]
theorem State.fan_setFan_self (s : State) (f : Nat) (x : Fan) : (s.setFan f x).fan f = x := by
  simp [State.fan, State.setFan, Tbl.at_put_self]
theorem State.fan_setFan_ne (s : State) (f q : Nat) (x : Fan) (h : q ≠ f) : (s.setFan f x).fan q = s.fan q := by
  simp [State.fan, State.setFan, Tbl.at_put_ne _ _ _ _ _ h]
theorem State.fan_set (s : State) (f : Fld) (i : List Nat) (v q : Nat) : (s.set f i v).fan q = s.fan q := rfl
theorem State.fan_note (s : State) (e : Note) (q : Nat) : (s.note e).fan q = s.fan q := by simp [State.fan]
theorem State.get_setFan (s : State) (k : Nat) (x : Fan) (g : Fld) (i : List Nat) : (s.setFan k x).get g i = s.get g i := rfl
theorem State.get_setPump (s : State) (k : Nat) (x : Pump) (g : Fld) (i : List Nat) : (s.setPump k x).get g i = s.get g i := rfl

theorem drvPmpStat_notMem_noteOffs (p : Fin 4) : Reg.off .drvPmpStat [p.val] ∉ noteOffs := by revert p; decide
theorem drvFanStat_notMem_noteOffs (f : Fin 8) : Reg.off .drvFanStat [f.val] ∉ noteOffs := by revert f; decide

/-- At most pump p, its status register and what a note changes differ. -/
structure State.PumpAlone (p : Fin 4) (s s' : State) : Prop where
  regs : s.regsKept s' (Reg.off .drvPmpStat [p] :: noteOffs)
  units : s.unitsKept { s' with drv := s.drv }
  fan : s'.drv.fan = s.drv.fan
  now : s'.now = s.now
  pump : ∀ q, q ≠ p.val → s'.pump q = s.pump q

/-- At most fan f, its status register and what a note changes differ. -/
structure State.FanAlone (f : Fin 8) (s s' : State) : Prop where
  regs : s.regsKept s' (Reg.off .drvFanStat [f] :: noteOffs)
  units : s.unitsKept { s' with drv := s.drv }
  pump : s'.drv.pump = s.drv.pump
  now : s'.now = s.now
  fan : ∀ q, q ≠ f.val → s'.fan q = s.fan q

theorem State.unitsKept_drv_trans {a b c : State} (h : a.unitsKept { b with drv := a.drv }) (k : b.unitsKept { c with drv := b.drv }) :
    a.unitsKept { c with drv := a.drv } := by
  unfold State.unitsKept at *
  have e := congrArg (fun x : State => { x with drv := a.drv }) k
  dsimp only at e
  have h' := congrArg (fun x : State => { x with now := c.now, out := c.out, regs := c.regs, jrn := c.jrn, hst := c.hst }) h
  exact e.trans h'

theorem State.PumpAlone.trans {p : Fin 4} {a b c : State} (h : a.PumpAlone p b) (k : b.PumpAlone p c) : a.PumpAlone p c :=
  ⟨fun x hx => (k.regs x hx).trans (h.regs x hx), unitsKept_drv_trans h.units k.units, k.fan.trans h.fan, k.now.trans h.now,
    fun q hq => (k.pump q hq).trans (h.pump q hq)⟩

theorem State.PumpAlone.set {p : Fin 4} {s : State} {f : Fld} {v : Nat} (hr : f.reg = .drvPmpStat := by rfl) :
    s.PumpAlone p (s.set f [p] v) := ⟨fun _ ha => find_rset_of_notMem ha (by rw [hr]; exact List.mem_cons_self), rfl, rfl, rfl, fun _ _ => rfl⟩

theorem State.PumpAlone.setPump {p : Fin 4} {s : State} {x : Pump} : s.PumpAlone p (s.setPump p x) :=
  ⟨fun _ _ => rfl, rfl, rfl, rfl, fun q hq => s.pump_setPump_ne p q x hq⟩

theorem State.PumpAlone.note {p : Fin 4} {s : State} {e : Note} : s.PumpAlone p (s.note e) :=
  ⟨fun _ ha => find_note_of_notMem ha (List.subset_cons_self _ _), by simp [State.unitsKept], by simp, by simp, fun q _ => s.pump_note e q⟩

theorem State.FanAlone.trans {f : Fin 8} {a b c : State} (h : a.FanAlone f b) (k : b.FanAlone f c) : a.FanAlone f c :=
  ⟨fun x hx => (k.regs x hx).trans (h.regs x hx), unitsKept_drv_trans h.units k.units, k.pump.trans h.pump, k.now.trans h.now,
    fun q hq => (k.fan q hq).trans (h.fan q hq)⟩

theorem State.FanAlone.set {f : Fin 8} {s : State} {g : Fld} {v : Nat} (hr : g.reg = .drvFanStat := by rfl) :
    s.FanAlone f (s.set g [f] v) := ⟨fun _ ha => find_rset_of_notMem ha (by rw [hr]; exact List.mem_cons_self), rfl, rfl, rfl, fun _ _ => rfl⟩

theorem State.FanAlone.setFan {f : Fin 8} {s : State} {x : Fan} : s.FanAlone f (s.setFan f x) :=
  ⟨fun _ _ => rfl, rfl, rfl, rfl, fun q hq => s.fan_setFan_ne f q x hq⟩

theorem State.FanAlone.note {f : Fin 8} {s : State} {e : Note} : s.FanAlone f (s.note e) :=
  ⟨fun _ ha => find_note_of_notMem ha (List.subset_cons_self _ _), by simp [State.unitsKept], by simp, by simp, fun q _ => s.fan_note e q⟩

/-- The pump after its gates went off. -/
theorem State.pumpOff_spec (s : State) (p : Fin 4) :
    s.PumpAlone p (s.pumpOff p) ∧ (s.pumpOff p).get F.drvPmpStat_RUN [p] = 0 ∧
    (s.pumpOff p).pump p = { s.pump p with phase := 0, ref := 0, integ := 0, iq := 0, lostAt := none, isense := 0 } :=
  ⟨State.PumpAlone.setPump.trans .set, State.get_set_self _ _ _ _, s.pump_setPump_self p _⟩

/-- The pump after a start began. -/
theorem State.pumpBegin_spec (s : State) (p : Fin 4) (flying : Bool) :
    s.PumpAlone p (s.pumpBegin p flying) ∧ (s.pumpBegin p flying).get F.drvPmpStat_RUN [p] = 1 ∧
    (s.pumpBegin p flying).pump p = { s.pump p with phase := if flying then 3 else 1, startAt := s.now, ref := 0, integ := 0, iq := 0, tick := 0, lostAt := none } :=
  ⟨State.PumpAlone.setPump.trans .set, State.get_set_self _ _ _ _, s.pump_setPump_self p _⟩

theorem causeFlag_reg (c : PumpCause) : (causeFlag c).reg = .drvPmpStat := by cases c <;> rfl
theorem causeFlag_width (c : PumpCause) : (causeFlag c).width = 1 := by cases c <;> rfl
theorem causeFlag_lo (c : PumpCause) : (causeFlag c).lo < F.drvPmpStat_FLT_OFF.lo ∧
    (F.drvPmpStat_RUN.lo < (causeFlag c).lo ∨ (causeFlag c).lo < F.drvPmpStat_RUN.lo) := by cases c <;> decide

/-- The pump after a fault (R253): the flag is one of a bit of `DRV_PMP[p]_STAT` other than RUN and FLT_OFF. -/
theorem State.pumpFail_spec (s : State) (p : Fin 4) (flag : Fld) (hr : flag.reg = .drvPmpStat) (hw : flag.width = 1)
    (hf : flag.lo ≠ F.drvPmpStat_FLT_OFF.lo ∧ flag.lo ≠ F.drvPmpStat_RUN.lo ∧ flag.lo < 64) :
    s.PumpAlone p (s.pumpFail p flag) ∧ (s.pumpFail p flag).get flag [p] = 1 ∧ (s.pumpFail p flag).get F.drvPmpStat_FLT_OFF [p] = 1 ∧
    (s.pumpFail p flag).get F.drvPmpStat_RUN [p] = 0 ∧ ((s.pumpFail p flag).pump p).phase = 0 ∧
    ((s.pumpFail p flag).pump p).restart =
      (s.on F.drvPmpCfg_AUTO_RST [p] && !(s.pump p).faultAt.any (fun a => decide (s.now < a + 60000000000))) := by
  have hn := drvPmpStat_notMem_noteOffs p
  have h1 : (flag.lo + flag.width ≤ F.drvPmpStat_FLT_OFF.lo ∨ F.drvPmpStat_FLT_OFF.lo + F.drvPmpStat_FLT_OFF.width ≤ flag.lo) ∧
      (flag.lo + flag.width ≤ F.drvPmpStat_RUN.lo ∨ F.drvPmpStat_RUN.lo + F.drvPmpStat_RUN.width ≤ flag.lo) := by
    rw [hw]; simp only [F.drvPmpStat_FLT_OFF, F.drvPmpStat_RUN] at *; omega
  have hw' : flag.lo + flag.width ≤ 64 := by omega
  refine ⟨?_, ?_, ?_, ?_, ?_, ?_⟩
  · unfold State.pumpFail
    exact State.PumpAlone.trans ((((State.PumpAlone.set hr).trans (.set (f := F.drvPmpStat_FLT_OFF))).trans (State.pumpOff_spec _ p).1).trans .setPump) .note
  · refine (State.get_note _ _ _ _ (hr ▸ hn)).trans ?_
    refine (State.get_set_disjoint _ _ _ _ _ hr hw' h1.2).trans ((State.get_set_disjoint _ _ _ _ _ hr hw' h1.1).trans ?_)
    rw [State.get_set_self _ _ _ _ hw', hw] <;> decide
  · exact (State.get_note _ _ _ _ hn).trans ((State.get_set_disjoint _ F.drvPmpStat_RUN F.drvPmpStat_FLT_OFF _ _).trans (State.get_set_self _ _ _ _))
  · exact (State.get_note _ _ _ _ hn).trans (State.get_set_self _ _ _ _)
  · simp only [State.pumpFail, State.pump_note, State.pump_setPump_self, (State.pumpOff_spec _ p).2.2]
  · simp only [State.pumpFail, State.pump_note, State.pump_setPump_self]

/-- A fan after its stage went off. -/
theorem State.fanOff_spec (s : State) (f : Fin 8) :
    s.FanAlone f (s.fanOff f) ∧ (s.fanOff f).get F.drvFanStat_RUN [f] = 0 ∧
    (s.fanOff f).fan f = { s.fan f with phase := 0, ref := 0, lockedAt := none } :=
  ⟨State.FanAlone.setFan.trans .set, State.get_set_self _ _ _ _, s.fan_setFan_self f _⟩

theorem State.get_note_drvFanStat (s : State) (f : Fin 8) (e : Note) (g : Fld) (hr : g.reg = .drvFanStat := by rfl) :
    (s.note e).get g [f.val] = s.get g [f.val] := State.get_note _ _ _ _ (hr ▸ drvFanStat_notMem_noteOffs f)

/-- A fan after an attempt began (R258). -/
theorem State.fanBegin_spec (s : State) (f : Fin 8) :
    s.FanAlone f (s.fanBegin f) ∧ (s.fanBegin f).get F.drvFanStat_RUN [f] = 1 ∧ (s.fanBegin f).get F.drvFanStat_RETRY_WAIT [f] = 0 ∧
    (s.fanBegin f).get F.drvFanStat_RETRY_S [f] = 0 ∧ ((s.fanBegin f).fan f).phase = 1 ∧ ((s.fanBegin f).fan f).startAt = s.now := by
  have g := fun (x : State) (e : Note) (fl : Fld) (h : fl.reg = .drvFanStat) => x.get_note_drvFanStat f e fl h
  refine ⟨?_, ?_, ?_, ?_, ?_, ?_⟩
  · have h1 : s.FanAlone f ((s.set F.drvFanStat_RETRY_WAIT [f] 0).set F.drvFanStat_RETRY_S [f] 0) := State.FanAlone.trans .set .set
    unfold State.fanBegin
    exact State.FanAlone.trans ((h1.trans .setFan).trans (.set (g := F.drvFanStat_RUN))) .note
  · exact (g _ _ _ rfl).trans (State.get_set_self _ _ _ _)
  · exact (g _ _ _ rfl).trans ((State.get_set_disjoint _ _ _ _ _).trans ((State.get_setFan _ _ _ _ _).trans
      ((State.get_set_disjoint _ _ _ _ _).trans (State.get_set_self _ _ _ _))))
  · exact (g _ _ _ rfl).trans ((State.get_set_disjoint _ _ _ _ _).trans ((State.get_setFan _ _ _ _ _).trans (State.get_set_self _ _ _ _)))
  · simp only [State.fanBegin, State.fan_note]; rw [State.fan_set, State.fan_setFan_self]
  · simp only [State.fanBegin, State.fan_note]; rw [State.fan_set, State.fan_setFan_self]; rfl

/-- The count of failures after another one, and the wait that follows (R259). -/
def State.fanFails (s : State) (f : Nat) : Nat := min (s.get F.drvFanStat_FAILS [f] + 1) 255

/-- A fan after a failed attempt (R258, R259), before a third failure in a row raises the alarm. -/
def State.fanFailed (s : State) (f : Nat) : State :=
  let k := s.fanFails f
  let s := ((s.fanOff f).set F.drvFanStat_STALL [f] 1).set F.drvFanStat_FAILS [f] k
  let s := (s.set F.drvFanStat_RETRY_WAIT [f] 1).set F.drvFanStat_RETRY_S [f] (min (2 ^ k) 64)
  let s := s.setFan f { s.fan f with waitEnd := s.now + 1000000000 * min (2 ^ k) 64 }
  s.note (drvNote (4 + f) 0 0 (Reg.off .drvFanStat [f]) true none)

theorem State.fanFail_eq (s : State) (f : Nat) : s.fanFail f =
    if s.fanFails f = 3 then
      ((s.fanFailed f).set F.drvFanStat_STALL_ALM [f] 1).note (drvNote (4 + f) 0 1 (Reg.off .drvFanStat [f]) true (some (evAlarm, 1, f)))
    else s.fanFailed f := rfl

theorem State.fanFailed_spec (s : State) (f : Fin 8) :
    s.FanAlone f (s.fanFailed f) ∧ (s.fanFailed f).get F.drvFanStat_STALL [f] = 1 ∧ (s.fanFailed f).get F.drvFanStat_RUN [f] = 0 ∧
    (s.fanFailed f).get F.drvFanStat_FAILS [f] = s.fanFails f ∧ (s.fanFailed f).get F.drvFanStat_RETRY_WAIT [f] = 1 ∧
    (s.fanFailed f).get F.drvFanStat_RETRY_S [f] = min (2 ^ s.fanFails f) 64 ∧ ((s.fanFailed f).fan f).phase = 0 ∧
    ((s.fanFailed f).fan f).waitEnd = s.now + 1000000000 * min (2 ^ s.fanFails f) 64 ∧
    (s.fanFailed f).get F.drvFanStat_OC [f] = s.get F.drvFanStat_OC [f] := by
  have g := fun (x : State) (e : Note) (fl : Fld) (h : fl.reg = .drvFanStat) => x.get_note_drvFanStat f e fl h
  have hk : s.fanFails f < 256 := Nat.lt_of_le_of_lt (Nat.min_le_right _ _) (by decide)
  generalize hw : min (2 ^ s.fanFails f) 64 = w
  have hw' : w < 2 ^ F.drvFanStat_RETRY_S.width := Nat.lt_of_le_of_lt (hw ▸ Nat.min_le_right _ _) (by decide)
  refine ⟨?_, ?_, ?_, ?_, ?_, ?_, ?_, ?_, ?_⟩
  · unfold State.fanFailed
    have h1 := (s.fanOff_spec f).1
    have h2 := (h1.trans (.set (g := F.drvFanStat_STALL) (v := 1))).trans (.set (g := F.drvFanStat_FAILS) (v := s.fanFails f))
    have h3 := (h2.trans (.set (g := F.drvFanStat_RETRY_WAIT) (v := 1))).trans (.set (g := F.drvFanStat_RETRY_S) (v := min (2 ^ s.fanFails f) 64))
    exact State.FanAlone.trans (h3.trans .setFan) .note
  · exact (g _ _ _ rfl).trans ((State.get_setFan _ _ _ _ _).trans ((State.get_set_disjoint _ _ _ _ _).trans ((State.get_set_disjoint _ _ _ _ _).trans ((State.get_set_disjoint _ _ _ _ _).trans (State.get_set_self _ _ _ _)))))
  · exact (g _ _ _ rfl).trans ((State.get_setFan _ _ _ _ _).trans ((State.get_set_disjoint _ _ _ _ _).trans ((State.get_set_disjoint _ _ _ _ _).trans ((State.get_set_disjoint _ _ _ _ _).trans ((State.get_set_disjoint _ _ _ _ _).trans (s.fanOff_spec f).2.1)))))
  · exact (g _ _ _ rfl).trans ((State.get_setFan _ _ _ _ _).trans ((State.get_set_disjoint _ _ _ _ _).trans ((State.get_set_disjoint _ _ _ _ _).trans ((State.get_set_self _ _ _ _).trans (Nat.mod_eq_of_lt hk)))))
  · exact (g _ _ _ rfl).trans ((State.get_setFan _ _ _ _ _).trans ((State.get_set_disjoint _ _ _ _ _).trans (State.get_set_self _ _ _ _)))
  · refine (g _ _ _ rfl).trans ((State.get_setFan _ _ _ _ _).trans ((State.get_set_self _ _ _ _).trans ?_))
    rw [hw]; exact Nat.mod_eq_of_lt hw'
  · unfold State.fanFailed
    rw [State.fan_note, State.fan_setFan_self]
    show (State.fan _ f).phase = 0
    rw [State.fan_set, State.fan_set, State.fan_set, State.fan_set, (State.fanOff_spec _ f).2.2]
  · simp only [State.fanFailed, State.fan_note, State.fan_setFan_self]
    rw [hw, show (((((s.fanOff f).set F.drvFanStat_STALL [f.val] 1).set F.drvFanStat_FAILS [f.val] (s.fanFails f)).set
      F.drvFanStat_RETRY_WAIT [f.val] 1).set F.drvFanStat_RETRY_S [f.val] w).now = s.now from rfl]
  · exact (g _ _ _ rfl).trans ((State.get_setFan _ _ _ _ _).trans ((State.get_set_disjoint _ _ _ _ _).trans ((State.get_set_disjoint _ _ _ _ _).trans ((State.get_set_disjoint _ _ _ _ _).trans ((State.get_set_disjoint _ _ _ _ _).trans (State.get_set_disjoint _ _ _ _ _))))))

/-- A fan after a failed attempt (R258, R259). -/
theorem State.fanFail_spec (s : State) (f : Fin 8) :
    s.FanAlone f (s.fanFail f) ∧ (s.fanFail f).get F.drvFanStat_STALL [f] = 1 ∧ (s.fanFail f).get F.drvFanStat_RUN [f] = 0 ∧
    (s.fanFail f).get F.drvFanStat_FAILS [f] = s.fanFails f ∧ (s.fanFail f).get F.drvFanStat_RETRY_WAIT [f] = 1 ∧
    (s.fanFail f).get F.drvFanStat_RETRY_S [f] = min (2 ^ s.fanFails f) 64 ∧ ((s.fanFail f).fan f).phase = 0 ∧
    ((s.fanFail f).fan f).waitEnd = s.now + 1000000000 * min (2 ^ s.fanFails f) 64 ∧
    (s.fanFail f).get F.drvFanStat_OC [f] = s.get F.drvFanStat_OC [f] ∧
    (s.fanFails f = 3 → (s.fanFail f).get F.drvFanStat_STALL_ALM [f] = 1) := by
  have h := s.fanFailed_spec f
  rw [State.fanFail_eq]
  split
  · have g : ∀ fl : Fld, fl.reg = .drvFanStat → fl.lo + fl.width ≤ 64 →
        (fl.lo + fl.width ≤ F.drvFanStat_STALL_ALM.lo ∨ F.drvFanStat_STALL_ALM.lo + F.drvFanStat_STALL_ALM.width ≤ fl.lo) →
        (((s.fanFailed f).set F.drvFanStat_STALL_ALM [f] 1).note (drvNote (4 + f) 0 1 (Reg.off .drvFanStat [f]) true (some (evAlarm, 1, f)))).get fl [f] =
          (s.fanFailed f).get fl [f] := fun fl h1 h2 h3 =>
      (State.get_note_drvFanStat _ f _ fl h1).trans (State.get_set_disjoint _ _ _ _ _ h1 h2 h3)
    refine ⟨(h.1.trans .set).trans .note, (g _ rfl (by decide) (by decide)).trans h.2.1, (g _ rfl (by decide) (by decide)).trans h.2.2.1,
      (g _ rfl (by decide) (by decide)).trans h.2.2.2.1, (g _ rfl (by decide) (by decide)).trans h.2.2.2.2.1,
      (g _ rfl (by decide) (by decide)).trans h.2.2.2.2.2.1, ?_, ?_, (g _ rfl (by decide) (by decide)).trans h.2.2.2.2.2.2.2.2, fun _ => ?_⟩
    · rw [State.fan_note, State.fan_set]; exact h.2.2.2.2.2.2.1
    · rw [State.fan_note, State.fan_set]; exact h.2.2.2.2.2.2.2.1
    · exact (State.get_note_drvFanStat _ f _ _ rfl).trans (State.get_set_self _ _ _ _)
  · next hk => exact ⟨h.1, h.2.1, h.2.2.1, h.2.2.2.1, h.2.2.2.2.1, h.2.2.2.2.2.1, h.2.2.2.2.2.2.1, h.2.2.2.2.2.2.2.1, h.2.2.2.2.2.2.2.2, fun e => absurd e hk⟩

end Sys2Proof.Machine
end

