-- ==== Sys2Proof/Laws/Issue.lean ====
section
/-!
SUPPORT. What an issue of a track operation does: it completes when it is accepted and may issue; element, lane mask and flag
lemmas for lane-wise results.
-/
namespace Sys2Proof.Machine

theorem Tbl.put_put {α : Type} (t : Tbl α) (k : Nat) (a b : α) : Tbl.put (Tbl.put t k a) k b = Tbl.put t k b := by
  induction t with
  | nil => simp [Tbl.put]
  | cons e r ih =>
    obtain ⟨j, x⟩ := e
    simp only [Tbl.put]
    by_cases h : k < j
    · simp [h, Tbl.put]
    · by_cases h' : k = j
      · simp [h', Tbl.put]
      · simp [h, h', Tbl.put, ih]

theorem State.setTus_setTus (s : State) (t : Nat) (x y : Tus) : (s.setTus t x).setTus t y = s.setTus t y := by
  simp [State.setTus, Tbl.put_put]

theorem State.tus_setTus (s : State) (t : Nat) (x : Tus) : (s.setTus t x).tus t = x := by
  simp [State.tus, State.setTus, Tbl.at, Tbl.find_put_self]

theorem State.tus_setTus_ne (s : State) (t u : Nat) (x : Tus) (h : u ≠ t) : (s.setTus t x).tus u = s.tus u := by
  simp [State.tus, State.setTus, Tbl.at, Tbl.find_put_ne _ _ _ _ h]

/-- Landing hummock writes changes the hummock SRAMs and the list of writes in flight alone. -/
theorem State.landHum_eq (s : State) (clk : Nat) :
    s.landHum clk = { s with fab := { s.fab with hum := (s.landHum clk).fab.hum, hfly := (s.landHum clk).fab.hfly } } := by
  have key : ∀ (l : List (Nat × Nat × Nat × List Byte)) (s : State),
      l.foldl (fun (s : State) (e : Nat × Nat × Nat × List Byte) => s.setHumSram e.2.1 (Mem.setBytes (s.humSram e.2.1) e.2.2.1 e.2.2.2)) s =
      { s with fab := { s.fab with hum := (l.foldl (fun (s : State) (e : Nat × Nat × Nat × List Byte) =>
        s.setHumSram e.2.1 (Mem.setBytes (s.humSram e.2.1) e.2.2.1 e.2.2.2)) s).fab.hum } } := by
    intro l
    induction l with
    | nil => intro s; rfl
    | cons e r ih => intro s; rw [List.foldl_cons, ih]; rfl
  have h := key (s.fab.hfly.filter (fun e => decide (e.1 ≤ clk))) s
  simp only [State.landHum]
  generalize List.foldl _ s _ = u at h ⊢
  rw [h]

/-- Only registers, runs and tussocks differ. -/
def State.StagedOnly (s s' : State) : Prop := s' = { s with regs := s'.regs, runs := s'.runs, fab := { s.fab with tus := s'.fab.tus } }

theorem State.StagedOnly.trans {s t u : State} (h : State.StagedOnly s t) (k : State.StagedOnly t u) : State.StagedOnly s u := by
  unfold State.StagedOnly at *
  rw [k, h]

theorem State.stagedOnly_regs (s : State) (r : Tbl Word) : State.StagedOnly s { s with regs := r } := rfl
theorem State.stagedOnly_bump (s : State) (f : Fld) (idx : List Nat) (n : Nat) : State.StagedOnly s (s.bump f idx n) := State.stagedOnly_regs s _
theorem State.stagedOnly_setTus (s : State) (t : Nat) (x : Tus) : State.StagedOnly s (s.setTus t x) := rfl
theorem State.stagedOnly_mapRun (s : State) (t k : Nat) (f : Run → Run) : State.StagedOnly s (s.mapRun t k f) := rfl

theorem State.stagedOnly_enterEmit (s : State) (x : Sending) (key : Nat) (n : Num) : State.StagedOnly s (s.enterEmit x key n) := by
  unfold State.enterEmit
  obtain ⟨v, a, b⟩ := s.emitValue (key / 1024) (key % 1024) n
  dsimp only
  refine State.StagedOnly.trans ?_ (State.stagedOnly_setTus ..)
  cases a <;> cases b <;> simp only [if_true, if_false, Bool.false_eq_true]
  · exact State.stagedOnly_mapRun ..
  · exact (State.stagedOnly_mapRun ..).trans (State.stagedOnly_bump ..)
  · exact (State.stagedOnly_mapRun ..).trans (State.stagedOnly_bump ..)
  · exact ((State.stagedOnly_mapRun ..).trans (State.stagedOnly_bump ..)).trans (State.stagedOnly_bump ..)

/-- What enters staging changes the counts of replaced outputs, the runs and the flags of its tussock alone. -/
theorem State.enter_eq (s : State) (x : Sending) : State.StagedOnly s (s.enter x) := by
  unfold State.enter
  split
  · exact State.stagedOnly_enterEmit ..
  · rfl
  · rfl

theorem State.enterAll_eq (s : State) (sel : Sending → Bool) :
    s.enterAll sel = { s with regs := (s.enterAll sel).regs, runs := (s.enterAll sel).runs,
                              fab := { s.fab with tus := (s.enterAll sel).fab.tus, sends := (s.enterAll sel).fab.sends } } := by
  have key : ∀ (l : List Sending) (s : State), State.StagedOnly s (l.foldl State.enter s) := by
    intro l
    induction l with
    | nil => intro s; rfl
    | cons e r ih => exact fun s => (State.enter_eq s e).trans (ih _)
  unfold State.enterAll
  rw [key]

/-- The state of an issue is the state before it but for output, tussocks, hummock SRAM, staging and the counts of replaced outputs. -/
theorem State.issue_eq (s : State) (c : Iss) :
    s.issue c = { s with out := [], regs := (s.issue c).regs, runs := (s.issue c).runs,
                         fab := { s.fab with tus := (s.issue c).fab.tus, hum := (s.issue c).fab.hum, hfly := (s.issue c).fab.hfly,
                                             sends := (s.issue c).fab.sends } } := by
  unfold State.issue State.landSends
  conv => lhs; rw [State.enterAll_eq, State.landHum_eq]
  conv => rhs; rw [State.enterAll_eq, State.landHum_eq]
  rfl

@[simp] theorem State.issue_free (s : State) (c : Iss) : (s.issue c).free = s.free := by rw [State.issue_eq]
@[simp] theorem State.issue_pln (s : State) (c : Iss) : (s.issue c).pln = s.pln := by rw [State.issue_eq]
@[simp] theorem State.issue_snap (s : State) (c : Iss) : (s.issue c).snap = s.snap := by rw [State.issue_eq]
@[simp] theorem State.issue_hbm (s : State) (c : Iss) : (s.issue c).hbm = s.hbm := by rw [State.issue_eq]

/-- Staging changes what a run has staged and nothing else of it. -/
theorem State.runOf_mapRun (s : State) (t k t' k' : Nat) (f : Run → Run) (h : ∀ r, (f r).core = r.core) :
    ((s.mapRun t k f).runOf t' k').map Run.core = (s.runOf t' k').map Run.core := by
  have hk : ∀ r, (f r).start = r.start ∧ (f r).plan = r.plan ∧ (f r).place = r.place := by
    intro r
    have := h r
    simp only [Run.core, Run.mk.injEq] at this
    exact ⟨this.2.2.1, this.2.1, this.2.2.2.2.1⟩
  unfold State.runOf State.mapRun
  induction s.runs with
  | nil => rfl
  | cons r l ih =>
    simp only [List.map_cons, List.find?_cons]
    by_cases hc : r.start = k ∧ ((r.plan.placements[r.place]?).any (fun p => p.tussocks.contains t)) = true
    · rw [if_pos hc, (hk r).1, (hk r).2.1, (hk r).2.2]
      split
      · simp [h]
      · exact ih
    · rw [if_neg hc]
      split
      · rfl
      · exact ih

theorem State.runOf_enter (s : State) (x : Sending) (t k : Nat) : ((s.enter x).runOf t k).map Run.core = (s.runOf t k).map Run.core := by
  unfold State.enter
  split
  · rename_i key q16 b _
    unfold State.enterEmit
    generalize s.emitValue (key / 1024) (key % 1024) (decodeNum (if q16 = true then Fmt.q16 else Fmt.fp32) b) = v
    obtain ⟨v, p, q⟩ := v
    rw [← State.runOf_mapRun s x.tus x.run t k (fun r => { r with emits := Tbl.put r.emits key v }) (fun r => rfl)]
    show (List.find? _ (State.setTus _ _ _).runs).map _ = _
    cases p <;> cases q <;> simp only [if_true, if_false, Bool.false_eq_true] <;> rfl
  · exact State.runOf_mapRun s _ _ _ _ _ (fun r => rfl)
  · exact State.runOf_mapRun s _ _ _ _ _ (fun r => rfl)

/-- The run of a tussock at an issue is what it was but for its staging. -/
theorem State.runOf_issue (s : State) (c : Iss) (t k : Nat) : ((s.issue c).runOf t k).map Run.core = (s.runOf t k).map Run.core := by
  have key : ∀ (l : List Sending) (s : State), ((l.foldl State.enter s).runOf t k).map Run.core = (s.runOf t k).map Run.core := by
    intro l
    induction l with
    | nil => intro s; rfl
    | cons e r ih => intro s; rw [List.foldl_cons, ih, State.runOf_enter]
  unfold State.issue State.landSends State.enterAll
  rw [key]
  conv => lhs; rw [State.landHum_eq]
  rfl

@[simp] theorem State.issue_infMode (s : State) (c d : Iss) : (s.issue c).infMode d = s.infMode d := by
  have h := State.runOf_issue s c d.tus d.run
  unfold State.infMode
  cases h1 : (s.issue c).runOf d.tus d.run <;> cases h2 : s.runOf d.tus d.run <;> rw [h1, h2] at h <;> simp [Run.core] at h <;> simp [h]

@[simp] theorem State.issued_free (s : State) (c : Iss) (t : Tus) : (s.issued c t).free = s.free := State.issue_free s c
@[simp] theorem State.issued_regs (s : State) (c : Iss) (t : Tus) : (s.issued c t).regs = (s.issue c).regs := rfl
@[simp] theorem State.issued_runs (s : State) (c : Iss) (t : Tus) : (s.issued c t).runs = (s.issue c).runs := rfl
@[simp] theorem State.issued_pln (s : State) (c : Iss) (t : Tus) : (s.issued c t).pln = s.pln := State.issue_pln s c
@[simp] theorem State.issued_snap (s : State) (c : Iss) (t : Tus) : (s.issued c t).snap = s.snap := State.issue_snap s c
@[simp] theorem State.issued_infMode (s : State) (c d : Iss) (t : Tus) : (s.issued c t).infMode d = s.infMode d := State.issue_infMode s c d
@[simp] theorem State.issued_setTus (s : State) (c : Iss) (t u : Tus) : (s.issued c t).setTus c.tus u = s.issued c u := by
  simp [State.issued, State.setTus_setTus]
@[simp] theorem State.issued_tus (s : State) (c : Iss) (t : Tus) : (s.issued c t).tus c.tus = t := State.tus_setTus ..
theorem State.issued_tus_ne (s : State) (c : Iss) (t : Tus) (u : Nat) (h : u ≠ c.tus) : (s.issued c t).tus u = (s.issue c).tus u :=
  State.tus_setTus_ne _ _ _ _ h

/-- An accepted operation of a tussock that may issue runs its effect. -/
theorem onIssue_eq {ok : Bool} {c : Iss} {s : State} {eff : State → Tus → Nat → Option State} (h : ok = true) (k : s.mayIssue c) :
    onIssue ok c s eff =
      match eff (s.issued c (s.begun c)) (s.begun c) (s.maskM c) with | some s' => .next s' | none => .fault .planLimit := by
  unfold State.mayIssue at k
  simp only [onIssue, h, k, not_true_eq_false, if_false]
  rfl

/-- An accepted operation with an effect on the tussock alone completes, whatever the effect. -/
theorem onTus_eq {ok : Bool} {c : Iss} {s : State} {eff : Tus → Nat → Tus} (h : ok = true) (k : s.mayIssue c) :
    onTus ok c s eff = .next (s.issued c (eff (s.begun c) (s.maskM c))) := by
  unfold onTus
  rw [onIssue_eq h k]
  simp only [State.issued, State.setTus_setTus]

theorem onIssue_refused {c : Iss} {s : State} {eff : State → Tus → Nat → Option State} :
    onIssue false c s eff = .refused .checkerRejects := rfl

theorem onIssue_held {ok : Bool} {c : Iss} {s : State} {eff : State → Tus → Nat → Option State} (h : ok = true) (k : ¬ s.mayIssue c) :
    onIssue ok c s eff = .next s.quiet := by
  unfold State.mayIssue at k
  simp [onIssue, h, k]

theorem testBit_ofElems (w : Nat) (l : List Nat) (i n : Nat) (hi : i < l.length) (hn : n < w) :
    (ofElems w l).testBit (w * i + n) = (l.getD i 0).testBit n := by
  induction l generalizing i with
  | nil => simp at hi
  | cons e r ih =>
    simp only [ofElems]
    rw [Nat.add_comm, Nat.testBit_two_pow_mul_add _ (Nat.mod_lt _ (Nat.two_pow_pos w))]
    cases i with
    | zero => simp [hn]
    | succ i =>
      have : ¬ w * (i + 1) + n < w := by rw [Nat.mul_succ]; omega
      rw [if_neg this]
      have h2 : w * (i + 1) + n - w = w * i + n := by rw [Nat.mul_succ]; omega
      rw [h2, ih i (by simpa using hi)]
      simp

theorem elem_ofElems (w : Nat) (l : List Nat) (i : Nat) (hi : i < l.length) : elem (ofElems w l) w i = l.getD i 0 % 2 ^ w := by
  apply Nat.eq_of_testBit_eq
  intro n
  rw [elem, testBit_bits, Nat.testBit_mod_two_pow]
  by_cases hn : n < w
  · simp [hn, testBit_ofElems w l i n hi hn]
  · simp [hn]

theorem testBit_laneMask (w n m i b : Nat) (hi : i < n) (hb : b < w) : (laneMask w n m).testBit (w * i + b) = bitAt m i := by
  unfold laneMask
  rw [testBit_ofElems _ _ _ _ (by simpa using hi) hb]
  simp only [List.getD_eq_getElem?_getD, List.getElem?_map, List.getElem?_range hi, Option.map_some, Option.getD_some]
  by_cases h : bitAt m i <;> simp [h, ones, hb]

theorem testBit_flagsOr (l : List Nat) (n : Nat) : (flagsOr l).testBit n = true ↔ ∃ x ∈ l, x.testBit n = true := by
  have key : ∀ (l : List Nat) (a : Nat), (l.foldl (· ||| ·) a).testBit n = true ↔ a.testBit n = true ∨ ∃ x ∈ l, x.testBit n = true := by
    intro l
    induction l with
    | nil => intro a; simp
    | cons b r ih => intro a; simp [ih, Nat.testBit_or, or_assoc]
  have := key l 0
  simp only [Nat.zero_testBit, Bool.false_eq_true, false_or] at this
  exact this

theorem testBit_laneFlags (m : Nat) (l : List (Nat × Nat)) (n : Nat) :
    (laneFlags m l).testBit n = true ↔ ∃ i, ∃ h : i < l.length, bitAt m i = true ∧ l[i].2.testBit n = true := by
  unfold laneFlags
  rw [testBit_flagsOr]
  constructor
  · rintro ⟨x, hx, hn⟩
    obtain ⟨e, he, rfl⟩ := List.mem_map.mp hx
    obtain ⟨i, hi, rfl⟩ := List.mem_iff_getElem.mp he
    simp only [List.getElem_zipIdx, Nat.zero_add] at hn
    refine ⟨i, by simpa using hi, ?_⟩
    by_cases hb : bitAt m i <;> simp_all
  · rintro ⟨i, h, hb, hn⟩
    refine ⟨_, List.mem_map_of_mem (a := (l[i], i)) ?_, ?_⟩
    · exact List.mem_iff_getElem.mpr ⟨i, by simpa using h, by simp⟩
    · simp [hb, hn]

/-- Landing lane results is a lane-wise result. -/
theorem Tus.lanes_landLanes (t : Tus) (m clk d : Nat) (f : Fmt) (r : Nat → Nat × Nat) :
    Tus.Lanes t (t.landLanes clk d f.w m ((List.range f.lanes).map r)) m clk d f r := by
  refine ⟨_, _, _, rfl, ?_, ?_⟩
  · intro i hi
    constructor
    · rw [elem_ofElems _ _ _ (by simpa using hi)]
      simp [hi]
    · intro n hn
      simp [testBit_laneMask _ _ _ _ _ hi hn]
  · intro n
    rw [testBit_laneFlags]
    simp only [List.length_map, List.length_range, List.getElem_map, List.getElem_range]
    exact ⟨fun ⟨i, h, a, b⟩ => ⟨i, h, a, b⟩, fun ⟨i, h, a, b⟩ => ⟨i, h, a, b⟩⟩

theorem mem_flyEntry (clk : Nat) (l : Land) (f : List (Nat × Land)) (e : Nat × Land) :
    e ∈ flyEntry clk l f ↔ e = (clk, l) ∨ e ∈ f := by
  induction f with
  | nil => simp [flyEntry]
  | cons a r ih =>
    simp only [flyEntry]
    split
    · simp
    · simp only [List.mem_cons, ih]
      exact ⟨fun h => by rcases h with h | h | h <;> simp [h], fun h => by rcases h with h | h | h <;> simp [h]⟩

end Sys2Proof.Machine
end

