-- ==== Sys2Proof/Laws/Offsets.lean ====
section
/-!
SUPPORT. The offset of each indexed register in closed form (Table 20.1), so that offsets are told apart by `omega`.
-/
namespace Sys2Proof.Machine

theorem Reg.off_plnPromoStat (i : Nat) : Reg.off .plnPromoStat [i] = 0x00020088 + 0x8 * i := rfl
theorem Reg.off_plnRetireReq (i : Nat) : Reg.off .plnRetireReq [i] = 0x00020100 + 0x8 * i := rfl
theorem Reg.off_plnRetired (i : Nat) : Reg.off .plnRetired [i] = 0x00020120 + 0x8 * i := rfl
theorem Reg.off_plnPart (i : Nat) : Reg.off .plnPart [i] = 0x00020140 + 0x8 * i := rfl
theorem Reg.off_parTol (i : Nat) : Reg.off .parTol [i] = 0x00030040 + 0x8 * i := rfl
theorem Reg.off_parDomMemb (i : Nat) : Reg.off .parDomMemb [i] = 0x00030140 + 0x8 * i := rfl
theorem Reg.off_jrnKeyId (i : Nat) : Reg.off .jrnKeyId [i] = 0x00040100 + 0x10 * i := rfl
theorem Reg.off_jrnKeyCtr (i : Nat) : Reg.off .jrnKeyCtr [i] = 0x00040108 + 0x10 * i := rfl
theorem Reg.off_obsPart0 (i : Nat) : Reg.off .obsPart0 [i] = 0x00050100 + 0x20 * i := rfl
theorem Reg.off_obsPart1 (i : Nat) : Reg.off .obsPart1 [i] = 0x00050108 + 0x20 * i := rfl
theorem Reg.off_obsPart2 (i : Nat) : Reg.off .obsPart2 [i] = 0x00050110 + 0x20 * i := rfl
theorem Reg.off_obsPart3 (i : Nat) : Reg.off .obsPart3 [i] = 0x00050118 + 0x20 * i := rfl
theorem Reg.off_obsIng0 (i : Nat) : Reg.off .obsIng0 [i] = 0x00050200 + 0x40 * i := rfl
theorem Reg.off_obsIng1 (i : Nat) : Reg.off .obsIng1 [i] = 0x00050208 + 0x40 * i := rfl
theorem Reg.off_obsIng2 (i : Nat) : Reg.off .obsIng2 [i] = 0x00050210 + 0x40 * i := rfl
theorem Reg.off_obsIng3 (i : Nat) : Reg.off .obsIng3 [i] = 0x00050218 + 0x40 * i := rfl
theorem Reg.off_obsIng4 (i : Nat) : Reg.off .obsIng4 [i] = 0x00050220 + 0x40 * i := rfl
theorem Reg.off_obsLmiss (i : Nat) : Reg.off .obsLmiss [i] = 0x00051000 + 0x8 * i := rfl
theorem Reg.off_obsRepl (i j : Nat) : Reg.off .obsRepl [i, j] = 0x00052000 + 0x2000 * i + 0x8 * j := rfl
theorem Reg.off_telPortCfg (i : Nat) : Reg.off .telPortCfg [i] = 0x00060000 + 0x40 * i := rfl
theorem Reg.off_telPortHi (i : Nat) : Reg.off .telPortHi [i] = 0x00060008 + 0x40 * i := rfl
theorem Reg.off_telPortLo (i : Nat) : Reg.off .telPortLo [i] = 0x00060010 + 0x40 * i := rfl
theorem Reg.off_telPortMac (i : Nat) : Reg.off .telPortMac [i] = 0x00060018 + 0x40 * i := rfl
theorem Reg.off_telPortStat (i : Nat) : Reg.off .telPortStat [i] = 0x00060020 + 0x40 * i := rfl
theorem Reg.off_telSrcHi (i : Nat) : Reg.off .telSrcHi [i] = 0x00061000 + 0x10 * i := rfl
theorem Reg.off_telSrcLo (i : Nat) : Reg.off .telSrcLo [i] = 0x00061008 + 0x10 * i := rfl
theorem Reg.off_telDestCfg (i : Nat) : Reg.off .telDestCfg [i] = 0x00062000 + 0x20 * i := rfl
theorem Reg.off_telDestHi (i : Nat) : Reg.off .telDestHi [i] = 0x00062008 + 0x20 * i := rfl
theorem Reg.off_telDestLo (i : Nat) : Reg.off .telDestLo [i] = 0x00062010 + 0x20 * i := rfl
theorem Reg.off_telDestSeq (i : Nat) : Reg.off .telDestSeq [i] = 0x00062018 + 0x20 * i := rfl
theorem Reg.off_capRack (i : Nat) : Reg.off .capRack [i] = 0x00070100 + 0x8 * i := rfl
theorem Reg.off_capPkgLim (i : Nat) : Reg.off .capPkgLim [i] = 0x00071000 + 0x10 * i := rfl
theorem Reg.off_capPkgRamp (i : Nat) : Reg.off .capPkgRamp [i] = 0x00071008 + 0x10 * i := rfl
theorem Reg.off_capPkgOut (i : Nat) : Reg.off .capPkgOut [i] = 0x00074000 + 0x10 * i := rfl
theorem Reg.off_capPkgSrc (i : Nat) : Reg.off .capPkgSrc [i] = 0x00074008 + 0x10 * i := rfl
theorem Reg.off_hstRingBase (i : Nat) : Reg.off .hstRingBase [i] = 0x00080100 + 0x40 * i := rfl
theorem Reg.off_hstRingCfg (i : Nat) : Reg.off .hstRingCfg [i] = 0x00080108 + 0x40 * i := rfl
theorem Reg.off_hstRingProd (i : Nat) : Reg.off .hstRingProd [i] = 0x00080110 + 0x40 * i := rfl
theorem Reg.off_hstRingCons (i : Nat) : Reg.off .hstRingCons [i] = 0x00080118 + 0x40 * i := rfl
theorem Reg.off_hstRingWb (i : Nat) : Reg.off .hstRingWb [i] = 0x00080120 + 0x40 * i := rfl
theorem Reg.off_hstRingCnt (i : Nat) : Reg.off .hstRingCnt [i] = 0x00080128 + 0x40 * i := rfl
theorem Reg.off_hstMsixAddr (i : Nat) : Reg.off .hstMsixAddr [i] = 0x00081000 + 0x10 * i := rfl
theorem Reg.off_hstMsixData (i : Nat) : Reg.off .hstMsixData [i] = 0x00081008 + 0x10 * i := rfl
theorem Reg.off_hstVecMod (i : Nat) : Reg.off .hstVecMod [i] = 0x00081900 + 0x8 * i := rfl
theorem Reg.off_lpeChCfg (i : Nat) : Reg.off .lpeChCfg [i] = 0x00100000 + 0x40 * i := rfl
theorem Reg.off_lpeChTlim (i : Nat) : Reg.off .lpeChTlim [i] = 0x00100008 + 0x40 * i := rfl
theorem Reg.off_lpeChUlim (i : Nat) : Reg.off .lpeChUlim [i] = 0x00100010 + 0x40 * i := rfl
theorem Reg.off_lpeChKpi (i : Nat) : Reg.off .lpeChKpi [i] = 0x00100018 + 0x40 * i := rfl
theorem Reg.off_lpeChKd (i : Nat) : Reg.off .lpeChKd [i] = 0x00100020 + 0x40 * i := rfl
theorem Reg.off_lpeChGtb (i : Nat) : Reg.off .lpeChGtb [i] = 0x00100028 + 0x40 * i := rfl
theorem Reg.off_lpeChSup (i : Nat) : Reg.off .lpeChSup [i] = 0x00100030 + 0x40 * i := rfl
theorem Reg.off_lpeChStat (i : Nat) : Reg.off .lpeChStat [i] = 0x00100038 + 0x40 * i := rfl
theorem Reg.off_lpeChxProf1 (i : Nat) : Reg.off .lpeChxProf1 [i] = 0x00104000 + 0x20 * i := rfl
theorem Reg.off_lpeChxProf2 (i : Nat) : Reg.off .lpeChxProf2 [i] = 0x00104008 + 0x20 * i := rfl
theorem Reg.off_lpeChxFb (i : Nat) : Reg.off .lpeChxFb [i] = 0x00104010 + 0x20 * i := rfl
theorem Reg.off_lpeChxOut (i : Nat) : Reg.off .lpeChxOut [i] = 0x00104018 + 0x20 * i := rfl
theorem Reg.off_lpeRplCfg (i : Nat) : Reg.off .lpeRplCfg [i] = 0x00108000 + 0x10 * i := rfl
theorem Reg.off_lpeRplAmp (i : Nat) : Reg.off .lpeRplAmp [i] = 0x00108008 + 0x10 * i := rfl
theorem Reg.off_lpeChs (i j : Nat) : Reg.off .lpeChs [i, j] = 0x0010A000 + 0x40 * i + 0x8 * j := rfl
theorem Reg.off_lpeGtbl (i j : Nat) : Reg.off .lpeGtbl [i, j] = 0x00110000 + 0x200 * i + 0x8 * j := rfl
theorem Reg.off_lpeStbl (i j : Nat) : Reg.off .lpeStbl [i, j] = 0x00130000 + 0x80 * i + 0x8 * j := rfl
theorem Reg.off_drvPmpCfg (i : Nat) : Reg.off .drvPmpCfg [i] = 0x00140000 + 0x400 * i := rfl
theorem Reg.off_drvPmpMotor (i : Nat) : Reg.off .drvPmpMotor [i] = 0x00140008 + 0x400 * i := rfl
theorem Reg.off_drvPmpMotor2 (i : Nat) : Reg.off .drvPmpMotor2 [i] = 0x00140010 + 0x400 * i := rfl
theorem Reg.off_drvPmpSpi (i : Nat) : Reg.off .drvPmpSpi [i] = 0x00140018 + 0x400 * i := rfl
theorem Reg.off_drvPmpBand (i : Nat) : Reg.off .drvPmpBand [i] = 0x00140020 + 0x400 * i := rfl
theorem Reg.off_drvPmpStat (i : Nat) : Reg.off .drvPmpStat [i] = 0x00140028 + 0x400 * i := rfl
theorem Reg.off_drvPmpMeas (i : Nat) : Reg.off .drvPmpMeas [i] = 0x00140030 + 0x400 * i := rfl
theorem Reg.off_drvFanCfg (i : Nat) : Reg.off .drvFanCfg [i] = 0x00141000 + 0x100 * i := rfl
theorem Reg.off_drvFanLim (i : Nat) : Reg.off .drvFanLim [i] = 0x00141008 + 0x100 * i := rfl
theorem Reg.off_drvFanBand (i : Nat) : Reg.off .drvFanBand [i] = 0x00141010 + 0x100 * i := rfl
theorem Reg.off_drvFanTach (i : Nat) : Reg.off .drvFanTach [i] = 0x00141018 + 0x100 * i := rfl
theorem Reg.off_drvFanStat (i : Nat) : Reg.off .drvFanStat [i] = 0x00141020 + 0x100 * i := rfl
theorem Reg.off_drvFanMeas (i : Nat) : Reg.off .drvFanMeas [i] = 0x00141028 + 0x100 * i := rfl
theorem Reg.off_drvZone (i : Nat) : Reg.off .drvZone [i] = 0x00141800 + 0x8 * i := rfl
theorem Reg.off_fbCfg (i : Nat) : Reg.off .fbCfg [i] = 0x00160000 + 0x10000 * i := rfl
theorem Reg.off_fbBt (i : Nat) : Reg.off .fbBt [i] = 0x00160008 + 0x10000 * i := rfl
theorem Reg.off_fbErr (i : Nat) : Reg.off .fbErr [i] = 0x00160010 + 0x10000 * i := rfl
theorem Reg.off_fbFifo (i j : Nat) : Reg.off .fbFifo [i, j] = 0x00160018 + 0x10000 * i + 0x8 * j := rfl
theorem Reg.off_fbCnt (i : Nat) : Reg.off .fbCnt [i] = 0x00160028 + 0x10000 * i := rfl
theorem Reg.off_fbBeat (i : Nat) : Reg.off .fbBeat [i] = 0x00160030 + 0x10000 * i := rfl
theorem Reg.off_fbFltId (i j : Nat) : Reg.off .fbFltId [i, j] = 0x00161000 + 0x10000 * i + 0x10 * j := rfl
theorem Reg.off_fbFltMask (i j : Nat) : Reg.off .fbFltMask [i, j] = 0x00161008 + 0x10000 * i + 0x10 * j := rfl
theorem Reg.off_fbPvalBind (i : Nat) : Reg.off .fbPvalBind [i] = 0x00164000 + 0x10 * i := rfl
theorem Reg.off_fbPvalVal (i : Nat) : Reg.off .fbPvalVal [i] = 0x00164008 + 0x10 * i := rfl
theorem Reg.off_fbMoCfg (i j : Nat) : Reg.off .fbMoCfg [i, j] = 0x00168000 + 0x10000 * i + 0x80 * j := rfl
theorem Reg.off_fbMoStat (i j : Nat) : Reg.off .fbMoStat [i, j] = 0x00168008 + 0x10000 * i + 0x80 * j := rfl
theorem Reg.off_fbMoTs (i j : Nat) : Reg.off .fbMoTs [i, j] = 0x00168010 + 0x10000 * i + 0x80 * j := rfl
theorem Reg.off_fbMoData (i j k : Nat) : Reg.off .fbMoData [i, j, k] = 0x00168040 + 0x10000 * i + 0x80 * j + 0x8 * k := rfl
theorem Reg.off_pioTinCfg (i : Nat) : Reg.off .pioTinCfg [i] = 0x001A0000 + 0x10 * i := rfl
theorem Reg.off_pioTinVal (i : Nat) : Reg.off .pioTinVal [i] = 0x001A0008 + 0x10 * i := rfl
theorem Reg.off_pioAinCfg (i : Nat) : Reg.off .pioAinCfg [i] = 0x001A0400 + 0x10 * i := rfl
theorem Reg.off_pioAinVal (i : Nat) : Reg.off .pioAinVal [i] = 0x001A0408 + 0x10 * i := rfl
theorem Reg.off_pioAoutCfg (i : Nat) : Reg.off .pioAoutCfg [i] = 0x001A0600 + 0x10 * i := rfl
theorem Reg.off_pioAoutVal (i : Nat) : Reg.off .pioAoutVal [i] = 0x001A0608 + 0x10 * i := rfl
theorem Reg.off_pioLeakCfg (i : Nat) : Reg.off .pioLeakCfg [i] = 0x001A0800 + 0x10 * i := rfl
theorem Reg.off_pioLeakVal (i : Nat) : Reg.off .pioLeakVal [i] = 0x001A0808 + 0x10 * i := rfl
theorem Reg.off_prtTripCfg (i : Nat) : Reg.off .prtTripCfg [i] = 0x001B0100 + 0x20 * i := rfl
theorem Reg.off_prtTripLim (i : Nat) : Reg.off .prtTripLim [i] = 0x001B0108 + 0x20 * i := rfl
theorem Reg.off_prtTripHys (i : Nat) : Reg.off .prtTripHys [i] = 0x001B0110 + 0x20 * i := rfl
theorem Reg.off_prtTripStat (i : Nat) : Reg.off .prtTripStat [i] = 0x001B0118 + 0x20 * i := rfl
theorem Reg.off_prtRespCfg (i : Nat) : Reg.off .prtRespCfg [i] = 0x001B0800 + 0x40 * i := rfl
theorem Reg.off_prtRespRacks (i : Nat) : Reg.off .prtRespRacks [i] = 0x001B0808 + 0x40 * i := rfl
theorem Reg.off_prtRespDrv (i : Nat) : Reg.off .prtRespDrv [i] = 0x001B0810 + 0x40 * i := rfl
theorem Reg.off_prtRespOut (i : Nat) : Reg.off .prtRespOut [i] = 0x001B0818 + 0x40 * i := rfl
theorem Reg.off_prtRespNodes (i j : Nat) : Reg.off .prtRespNodes [i, j] = 0x001B0820 + 0x40 * i + 0x8 * j := rfl
theorem Reg.off_humMap (i : Nat) : Reg.off .humMap [i] = 0x00200000 + 0x1000 * i := rfl
theorem Reg.off_humCtrl (i : Nat) : Reg.off .humCtrl [i] = 0x00200008 + 0x1000 * i := rfl
theorem Reg.off_humStat (i : Nat) : Reg.off .humStat [i] = 0x00200010 + 0x1000 * i := rfl
theorem Reg.off_tusStat (i : Nat) : Reg.off .tusStat [i] = 0x00400000 + 0x1000 * i := rfl
theorem Reg.off_tusFold (i : Nat) : Reg.off .tusFold [i] = 0x00400008 + 0x1000 * i := rfl
theorem Reg.off_tusRun (i : Nat) : Reg.off .tusRun [i] = 0x00400010 + 0x1000 * i := rfl
theorem Reg.off_tusCnt (i : Nat) : Reg.off .tusCnt [i] = 0x00400018 + 0x1000 * i := rfl
theorem Reg.off_slu (i : Nat) : Reg.off .slu [i] = 0x00800000 + 0x8 * i := rfl
theorem Reg.off_stmLo (i : Nat) : Reg.off .stmLo [i] = 0x01000000 + 0x10 * i := rfl
theorem Reg.off_stmHi (i : Nat) : Reg.off .stmHi [i] = 0x01000008 + 0x10 * i := rfl

end Sys2Proof.Machine
end

