-- ==== Sys2Proof/Laws/Sluices.lean ====
section
/-!
SUPPORT. What messages to the homes of sluices and what enters staging change, once per operation (R132, R136, R137, R144).
-/
namespace Sys2Proof.Machine

variable (s : State)

@[simp] theorem State.carry_regs (m : Msg) : (s.carry m).regs = s.regs := rfl
@[simp] theorem State.carry_tus (m : Msg) (t : Nat) : (s.carry m).tus t = s.tus t := rfl
@[simp] theorem State.carry_runs (m : Msg) : (s.carry m).runs = s.runs := rfl
@[simp] theorem State.carry_out (m : Msg) : (s.carry m).out = s.out := rfl
@[simp] theorem State.carry_hbm (m : Msg) : (s.carry m).hbm = s.hbm := rfl
@[simp] theorem State.carry_msgs (m : Msg) : (s.carry m).fab.msgs = s.fab.msgs ++ [m] := rfl
@[simp] theorem State.sends_regs (x : Sending) : (s.sends x).regs = s.regs := rfl
@[simp] theorem State.sends_tus (x : Sending) (t : Nat) : (s.sends x).tus t = s.tus t := rfl
@[simp] theorem State.sends_runs (x : Sending) : (s.sends x).runs = s.runs := rfl
@[simp] theorem State.sends_out (x : Sending) : (s.sends x).out = s.out := rfl
@[simp] theorem State.sends_sends (x : Sending) : (s.sends x).fab.sends = s.fab.sends ++ [x] := rfl

/-- The second state is the first but for registers, the release clocks and the messages on their way. -/
def State.SluicesOnly (s s' : State) : Prop := s' = { s with regs := s'.regs, fab := { s.fab with msgs := s'.fab.msgs, relAt := s'.fab.relAt } }

theorem State.SluicesOnly.trans {s u v : State} (h : s.SluicesOnly u) (k : u.SluicesOnly v) : s.SluicesOnly v := by
  unfold State.SluicesOnly at *
  rw [k, h]

theorem State.sluicesOnly_set (f : Fld) (idx : List Nat) (v : Nat) : s.SluicesOnly (s.set f idx v) := rfl
theorem State.sluicesOnly_bump (f : Fld) (idx : List Nat) (n : Nat) : s.SluicesOnly (s.bump f idx n) := rfl

/-- A counted signal changes registers only. -/
theorem State.sluicesOnly_count (slu : Nat) : s.SluicesOnly (s.count slu) := by
  unfold State.count
  dsimp only
  split
  · split
    · exact (s.sluicesOnly_bump ..).trans (State.sluicesOnly_set ..)
    · exact s.sluicesOnly_bump ..
  · split
    · exact s.sluicesOnly_bump ..
    · exact (s.sluicesOnly_bump ..).trans (State.sluicesOnly_bump ..)

theorem State.sluicesOnly_absorbSignal (slu : Nat) : s.SluicesOnly (s.absorbSignal slu) := by
  unfold State.absorbSignal
  dsimp only
  split
  · exact (s.sluicesOnly_bump ..).trans (State.sluicesOnly_set ..)
  · exact s.sluicesOnly_bump ..

theorem State.sluicesOnly_noteRelease (slu clk : Nat) : s.SluicesOnly (s.noteRelease slu clk) := by
  unfold State.noteRelease
  split <;> rfl

theorem State.sluicesOnly_arm (slu target bound : Nat) : s.SluicesOnly (s.arm slu target bound) := rfl

theorem State.sluicesOnly_takeArm (m : Msg) : s.SluicesOnly (s.takeArm m) := by
  unfold State.takeArm
  split
  · exact s.sluicesOnly_arm ..
  · rfl

/-- Armings that land change sluice registers, release clocks and the messages on their way. -/
theorem State.sluicesOnly_landArms (sel : Msg → Bool) : s.SluicesOnly (s.landArms sel) := by
  have h : ∀ (l : List Msg) (u : State), u.SluicesOnly (l.foldl State.takeArm u) := by
    intro l
    induction l with
    | nil => intro u; rfl
    | cons m r ih => intro u; exact (u.sluicesOnly_takeArm m).trans (ih _)
  exact State.SluicesOnly.trans (u := { s with fab := { s.fab with msgs := s.fab.msgs.filter (fun m => !(m.arms && sel m)) } }) rfl (h _ _)

theorem State.sluicesOnly_take (m : Msg) : s.SluicesOnly (s.take m) :=
  State.SluicesOnly.trans (u := { s with fab := { s.fab with msgs := s.fab.msgs.erase m } }) rfl (State.sluicesOnly_landArms ..)

end Sys2Proof.Machine
end

