-- ==== Sys2Proof/Tests/Slice0.lean ====
section
/-!
SUPPORT. Tests: ill-formed commands, the worked examples of the spec, and a witness for the hypotheses of every statement.
-/
namespace Sys2Proof.Tests
open Sys2Proof.Machine

/-- A state that differs from reset in fields of registers. -/
def stF (l : List (Fld × List Nat × Nat)) : Sys2Proof.Machine.State := l.foldl (fun s e => s.set e.1 e.2.1 e.2.2) State.reset

/-- What `f` says of the next state of a command, false where it answers none. -/
def after (o : Host.Outcome Sys2Proof.Machine.State Fault Refusal) (f : Sys2Proof.Machine.State → Bool) : Bool :=
  match o with
  | .next s => f s
  | _ => false

/-- An issue of tussock `t` at clock 100 of the last repeat, `r`, of a bundle under P0. -/
def iss (t : Fin 256) (r : Nat) : Iss := ⟨t, 100, 7, r, BitVec.ofNat 4 r, 0, false, 0⟩

def vArg (fmt : BitVec 4) (vd : BitVec 6) (fn : BitVec 7) : VArg := ⟨fmt, vd, 1, 2, 3, false, 0, fn⟩
def sArg (ty : Bool) (fn : BitVec 24) : SArg := ⟨ty, 1, 2, 3, fn⟩

/-! ## Ill-formed commands are refused -/

theorem test_ill_formed_tensor :
    (Instr.tmma (iss 0 0) ⟨10, 10, 0, 0, 0, 0, false, false, 0⟩).wf = false ∧ (Instr.tmma (iss 0 0) ⟨0, 0, 1, 0, 0, 0, false, false, 0⟩).wf = false ∧
    (Instr.tmma (iss 0 0) ⟨2, 3, 0, 0, 0, 0, false, false, 0⟩).wf = false ∧ (Instr.tmma (iss 0 8) ⟨2, 2, 0, 60, 0, 0, false, true, 0⟩).wf = false ∧
    (Instr.tzero (iss 0 0) ⟨10, 0, 0, 0, 0, 0, false, false, 0⟩).wf = false ∧ (Instr.tadd (iss 0 0) ⟨2, 2, 0, 0, 0, 0, false, false, 1⟩).wf = false ∧ (Instr.tmov (iss 0 0) ⟨0, 0, 0, 0, 0, 0, false, false, 1⟩).wf = false := by decide

theorem test_ill_formed_vector :
    (Instr.vadd (iss 0 0) (vArg 6 0 0)).wf = false ∧ (Instr.vmul (iss 0 0) { vArg 1 0 0 with rm := true }).wf = false ∧
    (Instr.vabs (iss 0 1) { vArg 1 63 0 with avm := 8 }).wf = false ∧ (Instr.vdiv (iss 0 0) (vArg 7 0 0)).wf = false ∧
    (Instr.vrcp (iss 0 0) (vArg 9 0 0)).wf = false ∧ (Instr.vand (iss 0 0) (vArg 1 0 0)).wf = false ∧
    (Instr.vcmp (iss 0 0) (vArg 1 0 0)).wf = false ∧ (Instr.vbc (iss 0 0) (vArg 12 0 0)).wf = false ∧
    (Instr.vred (iss 0 0) (vArg 1 0 3)).wf = false ∧ (Instr.vperm (iss 0 0) (vArg 1 0 0x50)).wf = false ∧
    (Instr.vtrd (iss 0 0) (vArg 2 0 0)).wf = false ∧ (Instr.vtwr (iss 0 0) (vArg 0 0 0)).wf = false ∧
    (Instr.vcvt (iss 0 0) (vArg 1 0 (8 * 6))).wf = false ∧ (Instr.vcvt (iss 0 0) (vArg 1 0 (8 * 2 + 2))).wf = false ∧
    (Instr.plog (iss 0 0) (vArg 1 8 0)).wf = false ∧ (Instr.plog (iss 0 0) { vArg 1 1 0 with rm := true }).wf = false ∧ (Instr.pset (iss 0 0) (vArg 12 1 0)).wf = false ∧ (Instr.pset (iss 0 0) (vArg 1 1 65)).wf = false := by decide

theorem test_ill_formed_move_and_scalar :
    (Instr.mldh (iss 0 0) ⟨2, 0, 0, false, false, 0⟩).wf = false ∧ (Instr.mld (iss 0 0) ⟨2, 0, 1, false, false, 0⟩).wf = false ∧
    (Instr.mgt16 (iss 0 3) ⟨32, 0, 0, false, true, 0⟩).wf = false ∧ (Instr.mpv (iss 0 0) 0 0).wf = false ∧
    (Instr.sand (iss 0 0) (sArg true 0)).wf = false ∧ (Instr.sshl (iss 0 0) (sArg false 64)).wf = false ∧
    (Instr.scmp (iss 0 0) (sArg false 0)).wf = false ∧ (Instr.slcnt (iss 0 1) 0 0).wf = false ∧ (Instr.sloop (iss 0 1) 0 0 0).wf = false ∧
    (Instr.xarm (iss 0 0) 0 0 0).wf = false ∧ (Instr.xwait (iss 0 1) 0 0).wf = false ∧ (Instr.xend (iss 0 1)).wf = false ∧
    (Instr.xing (iss 0 0) 0 2 0 120 9).wf = false ∧ (Instr.xemit (iss 0 0) 0 1 0 632 8).wf = false ∧
    (Instr.xemit (iss 0 0) 0 2 0 0 0).wf = false := by decide

/-- R98: an encoding that the checker rejects is refused. -/
theorem test_ill_formed_refused : exec (.vadd (iss 0 0) (vArg 6 0 0)) State.reset = .refused .checkerRejects := rfl

/-! ## Bundles are read from the encodings of the spec (Tables 4.1, 4.2, 4.7, 4.9, 4.11, 5.1, 5.4) -/

/-- The header and slots of a bundle, each slot at its place. -/
def bundleW (header t v m s x : Nat) : Nat := header + t * 2 ^ 16 + v * 2 ^ 64 + m * 2 ^ 112 + s * 2 ^ 160 + x * 2 ^ 208

/-- What a bundle issues at an issue of tussock 0. -/
def opsW (w : Nat) : Option (List (Nat × Instr)) := (Bundle.decode w).bind (fun b => b.ops (iss 0 3))

/-- PSEL 2, PINV, RPT 3, EN_T and EN_X: TMMA of E4M3 by E5M2 into T3 from V6 and V7 with Z and AV; XARM of 0x1234, TARGET 8, BOUND 4. -/
theorem test_bundle_tensor_and_sluice :
    let t := 0b000000010100010101100011000011100000011000000000
    let x := 0b101000001001000110100000000000000100000000000100
    let w := bundleW 0b0101001110001000 t 0 0 0 x
    Bundle.decode w = some ⟨2, true, 3, [some t, none, none, none, some x]⟩ ∧
    opsW w = some [(0, .tmma (iss 0 3) ⟨4, 5, 3, 6, 7, 0, true, true, 0⟩), (4, .xarm (iss 0 3) 0x1234 8 4)] := ⟨by decide, rfl⟩

/-- VFMA in FP32 of V1, V2 and V3 into V60 with AVM 9; MLD of V5 at A1 + 64 · (−2) with PI. -/
theorem test_bundle_vector_and_move :
    opsW (bundleW 0b0000001101100000 0 0b000100110001111100000001000010000011010010000000
      0b010000000001010001000010111111111111111000000000 0 0) =
    some [(1, .vfma (iss 0 3) ⟨1, 60, 1, 2, 3, false, 9, 0⟩), (2, .mld (iss 0 3) ⟨5, 1, 0, true, false, BitVec.ofInt 16 (-2)⟩)] := rfl

/-- SLOOP of level 2 over LEN 5 with A0 and A15; XEMIT of class 3 in FP32 from V63, INDEX 31, CNT 0. -/
theorem test_bundle_sequence_and_exchange :
    opsW (bundleW 0b0000001100011000 0 0 0 0b100100010100000000000010110000000000000010000000
      0b101010010011000111111100000000011111000000000000) =
    some [(3, .sloop (iss 0 3) 2 5 0x8001), (4, .xemit (iss 0 3) 3 1 63 31 0)] := rfl

/-- R98: bits of a disabled slot, header [2:0], opcode 0 and reserved bits. -/
theorem test_bundle_rejects :
    Bundle.decode (bundleW 0x80 1 1 0 0 0) = none ∧ Bundle.decode 1 = none ∧ opsW (bundleW 0x80 0 0 0 0 0) = none ∧
    opsW (bundleW 0x80 (2 ^ 41 + 1) 0 0 0 0) = none ∧ opsW 0 = some [] := ⟨by decide, by decide, rfl, rfl, rfl⟩

/-! ## The queue -/

theorem test_step_front : step { State.reset with pending := [.frameSequencerStop 5] } = exec (.frameSequencerStop 5) State.reset := rfl
theorem test_step_idle : step State.reset = .next State.reset := rfl
theorem test_no_word : decodeTableWord 256 1 = none ∧ State.reset.withFetchWord 256 1 = State.reset := ⟨rfl, rfl⟩
theorem test_reset_canonical : State.reset.canonical = true := by decide

/-! ## Worked examples of the spec -/

/-- Example 3.1: −13.6875 in every format (the stochastic row needs noise). -/
theorem test_formats :
    let n := Num.fin true 219 (-4) false
    encodeNum Fmt.fp64 false .rne n = (0xC02B600000000000, 0) ∧ encodeNum Fmt.fp32 false .rne n = (0xC15B0000, 0) ∧
    encodeNum Fmt.bf16 false .rne n = (0xC15B, 0) ∧ encodeNum Fmt.fp16 false .rne n = (0xCAD8, 0) ∧
    encodeNum Fmt.e4m3 false .rne n = (0xD6, flInx) ∧ encodeNum Fmt.e5m2 false .rne n = (0xCB, flInx) ∧
    encodeNum Fmt.int8 false .rne n = (0xF2, flInx) ∧ encodeNum Fmt.int16 false .rne n = (0xFFF2, flInx) ∧
    encodeNum Fmt.q16 false .rne n = (0xFFF25000, 0) ∧ bs4Scale [n] = (0x80, 0, false) ∧ encodeBs4 .rne 0x80 false n = (0xF, flInx) := by decide

/-- Example 9.1: one class P sample. -/
theorem test_class_p_sample :
    lawP { g := false, d := 8, kp := -8 * 65536, ki := -66, kd := -2 * 65536, ad := 0xC000, bias := 40 * 65536, umin := 0, umax := 100 * 65536,
           du := 400 * 65536, vmax := 0, amax := 0, jmax := 0, tbl := [] } 0x3A6666 0xC80000000 (-(2 ^ 30)) (30 * 65536) 0x1EC000 0x1EB000 =
      { u := 0x3A7032, i := 0xC80318000, d := -(2 ^ 28), sat := false, lim := false } := by decide

/-- Example 20.1, and 0x1C_0000 of the reserved region. -/
theorem test_offsets :
    Reg.lookup 0x168080 = some (.fbMoCfg, [0, 1]) ∧ Reg.lookup 0x179F88 = some (.fbMoStat, [1, 63]) ∧ Reg.lookup 0x110A18 = some (.lpeGtbl, [5, 3]) ∧
    Reg.lookup 0x402010 = some (.tusRun, [2]) ∧ Reg.lookup 0x20128 = some (.plnRetired, [1]) ∧ Reg.lookup 0x1C0000 = none := by decide

/-- Example 5.1: `SLU_ENTRY[0x0400]` after eight signals of target 8, and with SLIP 2. -/
theorem test_sluice_entry :
    (stF [(F.slu_CLAIMED, [0x400], 1), (F.slu_STATUS, [0x400], 2), (F.slu_BOUND, [0x400], 64), (F.slu_TARGET, [0x400], 8),
      (F.slu_COUNT, [0x400], 8)]).readBar0 0x802000 = 0x0082004000080008 ∧
    (stF [(F.slu_CLAIMED, [0x400], 1), (F.slu_STATUS, [0x400], 2), (F.slu_BOUND, [0x400], 64), (F.slu_TARGET, [0x400], 8),
      (F.slu_COUNT, [0x400], 8), (F.slu_SLIP, [0x400], 2)]).readBar0 0x802000 = 0x0282004000080008 := by decide

/-- Example 12.1: the third wet scan with k = 0.3725 turns the rope of 120 m wet at 44.7 m. -/
theorem test_leak_location :
    after (execLeakScan 31000000 7 ⟨false, false, 10, 3725, 10000⟩
        { stF [(F.pioLeakCfg_EN, [7], 1), (F.pioLeakCfg_LEN, [7], 0x4B0)] with pio := { scans := [(103, 2)] } })
      (fun s => decide (s.get F.pioLeakVal_VALUE [7] = 0x2CB333 ∧ s.get F.pioLeakVal_STATUS [7] = 0x10)) = true := by decide

/-- Example 14.1: the rack manager's 80,000 W on twenty packages, one under a ceiling of 3,000 W. -/
theorem test_rack_fit :
    let fit := fitTo (fun _ => true) 80000000 4 (⟨247, 12, 3000000, 2, 1000000, false⟩ :: List.replicate 19 ⟨240, 12, 4200000, 0, 1000000, false⟩)
    (fit.1.map Fit.u).take 2 = [2910828, 4057324] ∧ fit.2 = false := by decide

/-- Example 16.1: position 3 fused out and position 0 failed. -/
theorem test_repair_map : logicalMap 0b1001 = 0xF8765421 := by decide


/-! ## Witnesses: operations of a track -/

/-- Tussock 3 with an address register in each space (A0 local, A1 hummock, A2 another hummock, A3 HBM, A4 constants, A5 beyond the
local SRAM), P1 of lane 0 off, a transfer, and routes to its own hummock, to hummock 1 and to the HBM port at hummock 28. -/
def tusW : Tus :=
  { a := [(0, 0x17FF00), (1, 2 ^ 45 + 0x3FFF00), (2, 2 * 2 ^ 45 + 2 ^ 22 + 0x3FFF00), (3, 3 * 2 ^ 45 + 0x2FFFFFFF00), (4, 4 * 2 ^ 45 + 0xFFE0), (5, 0x17FF01)],
    p := [(1, 2)], xfers := [⟨0, 0, 64, [5], 8191, true, 7, 90, false⟩], stopped := false,
    cst := [(4, 0x11), (7, 1), (8, 0xA7), (9, 0x56), (10, 1), (11, 0x3C)] }
def stW : Sys2Proof.Machine.State := State.reset.setTus 3 tusW
def issP (p : BitVec 3) : Iss := ⟨3, 100, 7, 0, 0, p, false, 0⟩
def mArg (v : BitVec 6) (aa ai : BitVec 4) (off : BitVec 16) : MemArg := ⟨v, aa, ai, false, false, off⟩

theorem witness_HeldTussockIssuesNothing :
    issueOf (.sli (issP 0) 1 5) = some (issP 0) ∧ ¬ (stW.setTus 3 { tusW with stopped := true }).mayIssue (issP 0) ∧
    ¬ (stW.setTus 3 { tusW with ended := true }).mayIssue (issP 0) ∧ ¬ (stW.setTus 3 { tusW with wait := some ⟨0, 1, 2, 3⟩ }).mayIssue (issP 0) := by
  unfold State.mayIssue; decide

theorem witness_TrackOperationsKeepTheRest : issueOf (.sli (issP 0) 1 5) = some (issP 0) ∧ ∃ s', exec (.sli (issP 0) 1 5) stW = .next s' :=
  ⟨rfl, _, rfl⟩

theorem witness_RegisterMoves : stW.mayIssue (issP 0) ∧ stW.mayIssue (issP 1) ∧ bitAt (stW.maskM (issP 0)) 0 = true ∧ (7 : BitVec 3).toNat ≠ 0 := by
  unfold State.mayIssue; decide

theorem witness_ScalarOperations :
    stW.mayIssue (issP 0) ∧ bitAt (stW.maskM (issP 0)) 0 = true ∧ bitAt (stW.maskM (issP 1)) 0 = false ∧ (sArg false 63).fn.toNat < 64 ∧
    (sArg true 0x200000).fn.toNat / 2 ^ 21 ≠ 0 := by
  unfold State.mayIssue; decide

theorem witness_TensorOperations :
    tmmaOk (issP 0) ⟨0, 0, 6, 0, 0, 0, false, false, 0⟩ = true ∧ tmmaOk (issP 0) ⟨2, 2, 7, 63, 63, 0, true, false, 0⟩ = true ∧ tmmaOk (issP 0) ⟨6, 6, 7, 63, 63, 63, true, false, 0⟩ = true ∧
    taccOk ⟨1, 1, 7, 0, 0, 0, false, false, 0⟩ = true ∧ taccOk ⟨0, 0, 6, 0, 0, 0, false, false, 0⟩ = true := by decide

theorem witness_VectorArithmeticAndFunctions :
    varithOk (issP 0) (vArg 0 62 0) 1 = true ∧ varithOk (issP 0) (vArg 2 63 0) 2 = true ∧ varithOk (issP 0) (vArg 1 63 0) 3 = true ∧
    vbitOk (issP 0) (vArg 7 63 63) 1 = true ∧ vdivOk (issP 0) (vArg 0 62 0) 1 = true ∧ vdivOk (issP 0) (vArg 3 63 0) 2 = true ∧
    vfunOk (issP 0) (vArg 1 63 0) = true ∧ vfunOk (issP 0) (vArg 3 0 0) = true ∧ Fmt.fp32.w = 32 ∧ Fmt.bf16.w ≠ 32 ∧ Fmt.fp32.isFloat = true ∧
    Fmt.int16.isFloat = false := by decide

theorem witness_VectorBitsLanesAndPredicates :
    vbitOk (issP 0) (vArg 8 63 0) 2 = true ∧ varithOk (issP 0) (vArg 1 63 0) 2 = true ∧ vbcOk (issP 0) (vArg 1 63 31) = true ∧
    vpermOk (issP 0) (vArg 1 63 0x4F) = true ∧ vcmpOk (issP 0) (vArg 1 0 0x15) = true ∧ plogOk (vArg 0 7 0) = true ∧ psetOk (vArg 0 7 64) = true ∧
    psetOk (vArg 0 1 0) = true := by decide

theorem witness_VectorConversionReductionAndTiles :
    vcvtOk (issP 0) (vArg 1 63 (8 * 2)) = true ∧ vcvtOk (issP 0) (vArg 6 63 (8 * 2)) = true ∧ vcvtOk (issP 0) (vArg 2 63 (8 * 6 + 3)) = true ∧
    vredOk (issP 0) (vArg 1 63 2) = true ∧ vtileOk (issP 0) (vArg 1 63 0) 63 false = true ∧ pairCode (1 : BitVec 4).toNat = false := by decide

theorem witness_LoadsAndStores :
    let at_ (aa : Nat) (units : Int) (n : Nat) := decodeAddr (addAddr ((stW.begun (issP 0)).areg aa) (64 * units)) n
    memOk (issP 0) (mArg 63 0 0 0) 1 false = true ∧ memOk (issP 0) (mArg 63 0 4 0) 1 true = true ∧ memOk (issP 0) (mArg 60 1 0 0) 4 false = true ∧
    memOk (issP 0) (mArg 48 0 4 0) 16 true = true ∧ at_ 0 3 64 = some (.local_ 0x17FFC0) ∧ at_ 1 3 64 = some (.hum 0x3FFFC0) ∧
    at_ 4 0 32 = some (.const 0xFFE0) ∧ at_ 4 0 2 = some (.const 0xFFE0) ∧ at_ 1 0 256 = some (.hum 0x3FFF00) ∧
    Mem.num (stW.begun (issP 0)).cst 0xFFE0 2 = 0 ∧ Mem.wf (stW.tus 3).sram = true := by decide

theorem witness_BlockTransfersFlyAndComplete :
    let r (i n : Nat) := decodeAddr ((stW.begun (issP 0)).areg i) n
    let q (i : Nat) := (stW.issue (issP 0)).routeOf 3 0 i
    q 0 = some ⟨0, [], 0, 0⟩ ∧ q 1 = some ⟨1, [1], 1, 0⟩ ∧ q 2 = some ⟨7, [2, 2, 2, 1, 1, 1, 1], 28, 1⟩ ∧ portStack 28 = some (stackOf 0x2FFFFFFF00) ∧
    stW.humMay (issP 0) 1 = true ∧ stW.windowMay (issP 0) 0x2FFFFFFF00 256 true = true ∧ stW.useMay (issP 0) (.mxrd (issP 0) ⟨0, 1, 0, 5, 1, false⟩) = true ∧
    stW.mayIssue (issP 0) ∧
    r 0 256 = some (.local_ 0x17FF00) ∧ r 1 256 = some (.hum 0x3FFF00) ∧ r 2 256 = some (.other 1 0x3FFF00) ∧ r 3 256 = some (.hbm 0x2FFFFFFF00) ∧
    0x2FFFFFFF00 % 4096 + 256 = 4096 ∧ (stW.begun (issP 0)).xfers.length < 4 ∧ (stW.begun (issP 0)).areg 5 % 256 ≠ 0 ∧
    (stW.tus 3).xfers[0]? = some ⟨0, 0, 64, [5], 8191, true, 7, 90, false⟩ ∧ (stW.tus 3).xfers[3]? = none ∧ stW.absorbs 3 ⟨0, 0, 64, [5], 8191, true, 7, 90, false⟩ = none ∧
    ((stW.setTus 3 { tusW with inReset := true }).absorbs 3 ⟨0, 0, 64, [5], 8191, true, 7, 90, false⟩) = some 0 := by unfold State.mayIssue; decide

theorem witness_CountedLoops :
    (0 < (5 : Nat) ∧ 5 < 9 ∧ 5 ≤ 0 + 5) ∧ (0 < (5 : Nat) ∧ 5 ≤ 0 + 5 ∧ 4 < 5) ∧ ((0 : Nat) ≤ 0 ∧ 0 + 5 < 6) ∧ (issP 0).rep = 0 ∧ (iss 0 1).rep ≠ 0 := by
  decide

theorem witness_SluicesArmCountAndAbsorb :
    let s : Sys2Proof.Machine.State := { stF [(F.slu_STATUS, [8191], 1), (F.slu_TARGET, [8191], 1), (F.slu_STATUS, [1], 2)] with
      fab := { tus := [(3, tusW)], msgs := [⟨102, 8191, .signal⟩, ⟨103, 1, .absorbed⟩] } }
    let b := s.take ⟨102, 8191, .signal⟩
    s.mayIssue (issP 0) ∧ s.arrived .signal 8191 101 = none ∧ s.arrived .signal 8191 102 = some ⟨102, 8191, .signal⟩ ∧
    s.arrived .absorbed 1 103 = some ⟨103, 1, .absorbed⟩ ∧ b.get F.slu_STATUS [8191] = 1 ∧ b.get F.slu_TARGET [8191] ≤ b.get F.slu_COUNT [8191] + 1 ∧
    s.get F.slu_STATUS [1] = 2 ∧ xarmOk (issP 0) 1 = true ∧ s.useMay (issP 0) (.xarm (issP 0) 8191 1 0) = true := by
  unfold State.mayIssue; decide

theorem witness_WaitsAndSectionEnds :
    let w : Wait := ⟨8191, 110, 101, 48⟩
    let s (k : Nat) : Sys2Proof.Machine.State := { stF [(F.slu_STATUS, [8191], 2), (F.slu_OWNER, [8191], 7)] with
      fab := { tus := [(0, tusW), (3, { tusW with wait := some w })], relAt := [(8191, k)] } }
    ((s 0).tus 3).wait = some w ∧ w.slu < 8192 ∧ (s 0).released 8191 = true ∧ (s 0).released 0 = false ∧ (s 157).releaseAt 3 8191 = 158 ∧
    w.resumes 158 ≤ w.planned + w.bound ∧ w.planned + w.bound < w.resumes ((s 158).releaseAt 3 8191) ∧ ((s 0).tus 0).wait = none ∧
    (s 0).mayIssue (iss 0 0) ∧ (iss 0 0).rpt = 0 ∧ (iss 0 1).rpt ≠ 0 ∧ (s 0).planOf 0 0 = none ∧ (s 0).useMay (iss 0 0) (.xwait (iss 0 0) 8191 0) = true := by
  unfold State.mayIssue; decide

theorem witness_IngestLandsSnapshotUnits :
    stW.mayIssue (issP 0) ∧ stW.ingestMay (issP 0) 1 = true ∧ stW.useMay (issP 0) (.xing (issP 0) 5 1 0 0xFFF0 15) = true ∧
    xingOk (issP 0) 0 0 0 = true ∧ xingOk (issP 0) 1 0xFFF0 15 = true ∧ xingOk (issP 0) 5 511 0 = true ∧ (stW.begun (issP 0)).alOff 0 256 = some 0x17FF00 := by
  unfold State.mayIssue; decide

theorem witness_EmitStagesClampedValues :
    stW.mayIssue (issP 0) ∧ stW.useMay (issP 0) (.xemit (issP 0) 0 1 63 0 15) = true ∧ xemitOk (issP 0) 0 1 63 0 15 = true ∧
    xemitOk (issP 0) 6 9 0 15 0 = true ∧ (∀ o < 8, o ≠ 5 → (State.reset.outRange o 0).1 ≤ (State.reset.outRange o 0).2) := by
  unfold State.mayIssue; decide

theorem witness_CanAnnotationClockAndBoundaryOperations :
    let s := (stF [(F.jrnStat_JOURNAL_FULL, [], 1), (F.parStat_ROLE, [], 2)]).setTus 3 tusW
    s.mayIssue (issP 0) ∧ s.useMay (issP 0) (.xcanq (issP 0) 0 0 0 0) = true ∧ s.useMay (issP 0) (.xsnd (issP 0) 0 0 15 0) = true ∧
    s.useMay (issP 0) (.xrcv (issP 0) 0 0 3 0) = true ∧ bitAt (s.maskM (issP 0)) 0 = true ∧ bitAt (s.maskM (issP 1)) 0 = false ∧ s.planOf 3 0 = none ∧
    (stW.begun (issP 0)).alOff 0 64 = some 0x17FF00 ∧ (stW.begun (issP 0)).alOff 0 256 = some 0x17FF00 ∧ s.on F.jrnStat_JOURNAL_FULL [] = true ∧
    stW.on F.jrnStat_JOURNAL_FULL [] = false ∧ s.get F.parStat_ROLE [] = 2 ∧ stW.get F.parStat_ROLE [] = 0 := by
  unfold State.mayIssue; decide


/-! ## Witnesses: drives, CAN, plant I/O and telemetry -/

/-- ACT is asserted and response 0 forces pump 3 and fan 7 to 5 %, and pump 3 and fan 7 are enabled. -/
def actL : List (Fld × List Nat × Nat) :=
  [(F.parStat_ACT, [], 1), (F.prtStat_HOLD, [], 1), (F.prtRespDrv_PMASK, [0], 8), (F.prtRespDrv_PSPD, [0], 500), (F.prtRespDrv_FMASK, [0], 128),
    (F.prtRespDrv_FSPD, [0], 500), (F.drvPmpCfg_EN, [3], 1), (F.drvFanCfg_EN, [7], 1), (F.parStat_ROLE, [], 2), (F.parCfg_MODE, [], 1)]
def stA : Sys2Proof.Machine.State := stF actL

theorem witness_PumpStartsAndFaults_1 :
    stA.pumpMay 3 = true ∧ (stA.pump 3).phase = 0 ∧ stA.pumpCmd 3 ≠ 0 ∧ ((stA.setPump 3 { phase := 1 }).pump 3).phase = 1 ∧
    ((stA.setPump 3 { phase := 3 }).pump 3).phase = 3 ∧ ((stA.setPump 3 { phase := 2, startAt := 7 }).pump 3).startAt + 1500000000 = 1500000007 ∧
    ((stA.setPump 3 { phase := 2 }).pump 3).phase = 2 ∧ stA.pumpCmd 2 = 0 ∧ ((stA.setPump 2 { phase := 4 }).pump 2).phase ≠ 0 ∧
    stA.get F.drvPmpMeas_SPEED [2] < 300 := by decide

theorem witness_PumpStartsAndFaults_2 :
    let s := (stF ((F.drvPmpCfg_AUTO_RST, [3], 1) :: actL)).setPump 3 { restart := true, faultAt := some 5, phase := 4 }
    s.get F.drvPmpCfg_EN [3] ≠ 0 ∧ (s.pump 3).phase = 4 ∧ 500 ≤ s.pumpCmd 3 ∧ (s.pump 3).restart = true ∧ (s.pump 3).faultAt = some 5 ∧
    s.get F.drvPmpCfg_AUTO_RST [3] ≠ 0 ∧ s.driving = true ∧ s.pumpCmd 3 ≠ 0 ∧ ((stA.setPump 3 { phase := 2 }).pump 3).phase = 2 := by decide

theorem witness_FanAttemptsFailAndRetry :
    let w := (stF ((F.drvFanStat_RETRY_WAIT, [7], 1) :: actL)).setFan 7 { waitEnd := 9 }
    let r := stA.setFan 7 { phase := 3, lockedAt := some 4 }
    stA.fanMay 7 = true ∧ (stA.fan 7).phase = 0 ∧ stA.get F.drvFanStat_RETRY_WAIT [7] = 0 ∧ ((stA.setFan 7 { phase := 1 }).fan 7).phase = 1 ∧
    ((stA.setFan 7 { phase := 2 }).fan 7).phase = 2 ∧ stA.get F.drvFanCfg_TACH_EN [7] ≠ 0 ∧ stA.get F.drvFanStat_TACH_LOST [7] = 0 ∧
    (r.fan 7).phase = 3 ∧ (r.fan 7).lockedAt = some 4 ∧ w.get F.drvFanStat_RETRY_WAIT [7] ≠ 0 ∧ (w.fan 7).waitEnd = 9 ∧
    ((w.set F.drvFanStat_RETRY_WAIT [7] 0).set F.drvFanStat_RETRY_S [7] 0).fanMay 7 = true := by decide

theorem witness_DrivesFollowTimeActAndInput :
    (stA.get F.parStat_ROLE [] = 1 ∨ stA.get F.parStat_ROLE [] = 2) ∧ (stA.fan 0).phase = 0 ∧ ((stA.setFan 7 { phase := 3 }).fan 7).phase ≠ 0 := by decide

/-- Bus 3 enabled and error active, object 5 committed and queued, object 200 (DIR 1) too. -/
def canL : List (Fld × List Nat × Nat) :=
  [(F.parStat_ACT, [], 1), (F.fbCfg_EN, [3], 1), (F.fbErr_STATE, [3], 0), (F.fbMoCfg_DIR, [3, 5], 1), (F.fbBeat_EN, [3], 1), (F.jrnGrant_PCIE, [], 7)]
def frameC : CanFrame := ⟨0x123, false, true, false, false, false, 8, [1, 2, 3, 4, 5, 6, 7, 8]⟩
def canS (b : Bus) (l : List (Fld × List Nat × Nat)) : Sys2Proof.Machine.State := (stF (canL ++ l)).setBus 3 b

theorem witness_CanBusIdleSendsTheOfferedFrame :
    let s := canS { queue := [5], msg := [(5, 8, [0, 0, 0, 0, 9, 9, 9, 9])] } []
    let e := canS { emerg := some 2, beat := true } []
    let w := canS { beat := true } []
    s.busLive 3 = true ∧ (s.bus 3).onBus = none ∧ (s.bus 3).tec ≤ 255 ∧ s.offer 3 = some 5 ∧ s.busLive 0 = false ∧
    (e.bus 3).emerg.isSome = true ∧ e.maySend 3 objEmerg = true ∧ (w.bus 3).emerg = none ∧ (w.bus 3).beat = true ∧ w.maySend 3 objBeat = true ∧
    256 ≤ objBeat ∧ (stF [(F.fbCfg_LISTEN, [3], 1)]).get F.fbCfg_LISTEN [3] ≠ 0 := by decide

theorem witness_CanFrameOnTheBusEnds :
    let s := canS { onBus := some ⟨5, frameC, false⟩ } []
    let l := canS { onBus := some ⟨5, frameC, true⟩ } []
    let q := canS { queue := [5] } []
    (s.bus 3).onBus = some ⟨5, frameC, false⟩ ∧ (s.bus 3).leaving = false ∧ (s.bus 3).next.contains 5 = false ∧ s.busLive 3 = true ∧
    (s.bus 3).queue.contains 5 = false ∧ (l.bus 3).onBus = some ⟨5, frameC, true⟩ ∧ (q.bus 3).queue.contains 5 = true ∧ (q.bus 3).onBus = none ∧
    q.busLive 3 = true ∧ (q.bus 3).queue.contains 6 = false := by decide

theorem witness_CanReceptionFollowsTheFirstFilter :
    let f (act : Nat) := canS {} [(F.fbFltId_ACT, [3, 63], act), (F.fbFltId_MATCH, [3, 63], 0x123), (F.fbFltMask_MASK, [3, 63], 0x7FF)]
    (f 0).busLive 0 = false ∧ (f 0).busLive 3 = true ∧ frameC.rtr = false ∧ { frameC with rtr := true }.rtr = true ∧ (f 0).filterFor 3 frameC = none ∧
    (f 3).filterFor 3 frameC = some 63 ∧ (f 3).get F.fbFltId_ACT [3, 63] = 3 ∧ (f 1).filterFor 3 frameC = some 63 ∧
    (f 1).get F.fbFltId_ACT [3, 63] = 1 ∧ (f 2).filterFor 3 frameC = some 63 ∧
    (f 2).get F.fbFltId_ACT [3, 63] = 2 ∧ (((f 2).setBus 3 { fifo1 := List.replicate 64 0 }).bus 3).fifo1.length = 64 ∧
    (f 4).filterFor 3 frameC = some 63 ∧ (f 4).get F.fbFltId_ACT [3, 63] = 4 ∧
    ((f 1).setBus 3 { fifo0 := List.replicate 64 0 }).busLive 3 = true ∧ 64 ≤ (((f 1).setBus 3 { fifo0 := List.replicate 64 0 }).bus 3).fifo0.length := by
  decide

theorem witness_CanBusOffBeatAndConfiguration_1 :
    let o := canS { tec := 256, queue := [5] } []
    let h := canS { boffAt := 3 } [(F.fbErr_STATE, [3], 2), (F.fbCfg_BOFF_HOLD, [3], 50)]
    o.busLive 3 = true ∧ 255 < (o.bus 3).tec ∧ 5 ∈ (o.bus 3).queue ∧ h.get F.fbErr_STATE [3] = 2 ∧ h.get F.fbCfg_EN [3] = 1 ∧
    (h.bus 3).boffAt + 1000000 * h.get F.fbCfg_BOFF_HOLD [3] = 50000003 ∧ (canS {} [(F.fbErr_RECOVERING, [3], 1)]).get F.fbErr_RECOVERING [3] = 1 ∧
    (canS {} [(F.fbErr_STATE, [3], 3)]).get F.fbErr_STATE [3] = 3 ∧ (canS {} []).get F.fbBeat_EN [3] = 1 := by decide

theorem witness_CanBusOffBeatAndConfiguration_2 :
    let r : PeserReq := ⟨1, 31, 255, List.replicate 64 0⟩
    let s := canS {} []
    (8 ≤ r.req.length ∧ r.req.length ≤ 64 ∧ 1 ≤ r.node ∧ r.node ≤ 31 ∧ r.timeout ≤ 255) ∧ bitAt (s.get F.jrnGrant_PCIE []) 0 = true ∧
    s.on F.jrnStat_JOURNAL_FULL [] = false ∧ s.on F.parStat_ACT [] = true ∧ State.reset.on F.parStat_ACT [] = false ∧ r.req.getD 4 0 ≠ 2 ∧
    3 * s.get F.fbBeat_BEAT_MS [3] ≤ 30 ∧ ((canS { cfg := some r } []).bus 3).cfg = some r ∧ (s.bus 3).cfg = none ∧ (s.bus 3).cfgWait = [] := by decide

theorem witness_PlantInputsAreConverted_1 :
    let s := { stF [(F.pioTinCfg_EN, [63], 1), (F.pioAinCfg_EN, [31], 1), (F.pioAinCfg_NE43, [31], 1)] with
      pio := { raw := [(95, [0x40000, 0x40000, 0x40000, 0x40000])] } }
    s.get F.pioTinCfg_EN [63] = 1 ∧ s.get F.pioTinCfg_EN [0] = 0 ∧ s.get F.pioAinCfg_EN [31] = 1 ∧ s.get F.pioAinCfg_EN [0] = 0 ∧
    4 ≤ (((0 : Int) :: Tbl.at s.pio.raw (64 + 31) []).take 5).length ∧ s.get F.pioAinCfg_NE43 [31] = 1 ∧
    (((0 : Int) :: Tbl.at State.reset.pio.raw (64 + 31) []).take 5).length < 4 := by decide

theorem witness_PlantInputsAreConverted_2 :
    let s := stF [(F.pioDinVal_STATE, [], 0x8000), (F.pioLeakCfg_EN, [31], 1)]
    let m : LeakScan := ⟨false, false, 99, 1, 2⟩
    bitAt (s.get F.pioDinVal_STATE []) 15 = true ∧ bitAt (s.get F.pioDinVal_STATE []) 0 ≠ true ∧ s.get F.pioLeakCfg_EN [0] = 0 ∧
    s.get F.pioLeakCfg_EN [31] = 1 ∧ m.contend = false ∧ m.broken = false ∧ { m with contend := true }.contend = true ∧
    m.kohm < s.get F.pioLeakCfg_WET_KOHM [31] ∧ 0 < s.get F.pioLeakCfg_CONFIRM [31] := by decide

/-- A plan of control in force on a row of one rack, whose pair 31 it drives. -/
def setW (plans : List Plan) : PlanSet :=
  ⟨true, true, none, 1, 7, 0, 3, 4, 0, 4096, some ⟨[(0, 0, 0, 0)], [(0, 31)]⟩, plans, 0, 0, 0⟩

theorem witness_OutputFaultsAndThrottlePairs :
    let s := { stF [(F.parStat_ACT, [], 1), (F.pioAoutCfg_MODE, [15], 2), (F.pioAoutVal_HIZ, [15], 0), (F.pioAoutVal_HIZ, [0], 1)] with pln := { inForce := some (setW []) } }
    s.get F.pioAoutVal_HIZ [0] = 1 ∧ s.get F.pioAoutVal_HIZ [15] = 0 ∧ s.get F.pioAoutCfg_MODE [15] = 2 ∧ s.pairsDriven.contains 31 = true ∧
    s.pairsDriven.contains 30 = false ∧ bitAt (s.get F.pioThrStat_ASSERTED []) 31 = false ∧ Tbl.at s.prt.pairAt 31 0 + 1000000 = 1000000 ∧
    bitAt s.pairsOrdered 31 = false ∧ (stF [(F.pioThrStat_ASSERTED, [], 2 ^ 31)]).get F.pioThrStat_ASSERTED [] = 2 ^ 31 := by decide

/-- Port 1 enabled with link, its queue as given, stream 0xFEFF enabled there. -/
def telS (q0 q1 : List (Nat × Nat)) (l : List (Fld × List Nat × Nat)) : Sys2Proof.Machine.State :=
  { stF ([(F.telPortCfg_EN, [1], 1), (F.telPortStat_LINK, [1], 1), (F.stmLo_EN, [0xFEFF], 1), (F.stmLo_PORT0, [0xFEFF], 0), (F.stmLo_PORT1, [0xFEFF], 1), (F.stmLo_SRC, [0xFEFF], 255),
      (F.telPtpCfg_PORT1, [], 1)] ++ l) with tel := { q0 := q0, q1 := q1 } }

theorem witness_IngestChecksEveryRecord :
    let s := telS [] [] []
    let b : List Byte := [1, 1, 1, 0] ++ List.replicate 12 0 ++ List.replicate 68 0
    s.ethOn 1 = true ∧ s.ethOn 0 = false ∧ s.get F.telIngCfg_UDP_PORT [] = 50000 ∧ ingestForm b = true ∧ ingestForm (b ++ [0]) = false ∧
    s.get F.stmLo_EN [0xFEFF] = 1 ∧ s.get F.stmLo_EN [0xFF80] = 0 ∧ s.on F.stmLo_PORT1 [0xFEFF] = true ∧ s.sourceOk 0xFEFF 0 = true ∧
    s.on F.stmLo_PORT0 [0xFEFF] = false ∧ bitAt (2 ^ 23) 23 = true ∧ s.inGap 0xFEFF 0 = false ∧ (s.queue 1).length < 14336 ∧
    ({ telS [] [] [(F.telDecStat_LVL1, [], 1), (F.stmLo_PRIO, [0xFEFF], 1), (F.stmLo_PERIOD, [0xFEFF], 1)] with tel := { gens := [(0xFEFF, 0)] } } :
      Sys2Proof.Machine.State).inGap 0xFEFF 14999 = true := by decide

theorem witness_RecordWritesAndDecimation :
    let r (g : Nat) : Nat := g * 2 ^ 64
    let s := telS [] [(0xFEFF, r 8)] []
    let o : Sys2Proof.Machine.State := { s with tel := { s.tel with recs := [(0xFEFF, r 8)], low := 7 } }
    let d (l1 l2 l3 : Nat) := telS [] [] [(F.telDecStat_LVL1, [], l1), (F.telDecStat_LVL2, [], l2), (F.telDecStat_LVL3, [], l3)]
    s.queue 0 = [] ∧ s.queue 1 = [(0xFEFF, r 8)] ∧ Tbl.find s.tel.recs 0xFEFF = none ∧ Tbl.find o.tel.recs 0xFEFF = some (r 8) ∧
    bits (r 8) 64 64 ≤ bits (r 8) 64 64 ∧ 8 ≤ o.tel.low + 1 ∧ (d 0 0 0).decLevel 3 < 6 ∧ 6 ≤ (d 6 6 6).decLevel 3 ∧ (d 0 5 6).decLevel 2 < 6 ∧
    6 ≤ (d 5 6 6).decLevel 2 ∧ (d 5 6 6).decLevel 1 < 6 ∧ 6 ≤ (d 6 6 6).decLevel 1 ∧ 0 < (d 1 0 0).decLevel 1 ∧ (d 0 1 0).decLevel 1 = 0 ∧
    0 < (d 0 1 0).decLevel 2 ∧ (d 0 0 1).decLevel 2 = 0 ∧ 0 < (d 0 0 1).decLevel 3 ∧ (d 0 0 0).tel.q0.length < 2048 := by decide

/-- A queue longer than 8,192 records. -/
theorem witness_RecordWritesAndDecimation_long : 8192 < (telS (List.replicate 8193 (0, 0)) [] []).tel.q0.length := by
  show 8192 < (List.replicate 8193 ((0, 0) : Nat × Nat)).length
  rw [List.length_replicate]; decide

theorem witness_EthernetPortsAndPtp_1 :
    (telS [] [] []).ethOn 1 = true ∧ (telS [] [] []).on F.telPortStat_LINK [1] = true ∧ (telS [] [] []).on F.telPortStat_LINK [0] ≠ true ∧
    bitAt (telS [] [] []).tel.dad 1 = false := by decide

theorem witness_EthernetPortsAndPtp_2 :
    let s := telS [] [] [(F.telPtpStat_SLAVE_PORT, [], 0)]
    let k := telS [] [] [(F.telPtpStat_SLAVE_PORT, [], 1), (F.telPtpStat_STATE, [], 2)]
    let b : Sys2Proof.Machine.State := { telS [] [] [(F.telPtpStat_SLAVE_PORT, [], 0), (F.telPtpStat_STATE, [], 2)] with tel := { heard := [(1, ⟨1, 2⟩)], within := 15 } }
    s.ptpRuns 1 = true ∧ s.ptpRuns 0 = false ∧ s.get F.telPtpStat_SLAVE_PORT [] = 0 ∧ s.get F.telPtpStat_STATE [] ≠ 2 ∧
    s.get F.telPtpCfg_DOMAIN [] = 0 ∧ k.get F.telPtpStat_STATE [] = 2 ∧ k.tel.lastSync = none ∧ k.ptpRuns (1 - k.get F.telPtpStat_SLAVE_PORT []) = false ∧
    b.get F.telPtpStat_STATE [] = 2 ∧ b.ptpRuns (1 - b.get F.telPtpStat_SLAVE_PORT []) = true ∧
    (Tbl.find b.tel.heard (1 - b.get F.telPtpStat_SLAVE_PORT [])).isSome = true ∧ 16 ≤ b.tel.within + 1 := by decide

theorem witness_PortsDropAndCountOtherDatagrams :
    let s := telS [] [] []
    (s.get F.telPortCfg_EN [1] ≠ 0 ∧ s.get F.telPortStat_LINK [1] ≠ 0) ∧ ¬ (s.get F.telPortCfg_EN [0] ≠ 0 ∧ s.get F.telPortStat_LINK [0] ≠ 0) ∧
    (⟨0, false, 0, true, []⟩ : Datagram).dstOk = false := by decide


/-! ## Witnesses: loops, frames, promotion and host writes -/

/-- Channel 255 in NORMAL with its counts at their limits. -/
def chS (c : Chan) (l : List (Fld × List Nat × Nat)) : Sys2Proof.Machine.State :=
  (stF ([(F.lpeChCfg_FB_KIND, [255], 1), (F.lpeChCfg_MISS_MAX, [255], 8), (F.lpeChSup_FE_LIM, [255], 1)] ++ l)).setChan 255 c

theorem witness_LoopSampleKeepsItsLimits :
    let c : ChCfg := { g := false, d := 8, kp := 0, ki := 0, kd := 0, ad := 0, bias := 0, umin := -(2 ^ 31), umax := 2 ^ 31 - 1, du := 1, vmax := 1, amax := 0, jmax := 0, tbl := [] }
    31250 % ((0 + 1) * 15625) = 0 ∧ 15624 % ((State.reset.get F.lpeChCfg_DIV [255] + 1) * 15625) ≠ 0 ∧ c.umin ≤ 0 ∧ -(2 ^ 31) ≤ c.umin ∧ (0 : Int) ≤ c.umax ∧ c.umax < 2 ^ 31 ∧ c.du ≠ 0 ∧ 0 < c.vmax ∧ c.vmax < 2 ^ 31 ∧
    (profileStep c 1 65535 65536 0).1 = 1 * 65536 ∧ (65535 : Int) ≠ 1 * 65536 := by decide

theorem witness_ChannelFaultsRecoveryAndSilence_1 :
    let one : Chan := { mode := 1, eff := 2, miss := 9, fe := 10000, bnd := 10000, pas := 10000, rec_ := 10000 }
    let s := chS one []
    let r := chS { one with eff := 4 } [(F.lpeChStat_FAULTED, [255], 1), (F.lpeChCfg_AUTO_REC, [255], 1)]
    let lim (f : Fld) := samplesOver (s.get f [255]) (s.get F.lpeChCfg_DIV [255] + 1)
    (s.chan 255).mode ≠ 0 ∧ s.get F.lpeChCfg_FB_KIND [255] ≠ 0 ∧ s.get F.lpeChCfg_MISS_MAX [255] < (s.chan 255).miss ∧ (s.chan 255).eff = 2 ∧
    (s.chan 255).forced = none ∧ s.get F.lpeChSup_FE_LIM [255] ≠ 0 ∧ lim F.lpeChSup_FE_TIME ≤ (s.chan 255).fe ∧
    lim F.lpeChSup_BAND_TIME ≤ (s.chan 255).bnd ∧ (r.chan 255).eff = 4 ∧ ((chS { one with eff := 4 } []).get F.lpeChStat_FAULTED [255] = 0) ∧
    r.get F.lpeChStat_FAULTED [255] = 1 ∧ r.get F.lpeChCfg_AUTO_REC [255] = 1 ∧ (State.reset.chan 255).mode = 0 := by decide

theorem witness_ChannelFaultsRecoveryAndSilence_2 :
    let b : OutBlock := ⟨5, [], [], [1024 + 255]⟩
    let s : Sys2Proof.Machine.State := { State.reset with lpe := { blk := some b, got := true } }
    s.blockLive (1024 + 255) = true ∧ s.blockLive 1024 = false ∧ s.get F.lpeCtrl_SIL_F [] ≤ ((chS { sil := 255 } []).chan 255).sil ∧
    (State.reset.chan 0).sil < State.reset.get F.lpeCtrl_SIL_F [] := by decide

/-- Frames run, the last edge at 1 ms. -/
def runS (l : List (Fld × List Nat × Nat)) : Sys2Proof.Machine.State := { stF ((F.frmStat_RUNNING, [], 1) :: l) with fab := { tai0 := 1000000 } }

theorem witness_FrameEdgesAdvanceTheFrame :
    let s := runS []
    let f := stF [(F.frmStat_TIME_VALID, [], 1), (F.glbStat_PHASE, [], 5)]
    s.get F.frmStat_RUNNING [] = 1 ∧ s.rst.stopped = false ∧ s.fab.tai0 < 2000000 ∧ 2000000 % s.tF = 0 ∧ 2000001 % s.tF ≠ 0 ∧
    f.get F.frmStat_RUNNING [] = 0 ∧ f.get F.frmStat_TIME_VALID [] = 1 ∧ f.get F.glbStat_PHASE [] = 5 ∧ 512000000 % (f.eLen * f.tF) = 0 ∧
    f.rst.fabric = false := by decide

/-- Partition 7 of control in force, with sluice 9 for its completion and one tussock. -/
def planW (r : Role) (p : Nat) (e : Option PromoEntry) : Plan :=
  ⟨1, r, p, 1, 0, 1, 15, true, 1, 9, [(9, 1, 0)], [], [], [], [], [], 0, [], [⟨[0], 15, [0]⟩], [], [], e.toList, [], []⟩
def planS (l : List Plan) (f : List (Fld × List Nat × Nat)) : Sys2Proof.Machine.State := { runS f with pln := { inForce := some (setW l) } }

theorem witness_DeadlineChecksEverySection :
    let s := planS [planW .control 7 none] [(F.slu_STATUS, [9], 2)]
    let d := s.setTus 0 { ended := true }
    s.get F.frmStat_RUNNING [] = 1 ∧ s.rst.stopped = false ∧ s.rcd.closed = false ∧ 16 * s.fab.tai0 + 15 * s.tF ≤ 16 * 1937500 ∧
    s.secPlan (7, false, [0]) = some (planW .control 7 none) ∧ s.secDone (planW .control 7 none) (7, false, [0]) = false ∧
    d.secDone (planW .control 7 none) (7, false, [0]) = true ∧ d.secPlan (7, false, [0]) = some (planW .control 7 none) := by decide

def imgW (ok : Bool) : StateImage := ⟨5, ok, 3, 0, 0, 0, 0, 0, false, 0, ⟨5, [], [], []⟩, [], [], [], [], 7, 0, 0, 0, 0, 0⟩

theorem witness_CompanionSideOfAFrame :
    let s := runS [(F.parStat_ROLE, [], 4), (F.parStat_P0_UP, [], 1)]
    let b : OutBlock := ⟨5, [], [], [1024 + 255]⟩
    let a : Sys2Proof.Machine.State := { runS [(F.parStat_ROLE, [], 2), (F.parStat_P0_UP, [], 1)] with frm := { released := some b }, pair := { word := some (9, 1) } }
    a.get F.frmStat_RUNNING [] = 1 ∧ a.fab.tai0 + 1000 = 1001000 ∧ a.frm.released = some b ∧ b.live.contains (1024 + 255) = true ∧ a.standby = false ∧
    a.get F.parStat_ROLE [] = 2 ∧ a.get F.parStat_P0_UP [] = 1 ∧ s.standby = true ∧ s.get F.parStat_P0_UP [] = 1 ∧ s.pair.transfer = false ∧
    (imgW true).complete = true ∧ (imgW false).complete = false ∧ a.pair.word = some (9, 1) ∧ s.pair.word = none ∧ s.frm.released = none := by decide

/-- A promotion entry of the learning plan. -/
def promoW : PromoEntry := ⟨1, 0x1000000000, 0x1000100000, 0x100000, 5, 0, 0, 0, 0, 0, 0, 0, 0, []⟩
def promoS (k st prev : Nat) (f : List (Fld × List Nat × Nat)) : Sys2Proof.Machine.State :=
  planS [planW (promoRole k) 7 (some promoW)] ([(F.plnPromoStat_STATE, [k], st), (F.plnPromoStat_PREV_VALID, [k], prev)] ++ f)

theorem witness_PromotionSealsChecksAndApproves :
    let x : Sys2Proof.Machine.State := { promoS 1 0 0 [] with hbm := [(0x1000100000, 0x4C), (0x1000100001, 0x41), (0x1000100002, 0x45), (0x1000100003, 0x53)] }
    x.promoEntry 1 = some promoW ∧ x.recNum 1 promoW 0 8 = 0x5345414C ∧ x.get F.plnPromoStat_STATE [1] = 0 ∧ x.standby = false ∧
    (x.promoAt 1).spent = none ∧ (promoS 1 0 0 []).recNum 1 promoW 0 8 ≠ 0x5345414C ∧ (promoS 0 1 0 []).get F.plnPromoStat_STATE [0] = 1 ∧
    (promoS 0 1 0 []).promoEntry 0 = some promoW ∧ (promoS 0 1 0 []).promoCheck 0 promoW ≠ 0 ∧ (promoS 0 2 0 []).get F.plnPromoStat_STATE [0] = 2 ∧
    (promoS 1 3 1 []).get F.plnPromoStat_PREV_VALID [1] = 1 ∧ (promoS 1 3 1 []).get F.plnPromoStat_STATE [1] ≠ 5 ∧
    (promoS 1 5 1 []).get F.plnPromoStat_STATE [1] = 5 ∧ (promoS 1 0 0 [(F.parStat_ROLE, [], 4)]).standby = true := by decide

/-- Whether a command is a direct write of the host at `t` that nothing forbids. -/
def may (i : Instr) (t : Tai) (s : Sys2Proof.Machine.State) : Bool :=
  match hostWriteOf i s with
  | some (u, w) =>
    let v := s.at t
    decide (u = t) && decide (v.prt.cut = none) && decide ((v.hostReq 0xFFFF).lacks w.reg = none) && !v.held.standbyRefuses w &&
    (decide (v.get F.jrnStat_JOURNAL_FULL [] = 0) || v.passesFull w) && !v.held.refuses (fun _ => false) w && !v.loses (v.hostReq 0xFFFF) w
  | none => false

/-- What `may` computes is the premise of the statements about host writes. -/
theorem may_spec (i : Instr) (t : Tai) (s : Sys2Proof.Machine.State) (h : may i t s = true) :
    ∃ w, hostWriteOf i s = some (t, w) ∧ (s.at t).writeMay w := by
  unfold may at h
  split at h
  · rename_i u w e
    simp only [Bool.and_eq_true, Bool.not_eq_true', decide_eq_true_eq, Bool.or_eq_true] at h
    obtain ⟨⟨⟨⟨⟨⟨rfl, h1⟩, h2⟩, h3⟩, h4⟩, h5⟩, h6⟩ := h
    exact ⟨w, e, h1, h2, h3, h4, h5, h6⟩
  · exact absurd h Bool.false_ne_true

theorem witness_HostAccessesAreTakenOrRefused_1 :
    let s := stF [(F.jrnGrant_PCIE, [], 7)]
    may (.forceSafe 9 true) 9 s = true ∧ may (.hummockReset 9 31 true) 9 (stF [(F.parStat_ROLE, [], 4)]) = false ∧
    may (.pumpEn 9 3 1) 9 (stF [(F.jrnStat_JOURNAL_FULL, [], 1)]) = false ∧ may (.goW 9) 9 (stF [(F.jrnGrant_PCIE, [], 0)]) = false ∧
    may (.modeWrite 9 255 0xE) 9 s = false ∧ may (.canEn 9 3 (BitVec.ofNat 64 (s.rd .fbCfg [3]))) 9 (runS []) = true ∧ (runS []).waits .fbCfg = true ∧ s.waits .fbCfg = false ∧
    (runS []).waits .lpeChCfg = false := by decide

theorem witness_HostAccessesAreTakenOrRefused_2 :
    let s := State.reset
    s.prt.cut = none ∧ Reg.lookup 0x1C0000 = none ∧ Reg.lookup 0x402010 = some (.tusRun, [2]) ∧ Reg.transport .tusRun = false ∧
    Reg.lookup (Reg.off .hstRingCons [3]) = some (.hstRingCons, [3]) ∧ Reg.lookup (Reg.off .hstHb []) = some (.hstHb, []) ∧
    (s.hostReq 0xFFFF).lacks .hstRingCons = none ∧ (s.hostReq 0xFFFF).lacks .hstHb = none ∧ bitAt (s.get F.jrnGrant_PCIE []) 0 = true ∧
    s.bar2May 0x2A00000000 0x40 = true ∧ s.bar2May 0x2C00000000 0x40 = false ∧ s.get F.plnStageStatus_STATE [] = 0 ∧
    (stF [(F.plnStageStatus_STATE, [], 2)]).bar2May 0x2BFFFFFFC0 0x40 = true := by decide

theorem witness_PlanAndPromotionRequests_1 :
    let s := planS [planW .control 7 none] []
    let st (k : Nat) := planS [planW .control 7 none] [(F.plnStageStatus_STATE, [], k)]
    may (.checkStage 9) 9 s = true ∧ may (.clearStage 9) 9 (st 2) = true ∧ may (.clearStage 9) 9 (st 3) = true ∧ may (.withdraw 9) 9 (st 5) = true ∧
    may (.plnPlaceReq 9 0) 9 s = true ∧ may (.plnRetireReq 9 3 0x8000000000000000) 9 s = true := by decide

theorem witness_PlanAndPromotionRequests_2 :
    may (.goW 9) 9 (promoS 0 2 0 []) = true ∧ may (.goC 9) 9 (promoS 1 2 0 []) = true ∧ may (.demoteW 9) 9 (promoS 0 0 1 []) = true ∧
    may (.demoteC 9) 9 (promoS 1 5 1 []) = true ∧ may (.withdrawW 9) 9 (promoS 0 1 0 []) = true ∧ may (.withdrawC 9) 9 (promoS 1 3 0 []) = true ∧
    may (.goC 9) 9 (promoS 1 0 0 []) = true := by decide


/-! ## Witnesses: requests of the host, resets, start-up and the pair -/

theorem witness_FrameAndPairRequestsTakeEffect :
    let s := runS []
    let w : Sys2Proof.Machine.State := { State.reset with tel := { taiWritten := true } }
    let rec_ : P0Record := ⟨2, 4, 1, true, false, 99, false, 0, false, 0, 7, 0, 0⟩
    let h : Sys2Proof.Machine.State := { runS [(F.parStat_ROLE, [], 2), (F.parStat_P0_UP, [], 1)] with pair := { rec_ := some rec_ } }
    let e : Sys2Proof.Machine.State := { runS [(F.parStat_ROLE, [], 4), (F.parStat_ACT_IN, [], 1)] with pair := { rec_ := some rec_ } }
    may (.periodChange 9 6) 9 s = true ∧ may (.periodChange 9 7) 9 s = false ∧ may (.epochLengthChange 9 4) 9 s = true ∧
    may (.epochLengthChange 9 12) 9 s = true ∧ may (.timeSet 9) 9 w = true ∧ may (.handover 9) 9 h = true ∧
    may (.rejoin 9) 9 (runS [(F.parStat_ROLE, [], 5)]) = true ∧ may (.domLeave 9) 9 (runS [(F.parDomStat_STATE, [], 2), (F.parStat_ROLE, [], 1)]) = true ∧
    may (.domLeave 9) 9 (runS [(F.parDomStat_STATE, [], 3)]) = true ∧ may (.domainJoin 9 1) 9 (runS [(F.parStat_ROLE, [], 1)]) = true ∧
    (runS [(F.parStat_ROLE, [], 1)]).holder = true ∧ may (.domainJoin 9 0) 9 (runS [(F.parStat_ROLE, [], 1), (F.parDomCfg_EN, [], 1), (F.parDomStat_STATE, [], 2)]) = true ∧
    may (.exerciseGo 9) 9 e = true ∧ may (.rearm 9 255) 9 s = true ∧ may (.save 9) 9 s = true ∧ may (.forceSafe 9 false) 9 s = true := by decide

theorem witness_EnablesAndModesTakeEffect :
    let s := State.reset
    let g := stF ((List.range 64).map (fun i => (F.lpeGtbl_E, [5, i], i)))
    let r := stF [(F.lpeRplAmp_AMP, [31], 1), (F.lpeChTlim_TMAX, [0], 1000)]
    may (.modeWrite 9 255 0) 9 s = true ∧ may (.gainTblBase 9 0 255) 9 s = true ∧ may (.gainTblBase 9 255 5) 9 g = true ∧ may (.rippleArm 9 31 0x10000100) 9 r = true ∧
    may (.rippleArm 9 31 0) 9 (stF [(F.lpeRplCfg_ARM, [31], 1)]) = true ∧ may (.rippleEn 9 1) 9 s = true ∧
    may (.pumpEn 9 3 (BitVec.ofNat 64 (s.rd .drvPmpCfg [3]))) 9 s = true ∧ may (.pumpEn 9 3 (BitVec.ofNat 64 (s.rd .drvPmpCfg [3]))) 9 (stF [(F.drvPmpCfg_EN, [3], 1)]) = true ∧
    may (.pumpStatClear 9 3 31) 9 (stF [(F.drvPmpStat_FLT_OFF, [3], 1)]) = true ∧ may (.fanEn 9 7 (BitVec.ofNat 64 (s.rd .drvFanCfg [7]))) 9 s = true ∧
    may (.tachLostClear 9 7 15) 9 s = true ∧ may (.canEn 9 3 (BitVec.ofNat 64 (s.rd .fbCfg [3]))) 9 s = true ∧
    may (.streamEnable 9 0 (BitVec.ofNat 64 (s.rd .stmLo [0]))) 9 s = true ∧ may (.streamEnable 9 65535 0) 9 s = true ∧
    may (.ringEnable 9 3 (BitVec.ofNat 64 (s.rd .hstRingCfg [3]))) 9 s = true := by decide

theorem witness_ComputeAndFabricResets_1 :
    let s := runS [(F.humStat_IN_RESET, [31], 1), (F.slu_STATUS, [9], 2), (F.parStat_ROLE, [], 1)]
    let o : ObjReset := hummockObj 31 false
    let d : Sys2Proof.Machine.State := { s with rst := { objs := [{ o with active := true }] } }
    may (.tussockReset 9 31 255 false) 9 s = true ∧ may (.tussockReset 9 31 0 false) 9 s = true ∧ may (.hummockReset 9 31 true) 9 s = true ∧
    may (.partitionReset 9 31 false) 9 (planS [{ planW .control 7 none with hummocks := 2 ^ 31 }] [(F.parStat_ROLE, [], 1)]) = true ∧
    s.retired 248 = false ∧ s.resetHolds o = false ∧ d.resetHolds o = true ∧ s.get F.parDomStat_STATE [] < 2 ∧ o.kind ≠ 0 ∧ bitAt o.hum 31 = true ∧
    248 ∈ o.tussocks ∧ s.get F.humStat_IN_RESET [31] = 1 ∧ s.get F.humStat_IN_RESET [0] = 0 ∧ s.get F.slu_STATUS [9] = 2 := by decide

theorem witness_ComputeAndFabricResets_2 :
    let f : Sys2Proof.Machine.State := { State.reset with rst := { fabric := true } }
    let c : Sys2Proof.Machine.State := { stF [(F.parStat_ROLE, [], 1), (F.prtMcStat_STATE, [], 4)] with prt := { cut := some 5 } }
    f.rst.fabric = true ∧ State.reset.rst.fabric = false ∧ stW.fab.tus.map Prod.fst = [3] ∧ (stF [(F.prtMcStat_STATE, [], 3)]).get F.prtMcStat_STATE [] = 3 ∧
    c.prt.cut = some 5 ∧ State.reset.prt.cut = none ∧ c.get F.parStat_ROLE [] = 1 ∧ 5 + c.get F.parCfg_DUR_F [] * c.tF = 4000005 := by decide

/-- Start-up in a phase that began at 0. -/
def bootS (ph : Nat) (b : Boot) : Sys2Proof.Machine.State := { stF [(F.glbStat_PHASE, [], ph)] with boot := { b with began := some 0 } }
def inpW : PhaseInput := ⟨⟨true, 0, 5⟩, 9, 1, 2, none, none, 0, [], [], [], false, false, 20⟩

theorem witness_ModuleResetStartUpAndStraps_1 :
    let run (s : Sys2Proof.Machine.State) := s.boot.began.isSome && decide (s.get F.glbStat_FATAL [] = 0)
    let h : Sys2Proof.Machine.State := { stF [(F.glbStat_PHASE, [], 1), (F.glbStat_RESET_CAUSE, [], 3)] with boot := { began := some 0 } }
    run (bootS 1 {}) = true ∧ ((bootS 1 {}).at 5).phaseLate = false ∧ ((bootS 1 {}).at 10000000000000).phaseLate = true ∧ run h = true ∧
    h.get F.glbStat_RESET_CAUSE [] = 3 ∧ run (bootS 2 {}) = true ∧ ((bootS 2 {}).at 5).bootImage { inpW with straps := ⟨true, 1, 5⟩ } = none ∧
    ((bootS 2 {}).at 5).bootImage inpW = some (0, shippedImage) ∧ ((bootS 2 {}).at 5).phaseLate = false ∧
    run (bootS 3 { image := some ⟨1, 1, 1, 1, 0, 0, true, 0⟩ }) = true ∧ run (bootS 4 {}) = true ∧ ((bootS 4 {}).at 5).phaseLate = false ∧
    inpW.routerBad = false ∧ inpW.hbmBad = false ∧ State.reset.boot.began = none ∧ State.reset.boot.inserted = true := by decide

theorem witness_ModuleResetStartUpAndStraps_2 :
    let s := bootS 5 { straps := some ⟨true, 0, 5⟩, image := some ⟨1, 1, 1, 1, 0, 0, true, 0⟩, saving := some ⟨1, 5, 0, []⟩ }
    s.boot.straps = some ⟨true, 0, 5⟩ ∧ (⟨true, 0, 5⟩ : Straps) ≠ ⟨false, 0, 5⟩ ∧ s.boot.image.isSome = true ∧ s.boot.saving = some ⟨1, 5, 0, []⟩ ∧
    State.reset.boot.straps = none ∧ State.reset.boot.image = none ∧ State.reset.boot.saving = none := by decide

/-- A pair whose module is 5 and whose partner is 6, frame 100. -/
def pairS (role : Nat) (p : Pair) (f : List (Fld × List Nat × Nat)) : Sys2Proof.Machine.State :=
  { runS ([(F.parCfg_MODE, [], 1), (F.glbId_MODID, [], 5), (F.parCfg_PARTNER_ID, [], 6), (F.parStat_ROLE, [], role), (F.parStat_P0_UP, [], 1),
      (F.frmStat_TIME_VALID, [], 1), (F.frmCount_COUNT, [], 100)] ++ f) with pair := p }
def recW (id : Nat) (renews release : Bool) : P0Record := ⟨id, 2, 9, renews, release, 120, false, 0, false, 0, 7, 0, 0⟩

theorem witness_LeaseWordsAndPartnerRecords :
    let s := pairS 4 {} []
    let w : Nat := (pairS 2 {} [(F.glbId_MODID, [], 6), (F.parCfg_PARTNER_ID, [], 5)]).leaseWordOf 1 120 |>.toNat
    let own : Nat := (s.leaseWordOf 0 120).toNat
    (crc16 (leBytes 8 (w % 2 ^ 64)) = bits w 64 16 ∧ bits w 46 2 < 2 ∧ bits w 32 14 = 6) ∧ bits w 32 14 ≠ s.modId ∧
    (crc16 (leBytes 8 (own % 2 ^ 64)) = bits own 64 16 ∧ bits own 46 2 < 2 ∧ bits own 32 14 = s.modId) ∧
    crc16 (leBytes 8 0) ≠ bits 0 64 16 ∧ s.get F.parStat_P0_UP [] = 1 ∧ (recW 6 true false).modId = s.get F.parCfg_PARTNER_ID [] ∧
    (recW 7 true false).modId ≠ s.modId ∧ (pairS 2 { storing := true } []).pair.storing = true ∧ (stF []).get F.parStat_P0_UP [] = 0 := by decide +kernel

theorem witness_LeaseExpiryClaimAndFencing :
    let x := pairS 2 { compX := 100 } [(F.parStat_ACT, [], 1)]
    let c := pairS 4 { xs := 98, seenAt := some 90 } []
    let l := pairS 4 { xs := 98, seenAt := some 90 } [(F.parStat_ACT_IN, [], 1), (F.parStat_PEER_PRSNT, [], 1)]
    let f := pairS 2 { partnerEpoch := 3 } []
    let g := pairS 2 {} [(F.fbErr_FENCED_DEV, [3], 1)]
    x.get F.parCfg_MODE [] = 1 ∧ x.get F.parStat_ACT [] = 1 ∧ x.fab.tai0 + (x.pair.compX - x.frame) * x.tF ≤ 1000000 ∧ c.claimMay = true ∧
    c.fab.tai0 = 1000000 ∧ c.rst.stopped = false ∧ l.standby = true ∧ l.get F.parStat_ACT_IN [] = 1 ∧ l.pair.lost = false ∧
    l.pair.xs + l.get F.parCfg_GUARD_F [] ≤ l.frame ∧ f.holder = true ∧ f.get F.parLease_EPOCH [] < f.pair.partnerEpoch ∧ g.holder = true ∧
    g.get F.fbErr_FENCED_DEV [3] = 1 ∧ g.get F.parStat_ACT_IN [] = 0 ∧ g.pair.seenAt = none ∧ l.claimMay = false := by decide

theorem witness_HandoverExerciseAndTransfer :
    let h := pairS 2 { handover := some 100 } []
    let r := pairS 2 { handover := some 99 } []
    let a : Sys2Proof.Machine.State := { pairS 2 { rec_ := some { recW 6 true false with role := 4 } } [(F.parCfg_AUTO_HANDOVER, [], 1), (F.plnPart_NO_PLACE, [7], 1)] with
      pln := { inForce := some (setW [planW .control 7 none]) } }
    let t := pairS 4 { transfer := true } []
    h.pair.handover = some h.frame ∧ h.get F.parStat_ROLE [] = 2 ∧ r.pair.handover = some 99 ∧ 99 < r.frame ∧ a.handoverMay = true ∧
    a.get F.parCfg_AUTO_HANDOVER [] = 1 ∧ a.rolePlan .control = some (planW .control 7 none) ∧ a.get F.plnPart_NO_PLACE [7] ≠ 0 ∧
    (pairS 4 {} [(F.parExer_BUSY, [], 1)]).get F.parExer_BUSY [] = 1 ∧ (pairS 3 {} []).get F.parStat_ROLE [] = 3 ∧ (pairS 3 {} []).pair.transfer = false ∧
    t.pair.transfer = true ∧ t.pair.conf = none ∧ t.standby = true ∧ (pairS 4 { passAt := some 0 } []).pair.passAt = some 0 := by decide


/-! ## Witnesses: protection, domain, host interface, records, journal and management -/

theorem witness_ComparatorsAndResponses :
    let c : List (Fld × List Nat × Nat) := [(F.prtTripCfg_EN, [31], 1), (F.prtTripCfg_KIND, [31], 1), (F.prtTripCfg_RESP, [31], 7), (F.prtRespCfg_EN, [7], 1)]
    let s : Sys2Proof.Machine.State := { stF c with prt := { since := [(31, 0)] } }
    let a : Sys2Proof.Machine.State := { stF ((F.prtTripStat_ACTIVE, [31], 1) :: (F.prtStat_ACTIVE, [], 2 ^ 31) :: c) with prt := { clear := 2 ^ 31 } }
    let h := stF [(F.prtStat_HOLD, [], 128)]
    s.get F.prtTripCfg_EN [31] = 1 ∧ s.get F.prtTripStat_ACTIVE [31] = 0 ∧ Tbl.find s.prt.since 31 = some 0 ∧ s.get F.prtTripCfg_QUAL_MS [31] = 0 ∧
    s.get F.prtRespCfg_EN [7] = 1 ∧ a.get F.prtTripStat_ACTIVE [31] = 1 ∧ bitAt a.prt.clear 31 = true ∧ bitAt (h.get F.prtStat_HOLD []) 7 = true ∧
    h.namedBy 7 = false ∧ bitAt h.prt.latch 7 = false ∧ a.namedBy 7 = true ∧ State.reset.get F.prtTripCfg_KIND [31] = 0 ∧ s.get F.prtTripCfg_KIND [31] ≠ 0 := by
  decide

theorem witness_CoolingStatesAndErrors :
    let s : Sys2Proof.Machine.State := { planS [{ planW .control 7 none with hummocks := 2 ^ 31 }] [] with prt := { mcSince := [(3, 0)] } }
    let r := stF [(F.plnRetired_RETIRED, [3], 2 ^ 63), (F.humMap_LOG, [31], 0x87654321)]
    (∀ q ∈ s.runs, q.part < 8) ∧ s.get F.prtMcStat_STATE [] < 4 ∧ s.mcCond 3 0 118 0 = true ∧ Tbl.find s.prt.mcSince 3 = some 0 ∧
    Tbl.wf s.prt.mcSince = true ∧ s.retired 255 = false ∧ s.plans.find? (fun q => bitAt q.hummocks (hummockOf 255)) = some { planW .control 7 none with hummocks := 2 ^ 31 } ∧
    r.retired 255 = true ∧ bits (r.get F.humMap_LOG [hummockOf 255]) (4 * (255 % 8)) 4 ≤ 8 ∧ 9 * hummockOf 255 + 8 ∉ r.nv.log := by decide

theorem witness_DomainMembershipAndRecords :
    let m := stF [(F.parDomStat_STATE, [], 2), (F.parDomStat_REFERENCE, [], 1), (F.parDomMemb_PRESENT, [15], 1)]
    let j := stF [(F.parDomStat_STATE, [], 1)]
    let b : RecvBuf := ⟨3, 8191, 3, 0, 256, true⟩
    let l : Sys2Proof.Machine.State := { m with dom := { links := 8 }, fab := { recv := [b] } }
    let a : Sys2Proof.Machine.State := { j with dom := { askAt := some 0 } }
    m.get F.parDomStat_STATE [] = 2 ∧ State.reset.get F.parDomStat_STATE [] ≠ 2 ∧ j.get F.parDomStat_STATE [] = 1 ∧ j.dom.join = none ∧
    m.get F.parDomStat_REFERENCE [] = 1 ∧ m.admission 5 6 0 3 8 0 = 0 ∧ m.admission 5 6 0 4 8 0 = 3 ∧ m.admission 5 6 0 3 8 1 = 5 ∧
    l.fab.recv.find? (fun r => decide (r.port = 3)) = some b ∧ (l.tus b.tus).inReset = false ∧ m.fab.recv.find? (fun r => decide (r.port = 3)) = none ∧
    bitAt l.dom.links 3 = true ∧ bitAt m.dom.links 3 = false ∧ m.get F.parDomMemb_PRESENT [15] = 1 ∧ m.get F.parDomMemb_LOST [15] = 0 ∧
    ({ m with dom := { heard := some ⟨-1001, 4, 8, 0, 2 ^ 15⟩ } } : Sys2Proof.Machine.State).farPos 15 = true ∧ m.farPos 15 = false ∧
    ({ stF [(F.parDomStat_STATE, [], 2)] with dom := { heard := some ⟨0, 4, 8, 0, 0⟩ } } : Sys2Proof.Machine.State).domDiffers = true ∧ m.domDiffers = false ∧
    m.heldByPair 15 0 6 = true ∧ 15 ≠ m.get F.parDomCfg_POS [] ∧ a.dom.askAt = some 0 ∧ a.dom.links = 0 := by decide

theorem witness_HostRingsVectorsAndTrace_2 :
    let e : JEntry := { seq := 1 }
    let s : Sys2Proof.Machine.State := { stF [(F.hstRingCfg_EN, [1], 1), (F.hstRingCfg_EN, [3], 1), (F.hstRingProd_PROD, [3], 1), (F.hstStat_HOST_SILENT, [], 0), (F.hstMsixData_MASK, [0], 0)] with
      jrn := { held := [e], released := 2, copied := 1 }, hst := { lostSince := 3, deferred := [7] } }
    let old := s.get F.hstRingCons_CONS [3]
    (2 ^ 32 ≤ 2 ^ 32) ∧ (s.get F.hstRingProd_PROD [3] + 2 ^ 32 - old) % 2 ^ 32 = 1 ∧ s.get F.hstRingCfg_EN [3] = 1 ∧ s.get F.hstRingCfg_EN [0] = 0 ∧
    s.hst.lostSince ≠ 0 ∧ s.get F.hstRingCfg_EN [1] = 1 ∧ s.ringFree 1 ≠ 0 ∧ s.hst.deferred.contains 7 = true ∧ s.hst.deferred.contains 0 = false ∧
    Tbl.at s.hst.lastVec 7 0 + 1000 * s.get F.hstVecMod_MIN_US [7] ≤ 1000000 ∧ s.get F.hstMsixData_MASK [7] = 1 ∧ s.get F.hstMsixData_MASK [0] = 0 ∧
    s.get F.hstStat_LINK [] = 0 ∧ s.get F.hstStat_HOST_SILENT [] = 0 ∧ (stF [(F.hstStat_HOST_SILENT, [], 1)]).get F.hstStat_HOST_SILENT [] = 1 ∧
    (s.jrn.held.filter (fun e => decide (s.jrn.copied ≤ e.seq ∧ e.seq < s.jrn.released))).take (s.ringFree 3) ≠ [] := by decide

theorem witness_HostRingsVectorsAndTrace_1 :
    let s := stF [(F.hstRingCfg_EN, [0], 1), (F.hstRingCfg_EN, [2], 1), (F.obsCfg_TRACE_EN, [], 1), (F.obsCfg_TYPES, [], 16), (F.obsCfg_TRACE_MAX, [], 1)]
    let z := stF [(F.obsCfg_TRACE_EN, [], 1), (F.obsCfg_TYPES, [], 16), (F.obsCfg_TRACE_MAX, [], 0)]
    let d : Sys2Proof.Machine.State := { s.set F.hstRingCfg_EN [3] 1 with jrn := { held := [{ seq := 1 }], released := 2, copied := 1 } }
    let r : TraceRec := ⟨5, 0, [], []⟩
    bitAt (s.get F.jrnGrant_PCIE []) 0 = true ∧ bitAt ((stF [(F.jrnGrant_PCIE, [], 0)]).get F.jrnGrant_PCIE []) 0 = false ∧ 1 ≤ s.ringSize 0 ∧
    s.ringSize 0 < 2 ^ 32 - 1 ∧ s.get F.hstRingCfg_EN [0] = 1 ∧ State.reset.get F.hstRingCfg_EN [0] = 0 ∧ opKnown 0x31 = false ∧ entryFault 1 = none ∧
    entryFault 0x302 = none ∧ State.reset.traceWanted r = false ∧ s.traceWanted r = true ∧ s.rcd.traced < s.get F.obsCfg_TRACE_MAX [] ∧
    s.ringFree 2 ≠ 0 ∧ s.hst.traces = [] ∧ s.journalDue = false ∧ d.journalDue = true ∧ z.traceWanted r = true ∧ z.get F.obsCfg_TRACE_MAX [] ≤ z.rcd.traced := by decide +kernel

/-- What the verdict on a set says. -/
def verdictIs (v : SetVerdict) (k : Nat) : Bool :=
  match v with
  | .ok _ => decide (k = 0)
  | .lack _ => decide (k = 1)
  | .full => decide (k = 2)
  | .refused _ => decide (k = 3)
  | .collide _ => decide (k = 4)

theorem witness_RegisterSetsCalibrationAndAttestation :
    let q (s : Sys2Proof.Machine.State) : Req := s.hostReq 5
    let l : List (Nat × Word) := [(Reg.off .lpeCtrl [], 2)]
    let s := promoS 1 0 0 []
    let full := stF [(F.jrnStat_JOURNAL_FULL, [], 1)]
    let none_ := stF [(F.jrnGrant_PCIE, [], 0)]
    let won : Sys2Proof.Machine.State := { State.reset with acs := { last := [(Reg.off .lpeCtrl [], [⟨3, 0, 2 ^ 64 - 1, 0⟩])] } }
    verdictIs (s.setVerdict (q s) l) 0 = true ∧ verdictIs (none_.setVerdict (q none_) l) 1 = true ∧ verdictIs (full.setVerdict (q full) l) 2 = true ∧
    verdictIs (s.setVerdict (q s) [(0x1C0000, 0)]) 3 = true ∧ verdictIs (won.setVerdict (q won) l) 4 = true ∧
    bitAt (s.get F.jrnGrant_PCIE []) 1 = true ∧ s.get F.jrnStat_JOURNAL_FULL [] = 0 ∧ s.promoEntry 1 = some promoW ∧ s.standby = false ∧
    (calPlace ⟨0, false, 0, List.replicate 32 0⟩).isSome = true ∧ (calPlace ⟨2, false, 2047, List.replicate 32 0⟩).isSome = true ∧
    s.get F.plnPromoStat_STATE [1] = 0 ∧ (promoS 1 2 0 []).get F.plnPromoStat_STATE [1] = 2 := by decide

/-- A key slot of every class, the state that holds it, and an object signed by it. -/
def keyW : KeySlot := ⟨9, 31, false, [], [], 3⟩
def keyS (f : List (Fld × List Nat × Nat)) : Sys2Proof.Machine.State := { stF f with nv := { keys := [(15, keyW)] } }
def objW (op : InnerOp) : SignedObj := ⟨9, 0, 4, 100, op, true, 77, none⟩

theorem witness_SignedCommandsAndFirmware :
    let s := (keyS []).at 50
    s.signer (objW .resetFabric) = some keyW ∧ State.reset.signer (objW .resetFabric) = none ∧ keyW.ctr < (objW .resetFabric).ctr ∧
    State.reset.objectFault (objW .resetFabric) = some 1 ∧ bitAt keyW.classes 4 = true ∧ s.get F.jrnStat_JOURNAL_FULL [] = 0 ∧
    s.innerRefused (.resetModule true) = false ∧ s.innerRefused (.grantSet 7) = false ∧ s.innerRefused (.retireClear [(31, 8)]) = false ∧
    s.innerRefused (.keyRemove 15) = true ∧ s.innerRefused (.svnRaise 1) = true ∧ Tbl.wf s.nv.keys = true ∧ chunkOk 1 1 = true ∧
    chunkOk 0 4096 = true ∧ chunkOk 0 4097 = false ∧ s.rst.wait = none := by decide

/-- The signature itself is an open value: where it verifies, the checks of R430 find nothing. -/
theorem witness_SignedCommandsAndFirmware_accepted (op : InnerOp) (hr : innerRange op = false)
    (h : Config.rsaVerify [] (objDigest (objW op)) 77 = true) : ((keyS []).at 50).objectFault (objW op) = none := by
  have e : ((keyS []).at 50).signer (objW op) = some keyW := rfl
  have m : ((keyS []).at 50).get F.glbId_MODID [] = 0 := by decide
  have n : ((keyS []).at 50).now = 50 := rfl
  simp only [State.objectFault, e, m, n]
  simp [keyW, objW, hr] at h ⊢
  exact h

/-- A row-only set. -/
def rowSet : PlanSet := ⟨true, true, none, 0x4B500001, 8, 0, 3, 8, 0, 4096, some ⟨[], [(0, 31)]⟩, [], 9, 0, 77⟩

theorem witness_PlanStagingChecksArmsAndReleases :
    let s := planS [] [(F.plnStageStatus_STATE, [], 4)]
    let r : Run := ⟨7, planW .control 7 none, 0, 0, 0, true, [], [], [], [], [], []⟩
    let a : Sys2Proof.Machine.State := { s with pln := { staged := some rowSet } }
    let f : Sys2Proof.Machine.State := { s with runs := [r] }
    (stF [(F.plnStageStatus_STATE, [], 1)]).get F.plnStageStatus_STATE [] = 1 ∧ s.checkSet rowSet = some { code := 1 } ∧
    s.get F.plnStageStatus_STATE [] = 4 ∧ a.pln.staged = some rowSet ∧ (∀ q ∈ a.runs, q.old = false) ∧ (∃ q ∈ f.runs, q.old = true) ∧
    (stF [(F.plnStageStatus_STATE, [], 6)]).get F.plnStageStatus_STATE [] = 6 ∧
    (stF [(F.parStat_ROLE, [], 4), (F.plnStageStatus_STATE, [], 3)]).standby = true := by decide

theorem witness_PlanStagingChecksArmsAndReleases_passed (h : Config.rsaVerify [] (BitVec.ofNat 512 0) 77 = true) : (keyS []).checkSet rowSet = none := by
  have e : (keyS []).sigOk rowSet = true := by
    show (true && true && Config.rsaVerify [] (BitVec.ofNat 512 0) 77 && true) = true
    rw [h]; rfl
  unfold State.checkSet
  rw [e]
  decide

/-- The row-only set as it lies in the staging bank: header, and signature block at 0x100. -/
def imageW : Mem :=
  let b := stageBase 0
  [(b, 1), (b + 2, 0x50), (b + 3, 0x4B), (b + 8, 8), (b + 0x18, 3), (b + 0x19, 8), (b + 0x1B, 1), (b + 0x28, 4), (b + 0x29, 3), (b + 0x100, 9), (b + 0x104, 77)]

set_option maxRecDepth 20000 in
/-- Digest and signature are open values: where they are good, CHECK_COMPLETE finds nothing in the image of the staging bank. -/
theorem witness_PlanStagingChecksArmsAndReleases_read (h : Config.rsaVerify [] (BitVec.ofNat 512 0) 77 = true)
    (hd : Config.sha512 (digestInput imageW (stageBase 0) 0x100) = BitVec.ofNat 512 0) :
    ({ keyS [] with hbm := imageW } : Sys2Proof.Machine.State).checkSet (({ keyS [] with hbm := imageW } : Sys2Proof.Machine.State).imageRead 0 ⟨[], some ⟨[], [(0, 31)]⟩⟩ true) = none := by
  have e : ({ keyS [] with hbm := imageW } : Sys2Proof.Machine.State).imageRead 0 ⟨[], some ⟨[], [(0, 31)]⟩⟩ true =
      { rowSet with size := 772, digestOk := decide (Config.sha512 (digestInput imageW (stageBase 0) 0x100) = BitVec.ofNat 512 0) } := rfl
  have k : ({ keyS [] with hbm := imageW } : Sys2Proof.Machine.State).sigOk { rowSet with size := 772 } = true := by
    show (true && true && Config.rsaVerify [] (BitVec.ofNat 512 0) 77 && true) = true
    rw [h]; rfl
  rw [e, decide_eq_true hd]
  show ({ keyS [] with hbm := imageW } : Sys2Proof.Machine.State).checkSet { rowSet with size := 772 } = none
  unfold State.checkSet
  rw [k]
  decide

theorem witness_JournalStagesAndCheckpoints :
    let s : Sys2Proof.Machine.State := { stF [(F.jrnStat_JOURNAL_FULL, [], 1), (F.jrnStat_COALESCE, [], 1), (F.jrnStat_SAFE_HOLD, [], 1)] with jrn := { signing := some 0 } }
    s.get F.jrnStat_JOURNAL_FULL [] = 1 ∧ 2097152 ≤ mainCapacity - s.get F.jrnFill_MAIN [] ∧ s.get F.jrnStat_COALESCE [] = 1 ∧
    s.jrn.signing = some 0 ∧ s.get F.jrnStat_SAFE_HOLD [] = 1 ∧ safeCapacity - s.get F.jrnFill_SAFE [] ≠ 0 ∧ State.reset.jrn.signing = none ∧
    safeCapacity - (stF [(F.jrnFill_SAFE, [], 262144)]).get F.jrnFill_SAFE [] = 0 := by decide

theorem witness_ManagementPort :
    let s := stF []
    let u := (s.at 9).mctp
    let w : Wr := { reg := .capRack, idx := [31], mask := rmMask, val := 7 * 2 ^ 32 }
    let l : Sys2Proof.Machine.State := { s with boot := { mgmtLost := true, pldm := [(1, 20)] } }
    s.boot.mgmtLost = false ∧ l.boot.mgmtLost = true ∧ s.standby = false ∧ s.get F.jrnStat_JOURNAL_FULL [] = 0 ∧ u.loses u.mgmtReq w = false ∧
    (stF [(F.parStat_ROLE, [], 3)]).standby = true ∧ isSensor 0 = false ∧ isSensor 1 = true ∧ isSensor 0x103 = true ∧ Tbl.find l.boot.pldm 1 = some 20 ∧
    Tbl.find l.boot.pldm 0x103 = none := by decide

theorem witness_UnlistedAddressesReadZeroAndDiscardWrites :
    Reg.lookup 0x1C0000 = none ∧ State.reset.prt.cut = none ∧ (0x1C0000 ≤ 0x1FFFF8 ∧ 0x1FFFF8 < 0x200000) ∧ Reg.lookup 0x1FFFF8 = none := by decide

theorem witness_RstNLowsResetOrAreCounted :
    (1050000 : Nat) ≤ 1050000 ∧ 949999 < 950000 ∧ 10500 ≤ 10500 ∧ 9499 < 9500 ∧ State.reset.get F.prtMcStat_STATE [] ≠ 4 := by decide

theorem witness_PromotionVersionsCount :
    let s := promoS 0 0 0 []
    let img : PlanSet := setW [planW (promoRole 0) 7 (some promoW)]
    s.promoEntry 0 = some promoW ∧ promoOf img.plans 0 = some promoW ∧ promoOf s.plans 0 = some promoW ∧ promoOf State.reset.plans 0 = none ∧
    promoOf (promoS 1 0 0 []).plans 1 = some promoW := by decide

theorem witness_StepKeepsCanonical : State.reset.canonical = true ∧ step State.reset = .next State.reset := ⟨by decide, rfl⟩

theorem witness_StepRunsFrontCommand : State.reset.pending = [] := rfl

end Sys2Proof.Tests
end

section
/-!
PROOFS. Statement O59 (R300): the datagrams an Ethernet port drops and counts, and the port that receives nothing.
-/
namespace Sys2Proof.Machine

/-- What a dropped datagram leaves: one more in `OBS_ING[j].OTHER`, and nothing else but the time (R300). -/
def State.droppedOther (s : State) (t : Tai) (j : Nat) : State := (s.at t).bump F.obsIng0_OTHER [j] 1

section PortReceives
variable (s : State) (j : Nat)

theorem State.ethOn_iff : s.ethOn j = true ↔ s.get F.telPortCfg_EN [j] ≠ 0 ∧ s.get F.telPortStat_LINK [j] ≠ 0 := by
  simp [State.ethOn, State.on]

variable {s j}

/-- A port that does not receive runs no PTP, even where `TEL_PTP_CFG` asks for it (R300). -/
theorem State.ptpRuns_of_not_ethOn (h : ¬ s.ethOn j) : ¬ s.ptpRuns j := by
  simp only [State.ptpRuns, Bool.and_eq_true, not_and]
  exact fun _ => h

theorem State.datagram_of_not_ethOn (d : Datagram) (h : ¬ s.ethOn j) : s.datagram j d = s := if_pos h

/-- A datagram that is not to the port's own address and ingest port, or has a bad checksum, is none of the port's own. -/
theorem State.datagram_of_other {d : Datagram} (h : s.ethOn j)
    (hd : d.dstOk = false ∨ d.udpPort ≠ s.get F.telIngCfg_UDP_PORT [] ∨ d.checksumOk = false) :
    s.datagram j d = s.bump F.obsIng0_OTHER [j] 1 := by
  unfold State.datagram
  rw [if_neg (not_not_intro h), if_pos (by simpa only [Bool.not_eq_true] using hd)]

end PortReceives

section Dropped
variable (s : State) (t : Tai) (j : Nat)

@[simp] theorem State.droppedOther_out : (s.droppedOther t j).out = [] := rfl
@[simp] theorem State.droppedOther_jrn : (s.droppedOther t j).jrn = s.jrn := rfl
@[simp] theorem State.droppedOther_hst : (s.droppedOther t j).hst = s.hst := rfl

theorem State.unitsKept_droppedOther : s.unitsKept (s.droppedOther t j) := rfl

theorem State.regsKept_droppedOther : s.regsKept (s.droppedOther t j) [Reg.off .obsIng0 [j]] :=
  fun _ ha => find_rset_of_notMem ha (List.mem_singleton_self _)

theorem State.get_droppedOther :
    (s.droppedOther t j).get F.obsIng0_OTHER [j] = min (s.get F.obsIng0_OTHER [j] + 1) (2 ^ F.obsIng0_OTHER.width - 1) :=
  State.get_bump_self (s.at t) F.obsIng0_OTHER [j] 1

end Dropped

section Commands
variable {s : State} {j : Fin 2} (t : Tai)

theorem exec_otherDatagram (d : Datagram) :
    exec (.otherDatagram t j d) s = .next (if s.ethOn j then s.droppedOther t j else s.at t) := rfl

theorem exec_ingestDatagram (d : Datagram) : exec (.ingestDatagram t j d) s = .next ((s.at t).datagram j d) := rfl

theorem exec_icmpv6Echo_of_not_ethOn (p : List Byte) (h : ¬ s.ethOn j) : exec (.icmpv6Echo t j p) s = .next (s.at t) :=
  congrArg _ (if_neg fun ⟨on, _⟩ => h on)

theorem exec_neighbourDiscovery_of_not_ethOn (b : Bool) (h : ¬ s.ethOn j) :
    exec (.neighbourDiscovery t j b) s = .next (s.at t) :=
  congrArg _ (if_neg fun ⟨on, _⟩ => h on)

theorem exec_ptpSync_of_not_ptpRuns (m : SyncMeas) (h : ¬ s.ptpRuns j) : exec (.ptpSync t j m) s = .next (s.at t) :=
  if_pos (.inl h)

theorem exec_ptpAnnounce_of_not_ptpRuns (a : Announce) (h : ¬ s.ptpRuns j) : exec (.ptpAnnounce t j a) s = .next (s.at t) :=
  if_pos (.inl h)

theorem exec_ptpDelayResp_of_not_ptpRuns (x : Int) (h : ¬ s.ptpRuns j) : exec (.ptpDelayResp t j x) s = .next (s.at t) :=
  congrArg _ (if_neg h)

end Commands

/-- Settles O59: both kinds of dropped datagram end in `State.droppedOther`, and every command of a port that does not receive
stops at its guard. -/
theorem portsDropAndCountOtherDatagrams : Obligations.PortsDropAndCountOtherDatagrams := by
  intro t j d s live counted
  have live_iff : s.ethOn j = true ↔ live := s.ethOn_iff j
  have dropped : counted (s.droppedOther t j) :=
    ⟨s.unitsKept_droppedOther t j, s.regsKept_droppedOther t j, s.droppedOther_out t j, s.droppedOther_jrn t j,
      s.droppedOther_hst t j, s.get_droppedOther t j⟩
  refine ⟨fun on => ?other, fun on bad => ?ingest, fun off => ?silent⟩
  case other => exact ⟨_, (exec_otherDatagram t d).trans (congrArg _ (if_pos (live_iff.2 on))), dropped⟩
  case ingest =>
    exact ⟨_, (exec_ingestDatagram t d).trans (congrArg _ (State.datagram_of_other (s := s.at t) (live_iff.2 on) bad)), dropped⟩
  case silent =>
    have deaf : ¬ s.ethOn j := fun h => off (live_iff.1 h)
    have noPtp : ¬ s.ptpRuns j := State.ptpRuns_of_not_ethOn deaf
    exact ⟨(exec_otherDatagram t d).trans (congrArg _ (if_neg deaf)),
      (exec_ingestDatagram t d).trans (congrArg _ (State.datagram_of_not_ethOn (s := s.at t) d deaf)),
      fun p => exec_icmpv6Echo_of_not_ethOn t p deaf, fun b => exec_neighbourDiscovery_of_not_ethOn t b deaf,
      fun m => exec_ptpSync_of_not_ptpRuns t m noPtp, fun a => exec_ptpAnnounce_of_not_ptpRuns t a noPtp,
      fun x => exec_ptpDelayResp_of_not_ptpRuns t x noPtp⟩

end Sys2Proof.Machine
end

section
/-!
PROOFS. Statement O58 (R386): the whole-module reset of a long low of RST_N, and the glitch that a shorter one counts as.
-/
namespace Sys2Proof.Machine

/-- The whole-module reset's threshold in nanoseconds, as measured on the companion's own oscillator: 1 ms to ±5 % (R386). -/
def State.resetLow (s : State) : Nat := 950000 + s.drawn % 100001

/-- The glitch's threshold in nanoseconds, as measured: 10 µs to ±5 % (R386). -/
def State.glitchLow (s : State) : Nat := 9500 + s.draw.drawn % 1001

/-- RST_N has risen at `t` and the low is measured: both thresholds took their free value. -/
def State.lowMeasured (s : State) (t : Tai) : State := (s.at t).draw.draw

/-- A glitch is shown in `GLB_STAT` and counted in `GLB_CNT`. -/
def State.glitchShown (s : State) : State := (s.set F.glbStat_RST_GLITCH [] 1).bump F.glbCnt_RST_GLITCH [] 1

/-- The note of a glitch, which the companion journals. -/
def glitchNote : Note := { who := 12, cls := 0xD, item := 5, obj := Reg.off .glbStat [], new := 1 }

/-- A low that counts as a glitch (R386). -/
def State.glitched (s : State) : State := s.glitchShown.note glitchNote

section Thresholds
variable (s : State)

theorem State.resetLow_bounds : 950000 ≤ s.resetLow ∧ s.resetLow ≤ 1050000 := by
  unfold State.resetLow; omega

theorem State.glitchLow_bounds : 9500 ≤ s.glitchLow ∧ s.glitchLow ≤ 10500 := by
  unfold State.glitchLow; omega

end Thresholds

section Commands
variable {s : State} (t : Tai) {low : Nat}

theorem exec_rstN_of_resetLow_le (h : s.resetLow ≤ low) : exec (.rstN t low) s = .next ((s.lowMeasured t).wholeReset 1) := if_pos h

theorem exec_rstN_of_glitchLow_le (h : low < s.resetLow) (g : s.glitchLow ≤ low) :
    exec (.rstN t low) s = .next (s.lowMeasured t).glitched :=
  (if_neg (Nat.not_le.2 h)).trans (if_pos g)

theorem exec_rstN_of_lt_glitchLow (h : low < s.resetLow) (g : low < s.glitchLow) : exec (.rstN t low) s = .next (s.lowMeasured t) :=
  (if_neg (Nat.not_le.2 h)).trans (if_neg (Nat.not_le.2 g))

end Commands

section WholeReset
variable (s : State) {cause : Nat}

theorem State.get_startUp_PHASE : s.startUp.get F.glbStat_PHASE [] = 1 :=
  (State.get_set_disjoint _ F.glbStat_ERR_N F.glbStat_PHASE _ _).trans (State.get_set_self _ _ _ _)

theorem State.get_startUp_RESET_CAUSE : s.startUp.get F.glbStat_RESET_CAUSE [] = s.get F.glbStat_RESET_CAUSE [] :=
  (State.get_set_disjoint _ F.glbStat_ERR_N F.glbStat_RESET_CAUSE _ _).trans
    (State.get_set_disjoint _ F.glbStat_PHASE F.glbStat_RESET_CAUSE _ _)

/-- The state from which a whole-module reset starts up: the reset state with the boot flash, the fuses and the key store kept, and the
cause shown. -/
def State.resetTo (cause : Nat) : State :=
  { State.reset with
    pending := s.pending, now := s.now, free := s.free, out := s.out, nv := s.nv,
    boot := { inserted := s.boot.inserted, peer := s.boot.peer } }.set F.glbStat_RESET_CAUSE []
      (if s.get F.prtMcStat_STATE [] = 4 then 3 else cause)

theorem State.get_resetTo_RESET_CAUSE (h : cause < 8) :
    (s.resetTo cause).get F.glbStat_RESET_CAUSE [] = if s.get F.prtMcStat_STATE [] = 4 then 3 else cause := by
  refine (State.get_set_self _ _ _ _).trans (Nat.mod_eq_of_lt ?_)
  split
  · decide
  · exact h

/-- A reset with the 54 V input good is followed by start-up (R368). -/
theorem State.wholeReset_of_ne_zero (h : cause ≠ 0) : s.wholeReset cause = (s.resetTo cause).startUp := if_neg h

end WholeReset

theorem glbStat_notMem_noteOffs : Reg.off .glbStat [] ∉ noteOffs := by decide

theorem glbCnt_notMem_noteOffs : Reg.off .glbCnt [] ∉ noteOffs := by decide

theorem State.Journals.unitsKept {s s' : State} (h : s.Journals s') : s.unitsKept s' := by
  have now := congrArg State.now h.same
  dsimp only at now
  rw [State.unitsKept, now]
  exact h.same

/-- What a command keeps after RST_N was measured, it keeps of the state before, but for the free values that were taken. -/
theorem State.unitsKept_of_lowMeasured {s s' : State} {t : Tai} (h : (s.lowMeasured t).unitsKept s') :
    s.unitsKept { s' with free := s.free } := by
  have h' := congrArg (fun u : State => { u with free := s.free }) h
  exact h'

/-- A companion note that raises no host event is one entry to the companion's journal store. -/
theorem State.note_eq_journalC (s : State) {e : Note} (hw : 9 ≤ e.who) (hr : e.raised = none) :
    ∃ j : JEntry, j.kind = kEvent ∧ j.object = e.obj ∧ s.note e = s.journalC j := by
  refine ⟨{ s.entry 1 (e.who + 256 * e.idx) kEvent e.reason e.obj with
    old := e.old, new := e.new, data := e.data, flags := if e.safety then jSafety else 0 }, rfl, rfl, ?_⟩
  simp only [State.note, hr, if_neg (Nat.not_lt.2 hw)]

section Glitch
variable (s : State)

theorem State.get_glitchShown_GLITCH : s.glitchShown.get F.glbStat_RST_GLITCH [] = 1 :=
  (State.get_set_ne _ F.glbCnt_RST_GLITCH F.glbStat_RST_GLITCH _ _ _ (by decide)).trans (State.get_set_self _ _ _ _)

theorem State.get_glitchShown_PHASE : s.glitchShown.get F.glbStat_PHASE [] = s.get F.glbStat_PHASE [] :=
  (State.get_set_ne _ F.glbCnt_RST_GLITCH F.glbStat_PHASE _ _ _ (by decide)).trans
    (State.get_set_disjoint _ F.glbStat_RST_GLITCH F.glbStat_PHASE _ _)

theorem State.get_glitchShown_count : s.glitchShown.get F.glbCnt_RST_GLITCH [] = min (s.get F.glbCnt_RST_GLITCH [] + 1) 65535 := by
  refine (State.get_bump_self _ F.glbCnt_RST_GLITCH _ _).trans ?_
  rw [State.get_set_ne _ _ _ _ _ _ (by decide)]
  rfl

theorem State.get_glitched_GLITCH : s.glitched.get F.glbStat_RST_GLITCH [] = 1 :=
  (State.get_note _ _ _ _ glbStat_notMem_noteOffs).trans s.get_glitchShown_GLITCH

theorem State.get_glitched_PHASE : s.glitched.get F.glbStat_PHASE [] = s.get F.glbStat_PHASE [] :=
  (State.get_note _ _ _ _ glbStat_notMem_noteOffs).trans s.get_glitchShown_PHASE

theorem State.get_glitched_count : s.glitched.get F.glbCnt_RST_GLITCH [] = min (s.get F.glbCnt_RST_GLITCH [] + 1) 65535 :=
  (State.get_note _ _ _ _ glbCnt_notMem_noteOffs).trans s.get_glitchShown_count

theorem State.unitsKept_glitched : s.unitsKept s.glitched := (s.glitchShown.journals_note glitchNote).unitsKept

theorem State.regsKept_glitched : s.regsKept s.glitched (Reg.off .glbStat [] :: Reg.off .glbCnt [] :: noteOffs) := fun a ha =>
  calc Tbl.find s.glitched.regs a
    _ = Tbl.find s.glitchShown.regs a := State.find_note_of_notMem ha (by simp)
    _ = Tbl.find (s.set F.glbStat_RST_GLITCH [] 1).regs a := find_rset_of_notMem ha (.tail _ (.head _))
    _ = Tbl.find s.regs a := find_rset_of_notMem ha (.head _)

end Glitch

/-- Settles O58: the two thresholds lie within ±5 % of 1 ms and of 10 µs, and the command compares the low with them, so it ends in
`State.wholeReset`, in `State.glitched` or in the measured state itself. -/
theorem rstNLowsResetOrAreCounted : Obligations.RstNLowsResetOrAreCounted := by
  intro t low s resets kept counted
  obtain ⟨reset_ge, reset_le⟩ := s.resetLow_bounds
  obtain ⟨glitch_ge, glitch_le⟩ := s.glitchLow_bounds
  let m := s.lowMeasured t
  have doesReset : resets (m.wholeReset 1) := by
    rw [m.wholeReset_of_ne_zero Nat.one_ne_zero]
    exact ⟨rfl, State.get_startUp_PHASE _, rfl, rfl, rfl, rfl,
      (State.get_startUp_RESET_CAUSE _).trans (m.get_resetTo_RESET_CAUSE (by decide))⟩
  have keepsGlitched : kept m.glitched :=
    ⟨State.unitsKept_of_lowMeasured m.unitsKept_glitched, m.regsKept_glitched, m.get_glitched_PHASE⟩
  have countsGlitched : counted m.glitched := by
    obtain ⟨e, kind, object, journalled⟩ := m.glitchShown.note_eq_journalC (e := glitchNote) (by decide) rfl
    exact ⟨m.get_glitched_GLITCH, m.get_glitched_count, m.glitchShown, e, rfl, rfl, kind, object, congrArg State.jrn journalled⟩
  have keepsMeasured : kept m := ⟨rfl, fun _ _ => rfl, rfl⟩
  refine ⟨fun long => ?reset, fun short => ?keep, fun glitch short => ?count, fun brief => ?ignore, ?any⟩
  case reset => exact ⟨_, exec_rstN_of_resetLow_le t (by omega), doesReset⟩
  case count => exact ⟨_, exec_rstN_of_glitchLow_le t (by omega) (by omega), countsGlitched⟩
  case ignore => exact ⟨_, exec_rstN_of_lt_glitchLow t (by omega) (by omega), rfl, rfl⟩
  case keep =>
    rcases Nat.lt_or_ge low s.glitchLow with g | g
    · exact ⟨_, exec_rstN_of_lt_glitchLow t (by omega) g, keepsMeasured⟩
    · exact ⟨_, exec_rstN_of_glitchLow_le t (by omega) g, keepsGlitched⟩
  case any =>
    rcases Nat.lt_or_ge low s.resetLow with h | h
    · rcases Nat.lt_or_ge low s.glitchLow with g | g
      · exact ⟨_, exec_rstN_of_lt_glitchLow t h g, .inr ⟨keepsMeasured, .inr ⟨by omega, rfl, rfl⟩⟩⟩
      · exact ⟨_, exec_rstN_of_glitchLow_le t h g, .inr ⟨keepsGlitched, .inl countsGlitched⟩⟩
    · exact ⟨_, exec_rstN_of_resetLow_le t h, .inl doesReset⟩

end Sys2Proof.Machine
end

section
/-!
PROOFS. Statement O57 (R445): reads and writes of offsets that no table lists, and the reserved regions of Table 20.1.
-/
namespace Sys2Proof.Machine

section RingEvents
variable (s : State)

theorem State.message_jrn (v : Nat) : (s.message v).jrn = s.jrn := by
  unfold State.message
  split <;> rfl

theorem State.signalVec_jrn (v : Nat) : (s.signalVec v).jrn = s.jrn := by
  unfold State.signalVec
  dsimp only
  split
  · rfl
  · exact State.message_jrn _ v

theorem State.publish_jrn (i vec : Nat) : (s.publish i vec).jrn = s.jrn := by
  unfold State.publish
  dsimp only
  split
  · exact State.signalVec_jrn _ vec
  · rfl

theorem State.lostReport_jrn : s.lostReport.jrn = s.jrn := by
  unfold State.lostReport
  split
  · exact State.publish_jrn _ 1 0
  · rfl

/-- Raising a host event writes no journal entry. -/
theorem State.hostEvent_jrn (type sev tag code data : Nat) : (s.hostEvent type sev tag code data).jrn = s.jrn := by
  unfold State.hostEvent
  dsimp only
  split
  · rfl
  · split
    · exact s.lostReport_jrn
    · exact (State.publish_jrn _ 1 _).trans s.lostReport_jrn

theorem State.refusedEvent_jrn (always : Bool) (act off : Nat) : (s.refusedEvent always act off).jrn = s.jrn := by
  unfold State.refusedEvent
  split
  · exact s.hostEvent_jrn _ _ _ _ _
  · rfl

theorem State.journals_refusedEvent (always : Bool) (act off : Nat) : s.Journals (s.refusedEvent always act off) := by
  unfold State.refusedEvent
  split
  · exact s.journals_hostEvent _ _ _ _ _
  · exact .rfl' s

/-- An entry about a write journals one entry of the kind, with the action in its REASON, the offset and the value asked for. -/
theorem State.writeEntry_eq_journal (q : Req) (kind act off old new priv data : Nat) :
    ∃ e : JEntry, e.kind = kind ∧ e.reason = 256 * act ∧ e.object = off ∧ e.new = new ∧
      s.writeEntry q kind act off old new priv data = s.journal e :=
  ⟨_, rfl, rfl, rfl, rfl, rfl⟩

end RingEvents

theorem State.unitsKept_trans {a b c : State} (h : a.unitsKept b) (k : b.unitsKept c) : a.unitsKept c := by
  have e := k
  rw [State.unitsKept, h] at e
  exact e

theorem hstStat_notMem_noteOffs : Reg.off .hstStat [] ∉ noteOffs := by decide

section Discard
variable (s : State) (q : Req) (act off val priv : Nat)

/-- Beside BAD_WR, a discarded write changes what its entry and its event may change. -/
theorem State.journals_discard : (s.bump F.hstStat_BAD_WR [] 1).Journals (s.discard q act off val priv) :=
  (State.journals_journal _ _).trans (State.journals_refusedEvent _ _ _ _)

theorem State.unitsKept_discard : s.unitsKept (s.discard q act off val priv) :=
  State.unitsKept_trans (b := s.bump F.hstStat_BAD_WR [] 1) rfl (s.journals_discard q act off val priv).unitsKept

theorem State.regsKept_discard : s.regsKept (s.discard q act off val priv) (Reg.off .hstStat [] :: noteOffs) := fun a ha =>
  ((s.journals_discard q act off val priv).regs a fun h => ha (.tail _ h)).trans (find_rset_of_notMem ha (.head _))

theorem State.get_discard_BAD_WR : (s.discard q act off val priv).get F.hstStat_BAD_WR [] =
    min (s.get F.hstStat_BAD_WR [] + 1) (2 ^ F.hstStat_BAD_WR.width - 1) :=
  ((s.journals_discard q act off val priv).get _ _ hstStat_notMem_noteOffs).trans (s.get_bump_self _ _ _)

theorem State.discard_jrn : (s.discard q act off val priv).jrn =
    ((s.bump F.hstStat_BAD_WR [] 1).writeEntry q kRefused act off 0 val priv 0).jrn := State.refusedEvent_jrn _ _ _ _

end Discard

theorem State.readBar0_of_lookup_eq_none {off : Nat} (s : State) (h : Reg.lookup off = none) : s.readBar0 off = 0 := by
  rw [State.readBar0, h]

/-- A direct BAR0 write where no table lists a register is discarded, aligned or not (R324, R445). -/
theorem exec_registerWrite_of_lookup_eq_none {s : State} {off : Nat} (t : Tai) (v : Word) (h : Reg.lookup off = none)
    (cut : s.prt.cut = none) :
    exec (.registerWrite t off 8 v) s = .next ((s.at t).discard ((s.at t).hostReq 0xFFFF) 2 off v.toNat 0xFF) := by
  have on : ¬ (s.at t).prt.cut.isSome := by simp [cut]
  change execRegisterWrite t off 8 v s = _
  rw [execRegisterWrite, if_neg on, h]
  exact ite_self _

/-- The distance from a register's first instance to its last. -/
def Reg.span (r : Reg) : Nat := (r.dims.map fun d => d.1 * (d.2 - 1)).sum

/-- What strides and counts reach lies within the sum of each stride times its greatest index. -/
theorem le_of_indicesAt_eq_some {dims : List (Nat × Nat)} {d : Nat} {l : List Nat} (h : indicesAt dims d = some l) :
    d ≤ (dims.map fun e => e.1 * (e.2 - 1)).sum := by
  induction dims generalizing d l with
  | nil =>
    rw [indicesAt] at h
    split at h
    · next atOrigin => exact Nat.le_of_eq atOrigin
    · cases h
  | cons e r ih =>
    obtain ⟨stride, count⟩ := e
    rw [indicesAt] at h
    split at h
    · next inRange =>
      obtain ⟨rest, reached, -⟩ := Option.map_eq_some_iff.1 h
      calc d
        _ = stride * (d / stride) + d % stride := (Nat.div_add_mod d stride).symm
        _ ≤ stride * (count - 1) + (r.map fun e => e.1 * (e.2 - 1)).sum :=
            Nat.add_le_add (Nat.mul_le_mul_left _ (Nat.le_sub_one_of_lt inRange)) (ih reached)
    · cases h

/-- A register lies nowhere outside its extent. -/
theorem Reg.indexAt_eq_none {r : Reg} {off : Nat} (h : off < r.base ∨ r.base + r.span < off) : r.indexAt off = none := by
  rw [Reg.indexAt]
  split
  · rfl
  · next above =>
    refine Option.eq_none_iff_forall_ne_some.2 fun l hl => ?_
    have := le_of_indicesAt_eq_some hl
    unfold Reg.span at h
    omega

/-- The regions of Table 20.1 that are not reserved, each from its first offset to the first behind it. -/
def listedRegions : List (Nat × Nat) :=
  [(0, 0x1C0000), (0x200000, 0x220000), (0x400000, 0x500000), (0x800000, 0x810000), (0x1000000, 0x1100000)]

/-- Every register lies, with all its instances, in one region that is not reserved. -/
theorem Reg.exists_listedRegion (r : Reg) : ∃ w ∈ listedRegions, w.1 ≤ r.base ∧ r.base + r.span < w.2 := by
  cases r <;> decide

theorem Reg.lookup_eq_none_of_outside {off : Nat} (h : ∀ w ∈ listedRegions, off < w.1 ∨ w.2 ≤ off) : Reg.lookup off = none := by
  refine List.findSome?_eq_none_iff.2 fun r _ => ?_
  obtain ⟨w, hw, first, last⟩ := Reg.exists_listedRegion r
  have outside := h w hw
  rw [Reg.indexAt_eq_none (by omega)]
  rfl

/-- Settles O57: a write of an offset that is not listed ends in `State.discard`, and no register's extent meets a reserved region. -/
theorem unlistedAddressesReadZeroAndDiscardWrites : Obligations.UnlistedAddressesReadZeroAndDiscardWrites := by
  refine ⟨fun t off v s unlisted => ⟨s.readBar0_of_lookup_eq_none unlisted, fun cut => ?write⟩, fun off reserved => ?lookup⟩
  case write =>
    let u := s.at t
    let q := u.hostReq 0xFFFF
    refine ⟨_, exec_registerWrite_of_lookup_eq_none t v unlisted cut,
      State.unitsKept_trans (b := u) rfl (u.unitsKept_discard q _ _ _ _), u.regsKept_discard q _ _ _ _,
      u.get_discard_BAD_WR q _ _ _ _, ?_⟩
    obtain ⟨e, kind, reason, object, new, journalled⟩ :=
      (u.bump F.hstStat_BAD_WR [] 1).writeEntry_eq_journal q kRefused 2 off 0 v.toNat 0xFF 0
    exact ⟨e, kind, by rw [reason], by rw [reason], object, new, (u.discard_jrn q _ _ _ _).trans (congrArg State.jrn journalled)⟩
  case lookup =>
    refine Reg.lookup_eq_none_of_outside ?_
    simp only [listedRegions, List.mem_cons, List.not_mem_nil, or_false, forall_eq_or_imp, forall_eq]
    omega

end Sys2Proof.Machine
end
